-- ==== Sys2Proof/Word.lean ====
section
/-! DEFINITION. The byte that crosses the pins and the saturating counter of section 7 of spec/00_scope.md. -/

namespace Sys2Proof

/-- One byte on the reel link or on a serial line. -/
abbrev Byte := BitVec 8

/-- A counter of `cap` at most, raised by `n` (00_scope.md section 7: counters saturate at their largest value). -/
def satAdd (cap n count : Nat) : Nat := min cap (count + n)

/-- The 32-bit saturating device counter, raised by `n`. -/
def bump32 (n count : Nat) : Nat := satAdd 4294967295 n count

end Sys2Proof
end

