-- ==== Sys2Proof/Syntax.lean ====
section
/-! DEFINITION. The commands the block takes: one constructor of Instr for each row of spec/opcode_table.json, with its operands. -/

namespace Sys2Proof

/-- The ten lanes (section 3.1 of 00_scope.md): P0 and P1, S0 to S3, T0 to T3. -/
inductive Lane where
  | pic (i : Fin 2)
  | snd (i : Fin 4)
  | txt (i : Fin 4)
  deriving DecidableEq, Repr

/-- The six lanes that have a lead and can be held (section 3.3 of 03_reel_buffer_and_lead_control.md). -/
inductive AvLane where
  | pic (i : Fin 2)
  | snd (i : Fin 4)
  deriving DecidableEq, Repr

/-- The three pulse inputs of the Sync Measurement Unit (section 6.4). -/
inductive Channel where
  | light | echo | frame
  deriving DecidableEq, Repr

/-- The two edges of a pulse input (R104). -/
inductive Edge where
  | rising | falling
  deriving DecidableEq, Repr

/-- A value of the booth day clock (R59). -/
structure TimeOfDay where
  day : Nat
  hour : Nat
  minute : Nat
  second : Nat
  deriving DecidableEq, Repr

/-- The arguments of START sent by command (R70, section 11.3): fields as the payload carries them, before any range test. -/
structure StartArgs where
  slot : Nat
  mode : Nat
  time : TimeOfDay
  allowance : Option Nat
  deriving DecidableEq, Repr

/-- The arguments of LOAD_ALLOWANCE (R129, section 11.3). -/
structure AllowanceArgs where
  index : Nat
  comp : Nat
  fromDay : Nat
  fromMinute : Nat
  untilDay : Nat
  untilMinute : Nat
  allowed : Option Nat
  deriving DecidableEq, Repr

/-- One entry of the schedule queue, also the arguments of SCHEDULE_ADD (section 4.7, section 11.3). -/
structure SchedEntry where
  ident : Nat
  day : Nat
  minute : Nat
  comp : Nat
  allowance : Option Nat
  deriving DecidableEq, Repr

/-- One entry of LOAD_ACTIONS as its twelve bytes carry it (section 11.3).  `f0`, `f1` are the first two trigger bytes and
`offset` the signed value of the last four. -/
structure ActionArgs where
  enabled : Bool
  kind : Nat
  f0 : Nat
  f1 : Nat
  offset : Int
  address : Nat
  command : Nat
  data : Nat
  deriving DecidableEq, Repr

/-- One triple of LOAD_ROUTING as its three bytes carry it (R97): codes of a lane, a channel and an output. -/
structure RouteArgs where
  lane : Nat
  channel : Nat
  output : Nat
  deriving DecidableEq, Repr

/-- One setting of SET_EVENT_MASK (R149). -/
structure MaskArgs where
  kind : Nat
  onAssert : Bool
  onDeassert : Bool
  deriving DecidableEq, Repr

/-- One setting of SET_LIMITS (R160). -/
structure LimitArgs where
  number : Nat
  value : Nat
  deriving DecidableEq, Repr

/-- The commands and events of the part, one for each row of spec/opcode_table.json.  `tag` is the 16-bit tag of a management
command (section 10.1). -/
inductive Instr where
  | signalDetect
  | signalLoss
  | trainingAttemptTimer
  | retrainWordReceived
  | abilityWordReceived (payloadClass : Nat) (laneCounts : List Nat)
  /-- `bytes` is everything after the first-byte mark; `cut` says that a new first-byte mark ended the cell (R6). -/
  | cellReceived (bytes : List Byte) (cut : Bool)
  | reportSent
  | leadFallToLowMark (lane : AvLane)
  | holdRefreshTimer (lane : AvLane)
  | secondRoll
  | heartbeatExpiry
  | identify (tag : Nat)
  | setClock (tag : Nat) (time : TimeOfDay)
  | setLimits (tag : Nat) (settings : List LimitArgs)
  | readStatus (tag : Nat)
  | readCounters (tag : Nat)
  | keepalive (tag : Nat)
  | restart (tag : Nat)
  /-- `args` is the payload after the tag (section 11.4). -/
  | loadComposition (tag : Nat) (args : List Byte)
  | clearSlot (tag : Nat) (slot : Nat)
  | loadRouting (tag : Nat) (map : Nat) (routes : List RouteArgs)
  | loadActions (tag : Nat) (first : Nat) (entries : List ActionArgs)
  | setEventMask (tag : Nat) (settings : List MaskArgs)
  | readEvent (tag : Nat) (kind : Nat)
  | loadAllowance (tag : Nat) (args : AllowanceArgs)
  | revokeAllowance (tag : Nat) (index : Nat)
  | clearAllowance (tag : Nat) (index : Nat)
  | readLog (tag : Nat) (first : Nat) (count : Nat)
  | markExported (tag : Nat) (number : Nat)
  | scheduleAdd (tag : Nat) (entry : SchedEntry)
  | scheduleCancel (tag : Nat) (ident : Nat)
  | scheduleClear (tag : Nat)
  | readSchedule (tag : Nat)
  | start (tag : Nat) (args : StartArgs)
  | pause (tag : Nat)
  | resume (tag : Nat)
  | stop (tag : Nat)
  | setSync (tag : Nat) (delay : Int)
  | syncCheck (tag : Nat) (auto : Bool)
  /-- `payload` is the whole payload of a MANAGE cell that names none of the 28 commands or has no readable tag. -/
  | unknownCommandCell (payload : List Byte)
  | cueLimitExpiry
  | pictureReleaseInstant
  | unitIntervalEnd
  | gapEnd
  | compositionEnd
  | stallLimitExpiry
  | intermissionExpiry
  | heldPictureResend
  | soundReleaseInstant
  | captureEdge (channel : Channel) (edge : Edge)
  | captureCountTimeout (channel : Channel)
  | frameSignalLoss
  | captionMessageSent
  | captionSpacingEnd
  /-- `ok` says whether the write completed or failed (R140). -/
  | storeWriteEnd (ok : Bool)
  | startupReadEnd
  | boothMessageSent
  | boothSpacingEnd
  | powerOn
  | resetLine
  | resetPinRelease
  | fillCellSent
  | powerLoss
  deriving DecidableEq, Repr

end Sys2Proof
end

