-- ==== Sys2Proof/Decode.lean ====
section
/-! DEFINITION. The words of spec/opcode_table.json: no row of the table gives bits, so no word spells a command. -/

namespace Sys2Proof

/-- The command that a word of the opcode table spells.  The table gives no row any bits (every row's list of fields is
empty), so the answer is always none; the commands that travel as bytes are read by `Machine.serveCell` from the payload of
a MANAGE cell. -/
def decodeTableWord (_nbits _w : Nat) : Option Instr := none

end Sys2Proof
end

