-- ==== Sys2Proof/Machine/Bytes.lean ====
section
/-! DEFINITION. Byte order, the 32-bit check word, and the check byte of the two serial lines (chapter 11). -/

namespace Sys2Proof.Machine

/-- The value of bytes sent least significant first (section 11.1). -/
def leNat : List Byte → Nat
  | [] => 0
  | b :: bs => b.toNat + 256 * leNat bs

/-- `n` as `width` bytes, least significant first (section 11.1). -/
def leBytes : Nat → Nat → List Byte
  | 0, _ => []
  | width + 1, n => BitVec.ofNat 8 n :: leBytes width (n / 256)

/-- A two's complement value of `bits` bits (section 11.1). -/
def signed (bits n : Nat) : Int := if n < 2 ^ (bits - 1) then (n : Int) else (n : Int) - (2 ^ bits : Nat)

/-- The first `n` bytes and the rest, or none where there are fewer. -/
def takeBytes : Nat → List Byte → Option (List Byte × List Byte)
  | 0, bs => some ([], bs)
  | _ + 1, [] => none
  | n + 1, b :: bs => (takeBytes n bs).map (fun (x : List Byte × List Byte) => (b :: x.1, x.2))

/-- A field of `width` bytes and the rest, or none where there are fewer. -/
def takeNat (width : Nat) (bs : List Byte) : Option (Nat × List Byte) :=
  (takeBytes width bs).map (fun x => (leNat x.1, x.2))

/-- One bit of the check register: the generator 0x04C11DB7 with the least significant bit first (R7). -/
def crcBit (r : BitVec 32) : BitVec 32 := if r.getLsbD 0 then (r >>> 1) ^^^ 0xEDB88320#32 else r >>> 1

/-- One byte through the check register (R7). -/
def crcByte (r : BitVec 32) (b : Byte) : BitVec 32 :=
  crcBit (crcBit (crcBit (crcBit (crcBit (crcBit (crcBit (crcBit (r ^^^ b.setWidth 32))))))))

/-- The check word over some bytes (R7): preset to ones, inverted at the end. -/
def checkWord (bs : List Byte) : Nat := (~~~ (bs.foldl crcByte 0xFFFFFFFF#32)).toNat

/-- The check byte that makes a message sum to 0 modulo 256 (R156, section 11.7). -/
def checkByte (bs : List Byte) : Byte := BitVec.ofNat 8 (256 - (bs.foldl (fun n b => n + b.toNat) 0) % 256)

/-- The bytes of a message with its check byte. -/
def withCheckByte (bs : List Byte) : List Byte := bs ++ [checkByte bs]

end Sys2Proof.Machine
end

