-- ==== Sys2Proof/Config.lean ====
section
/-! DEFINITION. The sizes and times the manual fixes for the part, and the values it leaves open (opaque constants). -/

namespace Sys2Proof.Config

/-- Show ticks in one second (00_scope.md section 5). -/
abbrev ticksPerSecond : Nat := 96000
/-- Show ticks in one millisecond. -/
abbrev ticksPerMs : Nat := 96
/-- Places of the report queue (R11). -/
abbrev reportPlaces : Nat := 64
/-- A MANAGE cell is executed only below this many queued reports (R14). -/
abbrev manageRoom : Nat := 48
/-- Show ticks between two training attempts: 100 ms (R2). -/
abbrev attemptTicks : Nat := 9600
/-- Consecutive OVERLONG_DAMAGED cells that retrain the link (R8). -/
abbrev retrainCells : Nat := 8
/-- Damaged cells in one second that assert CELL_DAMAGE (R10). -/
abbrev damageCells : Nat := 17
/-- Blocks of the frame store (section 3.1 of 03_reel_buffer_and_lead_control.md). -/
abbrev blocks : Nat := 32768
/-- Bytes of one block. -/
abbrev blockBytes : Nat := 65536
/-- Free blocks at which BUFFER_FULL is deasserted (R47). -/
abbrev blocksClear : Nat := 2048
/-- Assembly slots of one lane (section 2.3 of 02_unpacking_wanted_reels_and_unit_assembly.md). -/
abbrev laneSlots : Nat := 4
/-- Reel entries of the whole Composition Store (R57). -/
abbrev reelEntries : Nat := 128
/-- Places of the schedule queue (R62). -/
abbrev schedulePlaces : Nat := 16
/-- Consecutive missing releases that stall a showing (R82). -/
abbrev stallMissing : Nat := 12
/-- Releases of a clean run (R79, R95). -/
abbrev cleanReleases : Nat := 96
/-- The largest sound delay, either way (R100). -/
abbrev delayMax : Nat := 24000
/-- The count at which a capture channel gives up (R104). -/
abbrev captureMax : Nat := 96000
/-- Cues of one cue table (R114). -/
abbrev cuePlaces : Nat := 384
/-- Bytes of one text store (R114). -/
abbrev textBytes : Nat := 65536
/-- Places of the caption line queue (R124). -/
abbrev captionPlaces : Nat := 32
/-- Places of the action queue (R155). -/
abbrev actionPlaces : Nat := 16
/-- Places of the showing log (section 8.3 of 08_showings_allowances_and_the_log.md). -/
abbrev logPlaces : Nat := 512
/-- Unexported records at which LOG_NEARLY_FULL is asserted (R135). -/
abbrev logNearly : Nat := 480
/-- The largest record number (R134). -/
abbrev lastRecordNumber : Nat := 4294967295
/-- The largest value of the next record number (R134). -/
abbrev nextNumberCap : Nat := 4294967304
/-- Entries of the store queue below which a command or a miss may add one (R137, R141). -/
abbrev storeRoom : Nat := 5
/-- Lane counts that the ability word of the M460 offers (R2). -/
abbrev ownLaneCounts : List Nat := [1, 2, 4]
/-- Payload class that the ability word of the M460 offers (R2). -/
abbrev ownPayloadClass : Nat := 4096

/-- FREE VALUE. Byte `offset` of the unit whose undefined content has the key `key`: what a block holds where no fragment was
placed (R27, R29, section 3.1: block contents are undefined).  No proof can see its value. -/
opaque freeByte (key offset : Nat) : Byte

/-- FREE VALUE. The `n`th choice that the manual leaves open between two outcomes it calls correct.  No proof can see it. -/
opaque freeBool (n : Nat) : Bool

end Sys2Proof.Config
end

