-- ==== Sys2Proof/Machine/State.lean ====
section
/-! DEFINITION. Everything the manual gives the M460 to hold, as plain data, and the state after reset. -/

namespace Sys2Proof.Machine

/-- Reasons a step stops with a fault.  The manual describes none: every command and event it names has an effect or is ignored. -/
inductive Fault where
  /-- Raised by nobody; it only keeps the type from being empty.  Safe. -/
  | unraised
  deriving DecidableEq, Repr

/-- Reasons a step refuses a command. -/
inductive Refusal where
  /-- Raised by an arm of `exec` whose command has no meaning yet.  Safe: the model stops where the part goes on. -/
  | notModelled (mnemonic : String)
  deriving DecidableEq, Repr

/-! ## Values per lane -/

/-- One value for each of the ten lanes. -/
structure Lanes (α : Type) where
  pic : Vector α 2
  snd : Vector α 4
  txt : Vector α 4
  deriving DecidableEq, Repr

/-- One value for each of the six picture and sound lanes. -/
structure AvLanes (α : Type) where
  pic : Vector α 2
  snd : Vector α 4
  deriving DecidableEq, Repr

/-- The same value on every lane. -/
def Lanes.all {α : Type} (a : α) : Lanes α :=
  { pic := Vector.replicate 2 a, snd := Vector.replicate 4 a, txt := Vector.replicate 4 a }

/-- The same value on every picture and sound lane. -/
def AvLanes.all {α : Type} (a : α) : AvLanes α := { pic := Vector.replicate 2 a, snd := Vector.replicate 4 a }

/-- The value of a lane. -/
def Lanes.get {α : Type} (v : Lanes α) : Lane → α
  | .pic i => v.pic[i]
  | .snd i => v.snd[i]
  | .txt i => v.txt[i]

/-- The values with one lane's replaced. -/
def Lanes.set {α : Type} (v : Lanes α) (l : Lane) (a : α) : Lanes α :=
  match l with
  | .pic i => { v with pic := v.pic.set i a }
  | .snd i => { v with snd := v.snd.set i a }
  | .txt i => { v with txt := v.txt.set i a }

/-- The value of a picture or sound lane. -/
def AvLanes.get {α : Type} (v : AvLanes α) : AvLane → α
  | .pic i => v.pic[i]
  | .snd i => v.snd[i]

/-- The values with one picture or sound lane's replaced. -/
def AvLanes.set {α : Type} (v : AvLanes α) (l : AvLane) (a : α) : AvLanes α :=
  match l with
  | .pic i => { v with pic := v.pic.set i a }
  | .snd i => { v with snd := v.snd.set i a }

/-! ## Day clock, events and actions -/

/-- The booth day clock (section 4.5). -/
structure Clock where
  isSet : Bool
  now : TimeOfDay
  tick : Nat
  deriving DecidableEq, Repr

/-- A clock value as a record keeps it, with the stamped-unset mark (R146). -/
structure Stamp where
  time : TimeOfDay
  unset : Bool
  deriving DecidableEq, Repr

/-- The 26 event kinds in the order of their numbers (section 9.1). -/
inductive EventKind where
  | linkDown | linkFault | cellDamage | bufferFull | pictureRepeat | soundSilence | stall | cueLate | cueOverflow
  | regionConflict | syncResult | syncLimit | projectorSlip | frameSignalLost | heartbeatLost | clockUnset | allowanceLow
  | allowanceExpiring | logNearlyFull | logFull | storeFault | actionOverflow | captionOverflow | scheduleMissed
  | showingCounted | showingEnded
  deriving DecidableEq, Repr

/-- The record of one event kind (section 9.2). -/
structure EventRec where
  asserted : Bool
  onAssert : Bool
  onDeassert : Bool
  count : Nat
  last : Option Stamp
  deriving DecidableEq, Repr

/-- The new state that an EVENT report carries (R148). -/
inductive EventNews where
  | clear | asserted | occurred
  deriving DecidableEq, Repr

/-- The showing states in the order of chapter 5. -/
inductive ShowState where
  | idle | cueing | ready | playing | paused | stalled | closing
  deriving DecidableEq, Repr

/-- Which reel a POSITION trigger names (section 9.4). -/
inductive ReelSelector where
  | index (k : Nat)
  | firstFeature
  | lastFeature
  deriving DecidableEq, Repr

/-- The trigger of an action entry (section 9.4). -/
inductive Trigger where
  | position (reel : ReelSelector) (atEnd : Bool) (offset : Int)
  | state (st : ShowState)
  | event (kind : Fin 26) (onAssert : Bool)
  deriving DecidableEq, Repr

/-- A message for the booth line, without its check byte (section 9.4). -/
structure Message where
  address : Nat
  command : Nat
  data : Nat
  deriving DecidableEq, Repr

/-- One entry of the action table (section 9.4). -/
structure ActionEntry where
  enabled : Bool
  trigger : Option Trigger
  message : Message
  resolved : Option Nat
  fired : Bool
  deriving DecidableEq, Repr

/-- The state of a serial line (R125, R156); a message on the line is no longer in its queue. -/
inductive Line (α : Type) where
  | idle
  | sending (m : α)
  | spacing
  deriving DecidableEq, Repr

/-- The Action Unit (section 9.4).  `timer` counts the ticks left of the message or spacing on the line. -/
structure ActionUnit where
  table : Vector ActionEntry 64
  queue : List Message
  line : Line Message
  timer : Nat
  deriving DecidableEq, Repr

/-! ## Compositions -/

/-- The kind of a reel (section 4.3). -/
inductive ReelKind where
  | feature | trailer | advert | intermission | test
  deriving DecidableEq, Repr

/-- A picture track of a reel entry. -/
structure PicTrack where
  lane : Lane
  tag : Nat
  deriving DecidableEq, Repr

/-- A sound group of a reel entry. -/
structure SoundGroup where
  lane : Lane
  tag : Nat
  channels : Nat
  map : Nat
  deriving DecidableEq, Repr

/-- A text track of a reel entry; `opened` is the caption kind OPEN, its negation CLOSED. -/
structure TextTrack where
  lane : Lane
  tag : Nat
  opened : Bool
  cueRate : Nat
  language : Nat
  deriving DecidableEq, Repr

/-- A reel entry (section 4.3).  `hi` is the sample rate 96,000 Hz, its negation 48,000 Hz. -/
structure Reel where
  ident : Nat
  kind : ReelKind
  rate : Nat
  stereo : Bool
  dur : Nat
  entry : Nat
  hi : Bool
  pics : List PicTrack
  sounds : List SoundGroup
  texts : List TextTrack
  marks : List Nat
  hold : Nat
  deriving DecidableEq, Repr

/-- A composition record with its derived class and feature span (section 4.2). -/
structure Composition where
  ident : Nat
  title : List Byte
  reels : List Reel
  feature : Bool
  span : Nat
  deriving DecidableEq, Repr

/-- A composition slot (section 4.1). -/
inductive Slot where
  | empty
  | loaded (c : Composition)
  | inUse (c : Composition)
  deriving DecidableEq, Repr

/-! ## Units -/

/-- The bytes of a unit: payloads by fragment index, placed at multiples of the stride (R27); a byte that no fragment
covers is the free value `Config.freeByte key`. -/
structure Content where
  stride : Nat
  frags : List (Nat × List Byte)
  key : Nat
  deriving DecidableEq, Repr

/-- An assembly slot that holds a unit (section 2.3); a lane's EMPTY slots are those its list does not fill. -/
structure AsmSlot where
  reel : Nat
  unit : Nat
  content : Content
  last : Option Nat
  damaged : Bool
  regions : List Nat
  complete : Bool
  size : Nat
  deriving DecidableEq, Repr

/-- A unit in a lane queue (R30). -/
structure UnitRec where
  reel : Nat
  unit : Nat
  size : Nat
  regions : List Nat
  damaged : Bool
  content : Content
  deriving DecidableEq, Repr

/-- A member of the wanted set (section 2.1), with its assembly base on each lane that its track list names. -/
structure Wanted where
  comp : Nat
  index : Nat
  reel : Reel
  finished : Bool
  bases : Lanes (Option Nat)
  deriving DecidableEq, Repr

/-- What the Lead Monitor keeps for a lane (section 3.4). -/
structure LaneHold where
  held : Bool
  pace : Nat
  refresh : Option Nat
  lead : Nat
  deriving DecidableEq, Repr

/-! ## Limits and counters -/

/-- The eighteen limits (section 10.3), numbered 0 to 17 in this order. -/
structure Limits where
  startLead : Nat
  resumeLead : Nat
  lowPic : Nat
  highPic : Nat
  lowSnd : Nat
  highSnd : Nat
  holdMs : Nat
  stallSeconds : Nat
  cueSeconds : Nat
  gap : Nat
  coverage : Nat
  heartbeat : Nat
  lateMinutes : Nat
  cueAdvance : Nat
  captionLead : Nat
  picturePolicy : Nat
  soundPolicy : Nat
  warn : Nat
  deriving DecidableEq, Repr

/-- The 32 device counters in reply order (R163). -/
structure Counters where
  good : Nat
  damaged : Nat
  overlong : Nat
  overlongDamaged : Nat
  wrongKind : Nat
  commandsDropped : Nat
  unwanted : Nat
  unmapped : Nat
  stale : Nat
  ahead : Nat
  noSlot : Nat
  duplicate : Nat
  oversize : Nat
  assembled : Nat
  discarded : Nat
  abandoned : Nat
  repeats : Nat
  silences : Nat
  cuesAccepted : Nat
  cuesShown : Nat
  malformed : Nat
  inverted : Nat
  outsideReel : Nat
  duplicateCue : Nat
  late : Nat
  overflow : Nat
  neverShown : Nat
  damagedBlocks : Nat
  captionsSent : Nat
  captionsDropped : Nat
  actionsSent : Nat
  actionsDropped : Nat
  deriving DecidableEq, Repr

/-- The counter snapshot (R163). -/
structure Snapshot where
  counters : Counters
  clock : TimeOfDay
  resets : Nat
  deriving DecidableEq, Repr

/-! ## Allowances, log and store -/

/-- An allowance record without its load serial (section 8.1). -/
structure Allowance where
  comp : Nat
  fromDay : Nat
  fromMinute : Nat
  untilDay : Nat
  untilMinute : Nat
  allowed : Option Nat
  used : Nat
  revoked : Bool
  deriving DecidableEq, Repr

/-- The derived state of an allowance place (R128). -/
inductive AllowState where
  | opened | pending | expired | spent | revoked | empty
  deriving DecidableEq, Repr

/-- An allowance place as the Nonvolatile Store keeps it. -/
structure NvPlace where
  record : Option Allowance
  serial : Nat
  deriving DecidableEq, Repr

/-- An allowance place of the volatile table, with its derived state as last evaluated. -/
structure Place where
  record : Option Allowance
  serial : Nat
  state : AllowState
  deriving DecidableEq, Repr

/-- The outcome of a showing (section 5.1). -/
inductive ShowOutcome where
  | completed | stopped | abandoned
  deriving DecidableEq, Repr

/-- The outcome field of a log record (section 8.3). -/
inductive LogOutcome where
  | opened | completed | stopped | abandoned | interrupted | missed
  deriving DecidableEq, Repr

/-- Why a schedule entry was missed (R66). -/
inductive MissReason where
  | late | notFound | noAllowance
  deriving DecidableEq, Repr

/-- A record of the showing log (section 8.3); `place` is which of the 512 places holds it. -/
structure LogRecord where
  place : Nat
  number : Nat
  comp : Nat
  slot : Option Nat
  allowance : Option Nat
  serialAtOpen : Option Nat
  usedAtOpen : Option Nat
  sched : Option Nat
  start : TimeOfDay
  ended : Option TimeOfDay
  endUnset : Bool
  presented : Nat
  repeated : Nat
  stalls : Nat
  outcome : LogOutcome
  miss : Option MissReason
  charged : Bool
  exported : Bool
  deriving DecidableEq, Repr

/-- The Nonvolatile Store (section 8.4): allowance table, log and header. -/
structure NvStore where
  allowances : Vector NvPlace 32
  log : List LogRecord
  next : Nat
  fresh : Bool
  deriving DecidableEq, Repr

/-! ## Presentation -/

/-- How a showing starts (R70). -/
inductive StartMode where
  | atOnce
  | atTime (t : TimeOfDay)
  deriving DecidableEq, Repr

/-- A row of the reel start table (R74): ticks per unit, stereo flag and sample rate are those of the reel. -/
structure ReelRow where
  reel : Reel
  start : Nat
  gap : Nat
  deriving DecidableEq, Repr

/-- The release cursor (section 5.1). -/
structure Cursor where
  reel : Nat
  unit : Nat
  inGap : Bool
  deriving DecidableEq, Repr

/-- A unit of a reel. -/
structure UnitRef where
  reel : Nat
  unit : Nat
  deriving DecidableEq, Repr

/-- Why a showing is PAUSED (section 5.1). -/
inductive PauseReason where
  | operator | intermission
  deriving DecidableEq, Repr

/-- The showing context (section 5.1).  `interval` is the unit whose interval is running: released, its end not yet reached. -/
structure Timeline where
  state : ShowState
  slot : Option (Fin 4)
  mode : Option StartMode
  sched : Option Nat
  p : Nat
  table : List ReelRow
  cursor : Option Cursor
  interval : Option UnitRef
  pausePending : Bool
  pauseReason : Option PauseReason
  missing : Nat
  cleanRun : Nat
  cueTimer : Nat
  stallTimer : Option Nat
  intermission : Option Nat
  presented : Nat
  repeated : Nat
  stalls : Nat
  outcome : Option ShowOutcome
  deriving DecidableEq, Repr

/-- A picture or an eye pair: the content of the left (or only) eye and of the right eye. -/
structure Picture where
  reel : Nat
  unit : Nat
  left : Content
  right : Option Content
  deriving DecidableEq, Repr

/-- One entry of an overlay list (R121). -/
structure OverlayEntry where
  track : Fin 4
  number : Nat
  region : Nat
  lines : Nat
  level : Nat
  text : Option (List Byte)
  deriving DecidableEq, Repr

/-- Picture Output: the last released picture (none is black), what the projector output carries with its overlay list, which is absent
where no list is sent (R122), and the ticks left until the held picture is next sent in PAUSED and STALLED (R69). -/
structure PictureOut where
  last : Option Picture
  shown : Option Picture
  overlay : Option (List OverlayEntry)
  resend : Option Nat
  deriving DecidableEq, Repr

/-- One routed pair of a routing map (R97): a pair that no entry lists is routed to none. -/
structure Route where
  lane : Fin 4
  channel : Nat
  output : Nat
  deriving DecidableEq, Repr

/-- The sound unit a lane is sounding, with its group's channel count; `silent` units give 0 (R95). -/
structure SoundPlay where
  reel : Nat
  unit : Nat
  channels : Nat
  size : Nat
  content : Content
  silent : Bool
  deriving DecidableEq, Repr

/-- The Sound Router (section 6.1).  `cursor` is the next sound unit whose instant X has not reached; `plays` what each lane sounds. -/
structure Sound where
  live : Int
  staged : Int
  pending : Bool
  offset : Int
  reel : Option Nat
  maps : Vector (List Route) 8
  routing : Vector (Option (List Route)) 4
  cleanRun : Nat
  hiRate : Bool
  cursor : Option UnitRef
  plays : Vector (Option SoundPlay) 4
  deriving DecidableEq, Repr

/-- The mode of a capture channel (R104). -/
inductive CapMode where
  | off | highWidth | lowWidth | period | markDelay
  deriving DecidableEq, Repr

/-- The state of a capture channel (section 6.4). -/
inductive CapState where
  | idle | waitFirst | counting | done
  deriving DecidableEq, Repr

/-- A channel count: ticks, or NO_EDGE. -/
inductive CapCount where
  | ticks (n : Nat)
  | noEdge
  deriving DecidableEq, Repr

/-- A capture channel.  `judged` says that the count in progress has already been taken as a bad measurement (R108). -/
structure CapChannel where
  mode : CapMode
  state : CapState
  count : CapCount
  judged : Bool
  deriving DecidableEq, Repr

/-- The validity of a pair record (R106). -/
inductive Validity where
  | valid | noEdge | overrun | missing | staleDelay
  deriving DecidableEq, Repr

/-- A pair record of a sync check (R106); `validity` is none until it is settled. -/
structure PairRec where
  mark : Nat
  light : Option CapCount
  echo : Option CapCount
  flashWidth : Option CapCount
  echoWidth : Option CapCount
  delay : Int
  validity : Option Validity
  deriving DecidableEq, Repr

/-- The last sync result (R107). -/
structure SyncResult where
  conclusive : Bool
  reel : Nat
  comp : Nat
  records : Nat
  valid : Nat
  correction : Option Int
  proposed : Option Int
  clamped : Bool
  staged : Bool
  pairs : List PairRec
  finished : TimeOfDay
  deriving DecidableEq, Repr

/-- The Sync Measurement Unit (section 6.4).  `finishDue` says that the target reel has ended while a count still runs (R107). -/
structure Sync where
  light : CapChannel
  echo : CapChannel
  frame : CapChannel
  armed : Bool
  auto : Bool
  target : Option Nat
  finishDue : Bool
  pairs : List PairRec
  last : Option SyncResult
  bad : Nat
  good : Nat
  deriving DecidableEq, Repr

/-- A cue entry (section 7.1). -/
structure CueEntry where
  reel : Nat
  opened : Bool
  number : Nat
  tin : Int
  tout : Int
  fadeIn : Nat
  fadeOut : Nat
  region : Nat
  lines : Nat
  text : List Byte
  textSent : Bool
  conflict : Bool
  held : Bool
  attempted : Bool
  deriving DecidableEq, Repr

/-- A message for the caption line (R123, R126). -/
inductive CaptionMsg where
  | showCue (track : Fin 4) (number : Nat) (text : List Byte)
  | clear (track : Fin 4) (number : Nat)
  | track (track : Fin 4) (language : Nat)
  | clearAll (track : Fin 4)
  deriving DecidableEq, Repr

/-- The Cue Engine (section 7.1).  `timer` counts the ticks left of the message or spacing on the caption line. -/
structure CueEngine where
  tables : Vector (List CueEntry) 4
  inView : Option Nat
  begun : List Nat
  ended : List Nat
  overlay : Option (List OverlayEntry)
  queue : List CaptionMsg
  line : Line CaptionMsg
  timer : Nat
  deriving DecidableEq, Repr

/-! ## Reports -/

/-- The refusal reasons (section 10.1.1), coded 1 to 15 in this order (section 11.1). -/
inductive Reason where
  | busy | badState | badArgument | badLayout | notFound | duplicate | noRoom | tooLate | tooLarge | clockUnset | noAllowance
  | logFull | storeFault | starting | unknownCommand
  deriving DecidableEq, Repr

/-- The causes of a reset (R167). -/
inductive ResetCause where
  | powerOn | resetLine | restart
  deriving DecidableEq, Repr

/-- The states of the reel link (section 1.1). -/
inductive LinkState where
  | down | training | up
  deriving DecidableEq, Repr

/-- The values that READ_STATUS returns (R161). -/
structure Status where
  link : LinkState
  limit : Option Nat
  laneCount : Option Nat
  linkLost : Bool
  cause : ResetCause
  resets : Nat
  unread : Bool
  showing : ShowState
  slot : Option (Fin 4)
  comp : Option Nat
  sched : Option Nat
  mode : Option StartMode
  cursor : Option Cursor
  p : Nat
  pausePending : Bool
  pauseReason : Option PauseReason
  outcome : Option ShowOutcome
  bound : Option (Fin 32)
  point : Option Nat
  presented : Option Nat
  charged : Option Bool
  openRecord : Option Nat
  lanes : List (Bool × Nat)
  pool : Nat
  live : Int
  staged : Int
  stagingPending : Bool
  armed : Bool
  lastSync : Option SyncResult
  clockSet : Bool
  clock : TimeOfDay
  heartbeatPeriod : Nat
  heartbeatTimer : Nat
  heartbeatLost : Bool
  entries : Nat
  headEntry : Option Nat
  events : List Nat
  storeDepth : Nat
  storeFault : Bool
  deriving DecidableEq, Repr

/-- The results that a REPLY carries (R159). -/
inductive Results where
  | nothing
  /-- The reel index or table index of a refusal (R53, R150). -/
  | index (n : Nat)
  /-- The values of IDENTIFY (R164). -/
  | identity (vendor part revision blocks lanes : Nat)
  | clock (before after : TimeOfDay)
  /-- Every limit in number order, with its clamped mark (R160). -/
  | limits (values : List (Nat × Bool))
  | status (st : Status)
  | counters (snap : Snapshot)
  | heartbeat (period timer : Nat)
  | composition (slot : Nat) (feature : Bool) (span entries : Nat) (replaced : Option Nat)
  | slotCleared (ident : Nat) (title : List Byte) (entries : Nat)
  | routing (map pairs : Nat)
  | actions (first count : Nat)
  | events (records : List (Nat × EventRec))
  | allowanceLoaded (index : Nat) (state : AllowState) (serial : Nat) (wrote : Option Bool)
  /-- The place as it stood before REVOKE_ALLOWANCE or CLEAR_ALLOWANCE (R130). -/
  | allowanceWas (index : Nat) (place : Place) (wrote : Option Bool)
  | log (lowest highest : Option Nat) (unexported : Nat) (records : List LogRecord)
  | exported (count : Nat) (wrote : Option Bool)
  | queued (position count : Nat)
  | schedCleared (count : Nat)
  /-- The schedule queue in queue order: an entry's position is its index (R164). -/
  | schedule (entries : List SchedEntry)
  | sync (staged live : Int)
  deriving DecidableEq, Repr

/-- A report of the report queue (section 1.3).  The status of a reply is DONE when `refusal` is none, REFUSED otherwise. -/
inductive Report where
  | reply (code tag : Nat) (refusal : Option Reason) (results : Results)
  | event (kind : Fin 26) (news : EventNews) (count : Nat) (stamp : Option Stamp)
  | want (comp reel ident first : Nat) (cancel : Bool)
  | hold (lane : AvLane) (tags : List Nat) (ms : Nat)
  deriving DecidableEq, Repr

/-- A reply that waits for a store write to end (R159). -/
structure Owed where
  code : Nat
  tag : Nat
  results : Results
  deriving DecidableEq, Repr

/-- What a store entry is for (section 8.4). -/
inductive EntryKind where
  | creation | charge | close | reconciliation | allowance | marking
  deriving DecidableEq, Repr

/-- An entry of the store queue: the record, the allowance place and the exported flags it covers, with the contents they had
when it was queued (R140). -/
structure StoreEntry where
  kind : EntryKind
  record : Option LogRecord
  place : Option (Fin 32 × NvPlace)
  marks : List Nat
  owed : Option Owed
  deriving DecidableEq, Repr

/-- The outbound side of the link: free, sending FILL, or sending the oldest report (R11). -/
inductive Outbound where
  | free | fill | report
  deriving DecidableEq, Repr

/-- A training word that the M460 sends (R2). -/
inductive TrainingWord where
  | retrain
  | ability (payloadClass : Nat) (laneCounts : List Nat)
  deriving DecidableEq, Repr

/-- What the outbound lanes of the reel link carry: nothing, the words of the last training attempt, the words of the attempt that
has just brought the link UP and the first cell behind them, or a cell (R2, R11). -/
inductive LinkOut where
  | silent
  | words (ws : List TrainingWord)
  | opening (ws : List TrainingWord) (bytes : List Byte)
  | cell (bytes : List Byte)
  deriving DecidableEq, Repr

/-- The Link Port (section 1.1).  `attempt` counts ticks since the training attempt began, `decided` says that its ability word
has come, `ownRetrain` that the next attempt sends the retrain word first (R2). -/
structure LinkPort where
  state : LinkState
  limit : Option Nat
  laneCount : Option Nat
  lost : Bool
  retrainRun : Nat
  damage : Nat
  queue : List Report
  sending : Outbound
  attempt : Option Nat
  decided : Bool
  ownRetrain : Bool
  out : LinkOut
  deriving DecidableEq, Repr

/-- The Reel Buffer (section 3.1): free pool and lane queues. -/
structure Buffer where
  pool : Nat
  queues : Lanes (List UnitRec)
  deriving DecidableEq, Repr

/-- Start-up (section 8.1), with what it waits for: the pin's release, the store read, or reconciliation. -/
inductive Startup where
  | heldInReset | reading | reconciling | complete
  deriving DecidableEq, Repr

/-- The Showing Counter (section 8.1).  `header` is the next record number that the write in progress puts into the store (R140). -/
structure Counting where
  places : Vector Place 32
  bound : Option (Fin 32)
  point : Option Nat
  charged : Bool
  startup : Startup
  log : List LogRecord
  next : Nat
  queue : List StoreEntry
  header : Nat
  deriving DecidableEq, Repr

/-- The Management Unit (chapter 10). -/
structure Management where
  limits : Limits
  cause : ResetCause
  resets : Nat
  unread : Bool
  restartPending : Bool
  snapshot : Option Snapshot
  deriving DecidableEq, Repr

/-- The Schedule Unit's queue and heartbeat timer (sections 4.6 and 4.7). -/
structure Schedule where
  queue : List SchedEntry
  heartbeat : Nat
  deriving DecidableEq, Repr

/-- The whole part: its blocks, its pins, the model's own counter of free values, and the commands that wait. -/
structure State where
  powered : Bool
  resetPin : Bool
  signal : Bool
  link : LinkPort
  wanted : List Wanted
  slots : Lanes (List AsmSlot)
  buffer : Buffer
  holds : AvLanes LaneHold
  comps : Vector Slot 4
  clock : Clock
  schedule : Schedule
  timeline : Timeline
  picture : PictureOut
  sound : Sound
  sync : Sync
  cues : CueEngine
  counting : Counting
  store : NvStore
  events : Vector EventRec 26
  actions : ActionUnit
  mgmt : Management
  counters : Counters
  /-- The model's own: how many free values have been drawn. -/
  draws : Nat
  /-- The model's own: the commands that wait, the oldest first. -/
  pending : List Instr
  deriving DecidableEq, Repr

/-! ## Values after reset -/

/-- Day 0, 00:00:00 (section 4.5). -/
def timeZero : TimeOfDay := { day := 0, hour := 0, minute := 0, second := 0 }

/-- The limits' reset values (section 10.3). -/
def Limits.reset : Limits :=
  { startLead := 288000, resumeLead := 96000, lowPic := 192000, highPic := 576000, lowSnd := 192000, highSnd := 576000,
    holdMs := 200, stallSeconds := 30, cueSeconds := 120, gap := 48000, coverage := 205, heartbeat := 0, lateMinutes := 10,
    cueAdvance := 90, captionLead := 0, picturePolicy := 0, soundPolicy := 0, warn := 2 }

/-- Every device counter at 0 (R163). -/
def Counters.zero : Counters :=
  { good := 0, damaged := 0, overlong := 0, overlongDamaged := 0, wrongKind := 0, commandsDropped := 0, unwanted := 0,
    unmapped := 0, stale := 0, ahead := 0, noSlot := 0, duplicate := 0, oversize := 0, assembled := 0, discarded := 0,
    abandoned := 0, repeats := 0, silences := 0, cuesAccepted := 0, cuesShown := 0, malformed := 0, inverted := 0,
    outsideReel := 0, duplicateCue := 0, late := 0, overflow := 0, neverShown := 0, damagedBlocks := 0, captionsSent := 0,
    captionsDropped := 0, actionsSent := 0, actionsDropped := 0 }

/-- The Link Port after every reset (section 1.1). -/
def LinkPort.reset : LinkPort :=
  { state := .down, limit := none, laneCount := none, lost := false, retrainRun := 0, damage := 0, queue := [],
    sending := .free, attempt := none, decided := false, ownRetrain := false, out := .silent }

/-- A lane's hold state after every reset (section 3.4). -/
def LaneHold.reset : LaneHold := { held := false, pace := 0, refresh := none, lead := 0 }

/-- The empty showing context (section 5.1). -/
def Timeline.reset : Timeline :=
  { state := .idle, slot := none, mode := none, sched := none, p := 0, table := [], cursor := none, interval := none,
    pausePending := false, pauseReason := none, missing := 0, cleanRun := 0, cueTimer := 0, stallTimer := none,
    intermission := none, presented := 0, repeated := 0, stalls := 0, outcome := none }

/-- Routing map 0 after every reset: channel c of S0 to Oc (R97). -/
def resetRoutes : List Route := (List.range 16).map (fun c => { lane := 0, channel := c, output := c })

/-- The Sound Router after every reset (section 6.1). -/
def Sound.reset : Sound :=
  { live := 0, staged := 0, pending := false, offset := 0, reel := none,
    maps := (Vector.replicate 8 []).set 0 resetRoutes, routing := Vector.replicate 4 none, cleanRun := 0, hiRate := false,
    cursor := none, plays := Vector.replicate 4 none }

/-- A capture channel that is not in use (section 6.4). -/
def CapChannel.reset : CapChannel := { mode := .off, state := .idle, count := .ticks 0, judged := false }

/-- The Sync Measurement Unit after every reset (section 6.4). -/
def Sync.reset : Sync :=
  { light := CapChannel.reset, echo := CapChannel.reset, frame := CapChannel.reset, armed := false, auto := false,
    target := none, finishDue := false, pairs := [], last := none, bad := 0, good := 0 }

/-- The Cue Engine after every reset (section 7.1). -/
def CueEngine.reset : CueEngine :=
  { tables := Vector.replicate 4 [], inView := none, begun := [], ended := [], overlay := none, queue := [], line := .idle,
    timer := 0 }

/-- Picture Output after every reset, and in CLOSING and the states that follow it: black, without an overlay list (section 5.1, R122). -/
def PictureOut.reset : PictureOut := { last := none, shown := none, overlay := none, resend := none }

/-- An allowance place of a new store: that it is empty with load serial 0 is the model's choice (R143; notes/assumptions/99.md). -/
def NvPlace.blank : NvPlace := { record := none, serial := 0 }

/-- The Nonvolatile Store of a new part: its header is fresh with record number 1 (R134), and its log places are free; that its 32
allowance places are empty is the model's choice (notes/assumptions/99.md). -/
def NvStore.blank : NvStore := { allowances := Vector.replicate 32 NvPlace.blank, log := [], next := 1, fresh := true }

/-- The Showing Counter after every reset, before the store is read (sections 8.1 and 8.3).  That its allowance table and log are empty and
its next record number is 1 until then is the model's choice (R143; notes/assumptions/85.md). -/
def Counting.reset : Counting :=
  { places := Vector.replicate 32 { record := none, serial := 0, state := .empty }, bound := none, point := none,
    charged := false, startup := .reading, log := [], next := 1, queue := [], header := 1 }

/-- The record of an event kind after a reset: CLEAR, both flags set (section 9.2). -/
def EventRec.reset : EventRec := { asserted := false, onAssert := true, onDeassert := true, count := 0, last := none }

/-- The record of CLOCK_UNSET when a reset leaves the clock UNSET (section 9.2). -/
def EventRec.unsetAt (t : TimeOfDay) : EventRec :=
  { asserted := true, onAssert := true, onDeassert := true, count := 1, last := some { time := t, unset := true } }

/-- The Event Table after a reset that leaves the clock as `c` (section 9.2); CLOCK_UNSET is kind 15. -/
def eventsAfterReset (c : Clock) : Vector EventRec 26 :=
  if c.isSet then Vector.replicate 26 EventRec.reset
  else (Vector.replicate 26 EventRec.reset).set 15 (EventRec.unsetAt c.now)

/-- The empty action entry: disabled, its trigger absent (section 9.4).  Its message of zeros is the model's choice
(notes/assumptions/76.md). -/
def ActionEntry.reset : ActionEntry :=
  { enabled := false, trigger := none, message := { address := 0, command := 0, data := 0 }, resolved := none, fired := false }

/-- The Action Unit after every reset (section 9.4). -/
def ActionUnit.reset : ActionUnit :=
  { table := Vector.replicate 64 ActionEntry.reset, queue := [], line := .idle, timer := 0 }

/-- The Management Unit after power-on (chapter 10, R167). -/
def Management.reset : Management :=
  { limits := Limits.reset, cause := .powerOn, resets := 0, unread := true, restartPending := false, snapshot := none }

/-- The day clock after power-on (R59). -/
def Clock.reset : Clock := { isSet := false, now := timeZero, tick := 0 }

/-- The part right after a POWER_ON reset with the RESET pin released, no signal on the link and a new store (R166). -/
def State.reset : State :=
  { powered := true, resetPin := false, signal := false, link := LinkPort.reset, wanted := [], slots := Lanes.all [],
    buffer := { pool := Config.blocks, queues := Lanes.all [] }, holds := AvLanes.all LaneHold.reset,
    comps := Vector.replicate 4 .empty, clock := Clock.reset, schedule := { queue := [], heartbeat := 0 },
    timeline := Timeline.reset, picture := PictureOut.reset, sound := Sound.reset, sync := Sync.reset,
    cues := CueEngine.reset, counting := Counting.reset, store := NvStore.blank, events := eventsAfterReset Clock.reset,
    actions := ActionUnit.reset, mgmt := Management.reset, counters := Counters.zero, draws := 0, pending := [] }

end Sys2Proof.Machine
end

