-- ==== Sys2Proof/Machine/Operands.lean ====
section
/-! DEFINITION. Every operand form: the header of an inbound cell, the arguments of the 28 commands, the composition record with
its range and layout tests, and cue records (R53 to R56, R112, R169, R170, chapter 11). -/

namespace Sys2Proof.Machine

/-! ## Inbound cells -/

/-- The kind of an inbound cell (section 11.1). -/
inductive CellKind where
  | picture | sound | text | manage | report | fill | wrong
  deriving DecidableEq, Repr

/-- The kind that a kind code names (R169). -/
def cellKindOf : Nat → CellKind
  | 1 => .picture | 2 => .sound | 3 => .text | 4 => .manage | 5 => .report | 6 => .fill | _ => .wrong

/-- A cell as the Link Port reads it (R6, R169): its header fields, the payload bytes received, and whether the check word and
the framing are good. -/
structure Cell where
  kind : CellKind
  tag : Nat
  comp : Nat
  reel : Nat
  unit : Nat
  frag : Nat
  lastFlag : Bool
  lenField : Nat
  payload : List Byte
  checkGood : Bool
  deriving DecidableEq, Repr

/-- Whether the header's length field agrees with the payload bytes received (R6). -/
def Cell.lenAgrees (c : Cell) : Bool := decide (c.lenField = c.payload.length)

/-- The length that the limit test of R8 uses: the larger of the two where they disagree (R6). -/
def Cell.testLen (c : Cell) : Nat := max c.lenField c.payload.length

/-- A cell from the bytes between its marks, or none where it is shorter than a header and a check word (R6).  A cell that a new
first-byte mark cut off is one whose length disagrees, so its check counts as bad. -/
def readCell (bytes : List Byte) (cut : Bool) : Option Cell :=
  if bytes.length < 18 then none
  else
    let covered := bytes.take (bytes.length - 4)
    let check := bytes.drop (bytes.length - 4)
    let at_ (offset width : Nat) : Nat := leNat ((covered.drop offset).take width)
    let payload := covered.drop 14
    some
      { kind := cellKindOf (at_ 0 1), tag := at_ 1 1 % 16, comp := at_ 2 4, reel := at_ 6 1 % 64, unit := at_ 7 3 % 1048576,
        frag := at_ 10 2 % 1024, lastFlag := decide (32768 ≤ at_ 10 2), lenField := at_ 12 2, payload := payload,
        checkGood := !cut && decide (at_ 12 2 = payload.length) && decide (leNat check = checkWord covered) }

/-! ## Fields of command arguments -/

/-- A list of `n` elements (section 11.3: a list follows its count directly). -/
def takeList {α : Type} (elem : List Byte → Option (α × List Byte)) : Nat → List Byte → Option (List α × List Byte)
  | 0, bs => some ([], bs)
  | n + 1, bs => do
    let (a, bs) ← elem bs
    let (as, bs) ← takeList elem n bs
    some (a :: as, bs)

/-- A time of day in five bytes (section 11.1). -/
def takeTime (bs : List Byte) : Option (TimeOfDay × List Byte) := do
  let (d, bs) ← takeNat 2 bs
  let (h, bs) ← takeNat 1 bs
  let (m, bs) ← takeNat 1 bs
  let (s, bs) ← takeNat 1 bs
  some ({ day := d, hour := h, minute := m, second := s }, bs)

/-- A presence byte and its field: present when the byte is nonzero (R170). -/
def takeOpt (width : Nat) (bs : List Byte) : Option (Option Nat × List Byte) := do
  let (p, bs) ← takeNat 1 bs
  let (n, bs) ← takeNat width bs
  some (if p = 0 then none else some n, bs)

/-- The arguments of START. -/
def takeStart (bs : List Byte) : Option StartArgs := do
  let (slot, bs) ← takeNat 1 bs
  let (mode, bs) ← takeNat 1 bs
  let (time, bs) ← takeTime bs
  let (allowance, _) ← takeOpt 1 bs
  some { slot, mode, time, allowance }

/-- One setting of SET_LIMITS. -/
def takeLimit (bs : List Byte) : Option (LimitArgs × List Byte) := do
  let (number, bs) ← takeNat 1 bs
  let (value, bs) ← takeNat 4 bs
  some ({ number, value }, bs)

/-- One triple of LOAD_ROUTING. -/
def takeRoute (bs : List Byte) : Option (RouteArgs × List Byte) := do
  let (lane, bs) ← takeNat 1 bs
  let (channel, bs) ← takeNat 1 bs
  let (output, bs) ← takeNat 1 bs
  some ({ lane, channel, output }, bs)

/-- One setting of SET_EVENT_MASK: bit 0 report-on-assert, bit 1 report-on-deassert. -/
def takeMask (bs : List Byte) : Option (MaskArgs × List Byte) := do
  let (kind, bs) ← takeNat 1 bs
  let (flags, bs) ← takeNat 1 bs
  some ({ kind, onAssert := decide (flags % 2 = 1), onDeassert := decide (flags / 2 % 2 = 1) }, bs)

/-- One entry of LOAD_ACTIONS, twelve bytes. -/
def takeAction (bs : List Byte) : Option (ActionArgs × List Byte) := do
  let (enabled, bs) ← takeNat 1 bs
  let (kind, bs) ← takeNat 1 bs
  let (f0, bs) ← takeNat 1 bs
  let (f1, bs) ← takeNat 1 bs
  let (offset, bs) ← takeNat 4 bs
  let (address, bs) ← takeNat 1 bs
  let (command, bs) ← takeNat 1 bs
  let (data, bs) ← takeNat 1 bs
  let (_, bs) ← takeNat 1 bs
  some ({ enabled := decide (enabled ≠ 0), kind, f0, f1, offset := signed 32 offset, address, command, data }, bs)

/-- The arguments of LOAD_ALLOWANCE. -/
def takeAllowance (bs : List Byte) : Option AllowanceArgs := do
  let (index, bs) ← takeNat 1 bs
  let (comp, bs) ← takeNat 4 bs
  let (fromDay, bs) ← takeNat 2 bs
  let (fromMinute, bs) ← takeNat 2 bs
  let (untilDay, bs) ← takeNat 2 bs
  let (untilMinute, bs) ← takeNat 2 bs
  let (allowed, _) ← takeOpt 2 bs
  some { index, comp, fromDay, fromMinute, untilDay, untilMinute, allowed }

/-- The arguments of SCHEDULE_ADD. -/
def takeSched (bs : List Byte) : Option SchedEntry := do
  let (ident, bs) ← takeNat 2 bs
  let (day, bs) ← takeNat 2 bs
  let (minute, bs) ← takeNat 2 bs
  let (comp, bs) ← takeNat 4 bs
  let (allowance, _) ← takeOpt 1 bs
  some { ident, day, minute, comp, allowance }

/-- A count byte of at most `cap` and its elements (R170: the count is tested before the elements are read). -/
def takeCounted {α : Type} (cap : Nat) (elem : List Byte → Option (α × List Byte)) (bs : List Byte) : Option (List α) := do
  let (n, bs) ← takeNat 1 bs
  if cap < n then none
  else
    let (as, _) ← takeList elem n bs
    some as

/-- A one-byte field followed by a counted list, as in LOAD_ROUTING and LOAD_ACTIONS. -/
def takeHeadCounted {α : Type} (cap : Nat) (elem : List Byte → Option (α × List Byte)) (bs : List Byte) :
    Option (Nat × List α) := do
  let (head, bs) ← takeNat 1 bs
  let as ← takeCounted cap elem bs
  some (head, as)

/-- A single field, its trailing bytes ignored (R158). -/
def takeOnly (width : Nat) (bs : List Byte) : Option Nat := (takeNat width bs).map Prod.fst

/-! ## Ranges -/

/-- A time of day lies in its range (R60, R70). -/
def timeInRange (t : TimeOfDay) : Bool :=
  decide (t.day ≤ 65535) && decide (t.hour ≤ 23) && decide (t.minute ≤ 59) && decide (t.second ≤ 59)

/-- A (day, minute) value lies in its range. -/
def dayMinuteInRange (day minute : Nat) : Bool := decide (day ≤ 65535) && decide (minute ≤ 1439)

/-- A composition identity lies in its range: 32 bits, nonzero. -/
def identInRange (n : Nat) : Bool := decide (n ≠ 0) && decide (n < 4294967296)

/-- The lane a code names (section 11.1). -/
def laneOfCode : Nat → Option Lane
  | 0 => some (.pic 0) | 1 => some (.pic 1)
  | 2 => some (.snd 0) | 3 => some (.snd 1) | 4 => some (.snd 2) | 5 => some (.snd 3)
  | 6 => some (.txt 0) | 7 => some (.txt 1) | 8 => some (.txt 2) | 9 => some (.txt 3)
  | _ => none

/-- The reel kind a code names. -/
def reelKindOfCode : Nat → Option ReelKind
  | 0 => some .feature | 1 => some .trailer | 2 => some .advert | 3 => some .intermission | 4 => some .test | _ => none

/-- The cue rate a code names. -/
def cueRateOfCode : Nat → Option Nat
  | 0 => some 24 | 1 => some 25 | 2 => some 30 | 3 => some 48 | 4 => some 50 | 5 => some 60 | 6 => some 96 | 7 => some 100
  | 8 => some 120 | 9 => some 250 | 10 => some 1000 | _ => none

/-- The nine picture rates (section 5 of 00_scope.md). -/
def pictureRates : List Nat := [24, 25, 30, 48, 50, 60, 96, 100, 120]

/-- The showing state a code names (section 11.3: in the order of chapter 5). -/
def showStateOfCode : Nat → Option ShowState
  | 0 => some .idle | 1 => some .cueing | 2 => some .ready | 3 => some .playing | 4 => some .paused | 5 => some .stalled
  | 6 => some .closing | _ => none

/-! ## Composition records -/

/-- A reel entry as its bytes carry it (section 11.4). -/
structure RawReel where
  ident : Nat
  kind : Nat
  rate : Nat
  stereo : Nat
  dur : Nat
  entry : Nat
  hi : Nat
  pics : List (Nat × Nat)
  sounds : List (Nat × Nat × Nat × Nat)
  texts : List (Nat × Nat × Nat × Nat × Nat)
  marks : List Nat
  hold : Nat
  deriving DecidableEq, Repr

/-- One picture track: lane, tag. -/
def takePic (bs : List Byte) : Option ((Nat × Nat) × List Byte) := do
  let (lane, bs) ← takeNat 1 bs
  let (tag, bs) ← takeNat 1 bs
  some ((lane, tag), bs)

/-- One sound group: lane, tag, channel count, routing map. -/
def takeSoundGroup (bs : List Byte) : Option ((Nat × Nat × Nat × Nat) × List Byte) := do
  let (lane, bs) ← takeNat 1 bs
  let (tag, bs) ← takeNat 1 bs
  let (channels, bs) ← takeNat 1 bs
  let (map, bs) ← takeNat 1 bs
  some ((lane, tag, channels, map), bs)

/-- One text track: lane, tag, caption kind, cue rate code, language code. -/
def takeTextTrack (bs : List Byte) : Option ((Nat × Nat × Nat × Nat × Nat) × List Byte) := do
  let (lane, bs) ← takeNat 1 bs
  let (tag, bs) ← takeNat 1 bs
  let (kind, bs) ← takeNat 1 bs
  let (rate, bs) ← takeNat 1 bs
  let (language, bs) ← takeNat 1 bs
  some ((lane, tag, kind, rate, language), bs)

/-- One reel entry: 20 fixed bytes, then its lists (section 11.4). -/
def takeReel (bs : List Byte) : Option (RawReel × List Byte) := do
  let (ident, bs) ← takeNat 4 bs
  let (kind, bs) ← takeNat 1 bs
  let (rate, bs) ← takeNat 1 bs
  let (stereo, bs) ← takeNat 1 bs
  let (dur, bs) ← takeNat 3 bs
  let (entry, bs) ← takeNat 3 bs
  let (hi, bs) ← takeNat 1 bs
  let (nPics, bs) ← takeNat 1 bs
  let (nSounds, bs) ← takeNat 1 bs
  let (nTexts, bs) ← takeNat 1 bs
  let (nMarks, bs) ← takeNat 1 bs
  let (hold, bs) ← takeNat 2 bs
  let (pics, bs) ← takeList takePic nPics bs
  let (sounds, bs) ← takeList takeSoundGroup nSounds bs
  let (texts, bs) ← takeList takeTextTrack nTexts bs
  let (marks, bs) ← takeList (takeNat 3) nMarks bs
  some ({ ident, kind, rate, stereo, dur, entry, hi, pics, sounds, texts, marks, hold }, bs)

/-- A composition as its bytes carry it, after the slot (section 11.4). -/
structure RawComposition where
  ident : Nat
  title : List Byte
  reels : List RawReel
  deriving DecidableEq, Repr

/-- The composition after the slot, or none where the payload lacks bytes that its counts call for (R53 test 2). -/
def takeComposition (bs : List Byte) : Option RawComposition := do
  let (ident, bs) ← takeNat 4 bs
  let (titleLen, bs) ← takeNat 1 bs
  let (title, bs) ← takeBytes titleLen bs
  let (count, bs) ← takeNat 1 bs
  let (reels, _) ← takeList takeReel count bs
  some { ident, title, reels }

/-- The composition fields are in range (R54). -/
def RawComposition.inRange (c : RawComposition) : Bool :=
  identInRange c.ident && decide (c.title.length ≤ 23) && decide (1 ≤ c.reels.length) && decide (c.reels.length ≤ 64)

/-- A picture track whose fields are in range (R55). -/
def picTrackOf (t : Nat × Nat) : Option PicTrack := do
  let lane ← laneOfCode t.1
  if 15 < t.2 then none else some { lane, tag := t.2 }

/-- A sound group whose fields are in range (R55). -/
def soundGroupOf (g : Nat × Nat × Nat × Nat) : Option SoundGroup := do
  let lane ← laneOfCode g.1
  if 15 < g.2.1 ∨ g.2.2.1 = 0 ∨ 16 < g.2.2.1 ∨ 7 < g.2.2.2 then none
  else some { lane, tag := g.2.1, channels := g.2.2.1, map := g.2.2.2 }

/-- A text track whose fields are in range (R55). -/
def textTrackOf (t : Nat × Nat × Nat × Nat × Nat) : Option TextTrack := do
  let lane ← laneOfCode t.1
  let cueRate ← cueRateOfCode t.2.2.2.1
  if 15 < t.2.1 ∨ 1 < t.2.2.1 then none
  else some { lane, tag := t.2.1, opened := decide (t.2.2.1 = 0), cueRate, language := t.2.2.2.2 }

/-- Every element in range, in order. -/
def allOf {α β : Type} (f : α → Option β) : List α → Option (List β)
  | [] => some []
  | a :: as => do
    let b ← f a
    let bs ← allOf f as
    some (b :: bs)

/-- The reel entry, where it passes its argument tests (R55). -/
def reelOf (r : RawReel) : Option Reel := do
  let kind ← reelKindOfCode r.kind
  let pics ← allOf picTrackOf r.pics
  let sounds ← allOf soundGroupOf r.sounds
  let texts ← allOf textTrackOf r.texts
  if !pictureRates.contains r.rate ∨ r.dur = 0 ∨ 1048576 < r.dur ∨ r.dur ≤ r.entry ∨ 1 < r.hi ∨ r.pics.length = 0 ∨
      2 < r.pics.length ∨ 4 < r.sounds.length ∨ 4 < r.texts.length ∨ 8 < r.marks.length ∨ 3600 < r.hold ∨
      r.marks.any (fun m => decide (1048575 < m)) then none
  else some {
      ident := r.ident, kind, rate := r.rate, stereo := decide (r.stereo ≠ 0), dur := r.dur, entry := r.entry,
      hi := decide (r.hi = 1), pics, sounds, texts, marks := r.marks, hold := r.hold }

/-- Show ticks per unit, T (section 5 of 00_scope.md). -/
def Reel.ticks (r : Reel) : Nat := Config.ticksPerSecond / r.rate

/-- Show ticks per sample: 2 at 48,000 Hz, 1 at 96,000 Hz. -/
def Reel.sampleTicks (r : Reel) : Nat := if r.hi then 1 else 2

/-- Samples per unit. -/
def Reel.samples (r : Reel) : Nat := r.ticks / r.sampleTicks

/-- The bytes of one sound unit of a group (section 6.1). -/
def groupBytes (r : Reel) (g : SoundGroup) : Nat := g.channels * r.samples * 3

/-- Every lane that a track of the reel names. -/
def Reel.lanes (r : Reel) : List Lane := r.pics.map PicTrack.lane ++ r.sounds.map SoundGroup.lane ++ r.texts.map TextTrack.lane

/-- The tracks stand on the lanes of their class: the first picture track on P0 and the second on P1 (R56). -/
def Reel.lanesFit (r : Reel) : Bool :=
  decide (r.pics.map PicTrack.lane = [Lane.pic 0, Lane.pic 1].take r.pics.length) &&
  r.sounds.all (fun g => match g.lane with | .snd _ => true | _ => false) &&
  r.texts.all (fun t => match t.lane with | .txt _ => true | _ => false)

/-- Numbers that rise strictly. -/
def strictlyRising : List Nat → Bool
  | a :: b :: rest => decide (a < b) && strictlyRising (b :: rest)
  | _ => true

/-- The reel entry passes its layout tests (R56). -/
def Reel.layoutFits (r : Reel) : Bool :=
  (!r.stereo || decide (r.rate ≤ 60)) &&
  decide (r.pics.length = if r.stereo then 2 else 1) &&
  r.lanesFit &&
  decide r.lanes.Nodup &&
  decide (r.pics.map PicTrack.tag).Nodup && decide (r.sounds.map SoundGroup.tag).Nodup &&
  decide (r.texts.map TextTrack.tag).Nodup &&
  decide ((r.texts.filter TextTrack.opened).length ≤ 2) &&
  decide ((r.texts.filter (fun t => !t.opened)).length ≤ 2) &&
  r.sounds.all (fun g => decide (groupBytes r g ≤ 131072)) &&
  (r.marks.isEmpty || decide (r.kind = .test)) &&
  strictlyRising r.marks && r.marks.all (fun m => decide (r.entry ≤ m) && decide (m < r.dur)) &&
  (decide (r.hold = 0) || decide (r.kind = .intermission))

/-- The reel entries in composition order, or the refusal of the first that fails, with its index (R53 test 5). -/
def reelsOf : Nat → List RawReel → Except (Reason × Nat) (List Reel)
  | _, [] => .ok []
  | k, r :: rs =>
    match reelOf r with
    | none => .error (.badArgument, k)
    | some reel =>
      if reel.layoutFits then
        match reelsOf (k + 1) rs with
        | .ok reels => .ok (reel :: reels)
        | .error e => .error e
      else .error (.badLayout, k)

/-- Whether a reel is a FEATURE reel. -/
def Reel.isFeature (r : Reel) : Bool := decide (r.kind = .feature)

/-- The class and the feature span derived from the reels (R51). -/
def compositionOf (ident : Nat) (title : List Byte) (reels : List Reel) : Composition :=
  { ident, title, reels, feature := reels.any Reel.isFeature,
    span := ((reels.filter Reel.isFeature).map (fun r => r.dur - r.entry)).foldl (· + ·) 0 }

/-! ## Cue records -/

/-- A cue record as its bytes carry it (R112, section 11.5). -/
structure RawCue where
  number : Nat
  timeIn : Nat
  timeOut : Nat
  fadeIn : Nat
  fadeOut : Nat
  region : Nat
  lines : Nat
  text : List Byte
  deriving DecidableEq, Repr

/-- The next cue record, or none where it would run past the end of the unit (R111). -/
def takeCue (bs : List Byte) : Option (RawCue × List Byte) := do
  let (number, bs) ← takeNat 2 bs
  let (timeIn, bs) ← takeNat 4 bs
  let (timeOut, bs) ← takeNat 4 bs
  let (fadeIn, bs) ← takeNat 2 bs
  let (fadeOut, bs) ← takeNat 2 bs
  let (region, bs) ← takeNat 1 bs
  let (lines, bs) ← takeNat 1 bs
  let (len, bs) ← takeNat 2 bs
  let (text, bs) ← takeBytes len bs
  some ({ number, timeIn, timeOut, fadeIn, fadeOut, region := region % 16, lines, text }, bs)

end Sys2Proof.Machine
end

