-- ==== Sys2Proof/Machine/Wire.lean ====
section
/-! DEFINITION. The bytes that leave the part: REPORT and FILL cells, serial line messages, overlay lists and log records
(chapter 11). -/

namespace Sys2Proof.Machine

/-- The code of a picture or sound lane (section 11.1). -/
def avCode : AvLane → Nat
  | .pic i => i.val
  | .snd i => 2 + i.val

/-- The number of an event kind (section 9.1). -/
def EventKind.num : EventKind → Fin 26
  | .linkDown => 0 | .linkFault => 1 | .cellDamage => 2 | .bufferFull => 3 | .pictureRepeat => 4 | .soundSilence => 5
  | .stall => 6 | .cueLate => 7 | .cueOverflow => 8 | .regionConflict => 9 | .syncResult => 10 | .syncLimit => 11
  | .projectorSlip => 12 | .frameSignalLost => 13 | .heartbeatLost => 14 | .clockUnset => 15 | .allowanceLow => 16
  | .allowanceExpiring => 17 | .logNearlyFull => 18 | .logFull => 19 | .storeFault => 20 | .actionOverflow => 21
  | .captionOverflow => 22 | .scheduleMissed => 23 | .showingCounted => 24 | .showingEnded => 25

/-- The code of a refusal reason (section 11.1). -/
def Reason.code : Reason → Nat
  | .busy => 1 | .badState => 2 | .badArgument => 3 | .badLayout => 4 | .notFound => 5 | .duplicate => 6 | .noRoom => 7
  | .tooLate => 8 | .tooLarge => 9 | .clockUnset => 10 | .noAllowance => 11 | .logFull => 12 | .storeFault => 13
  | .starting => 14 | .unknownCommand => 15

/-- The code of a log outcome (section 11.6). -/
def LogOutcome.code : LogOutcome → Nat
  | .opened => 0 | .completed => 1 | .stopped => 2 | .abandoned => 3 | .interrupted => 4 | .missed => 5

/-- The code of a miss reason (section 11.6). -/
def MissReason.code : MissReason → Nat
  | .late => 0 | .notFound => 1 | .noAllowance => 2

/-- The code of a derived state (section 11.6). -/
def AllowState.code : AllowState → Nat
  | .opened => 0 | .pending => 1 | .expired => 2 | .spent => 3 | .revoked => 4 | .empty => 5

/-- A time of day in five bytes (section 11.1). -/
def timeBytes (t : TimeOfDay) : List Byte :=
  leBytes 2 t.day ++ leBytes 1 t.hour ++ leBytes 1 t.minute ++ leBytes 1 t.second

/-- A flag in one byte. -/
def flagByte (b : Bool) : List Byte := leBytes 1 b.toNat

/-- An optional field: its bytes are always there, 0 where it is absent (section 11.1). -/
def optBytes (width : Nat) (o : Option Nat) : List Byte := leBytes width (o.getD 0)

/-- A log record in 40 bytes (section 11.6). -/
def logBytes (r : LogRecord) : List Byte :=
  leBytes 4 r.number ++ leBytes 4 r.comp ++
  leBytes 1 (r.slot.isSome.toNat + 2 * r.allowance.isSome.toNat + 4 * r.serialAtOpen.isSome.toNat + 8 * r.sched.isSome.toNat +
    16 * r.ended.isSome.toNat + 32 * r.miss.isSome.toNat) ++
  leBytes 1 (r.charged.toNat + 2 * r.exported.toNat + 4 * r.endUnset.toNat) ++
  optBytes 1 r.slot ++ optBytes 1 r.allowance ++ optBytes 2 r.serialAtOpen ++ optBytes 2 r.usedAtOpen ++ optBytes 2 r.sched ++
  timeBytes r.start ++ timeBytes (r.ended.getD timeZero) ++ leBytes 4 r.presented ++ leBytes 4 r.repeated ++
  leBytes 2 r.stalls ++ leBytes 1 r.outcome.code ++ leBytes 1 ((r.miss.map MissReason.code).getD 0)

/-- A (day, minute) value in four bytes (section 11.1). -/
def dayMinuteBytes (day minute : Nat) : List Byte := leBytes 2 day ++ leBytes 2 minute

/-- An allowance record of a reply in 21 bytes (section 11.6). -/
def allowanceBytes (index : Nat) (p : Place) : List Byte :=
  match p.record with
  | none => leBytes 1 index ++ leBytes 1 0 ++ leBytes 16 0 ++ leBytes 2 p.serial ++ leBytes 1 p.state.code
  | some a =>
    leBytes 1 index ++ leBytes 1 (1 + 2 * a.allowed.isSome.toNat + 4 * a.revoked.toNat) ++ leBytes 4 a.comp ++
    dayMinuteBytes a.fromDay a.fromMinute ++ dayMinuteBytes a.untilDay a.untilMinute ++ optBytes 2 a.allowed ++
    leBytes 2 a.used ++ leBytes 2 p.serial ++ leBytes 1 p.state.code

end Sys2Proof.Machine

namespace Sys2Proof.Config

/-- FREE VALUE. The result bytes of a reply whose layout chapter 11 does not spell out field by field (sizes of the fields of
READ_STATUS and the like).  No proof can see them. -/
opaque freeResultBytes (r : Sys2Proof.Machine.Results) : List Byte

end Sys2Proof.Config

namespace Sys2Proof.Machine

/-- The result bytes of a reply (section 11.3): spelled out where chapter 11 gives the layout, a free value elsewhere, which leaves
room for a payload of 1,024 bytes at most (R11). -/
def resultBytes : Results → List Byte
  | .nothing => []
  | .index n => leBytes 1 n
  | .clock before after => timeBytes before ++ timeBytes after
  | .log lowest highest unexported records =>
    optBytes 4 lowest ++ optBytes 4 highest ++ leBytes 2 unexported ++ leBytes 1 records.length ++ (records.map logBytes).flatten
  | .allowanceWas index place wrote =>
    allowanceBytes index place ++ (Config.freeResultBytes (.allowanceWas index place wrote)).take 995
  | r => (Config.freeResultBytes r).take 1016

/-- The payload of a REPORT cell (section 11.3). -/
def reportPayload : Report → List Byte
  | .reply code tag refusal results =>
    leBytes 1 1 ++ leBytes 1 code ++ leBytes 2 tag ++ flagByte refusal.isSome ++
    leBytes 1 ((refusal.map Reason.code).getD 0) ++ leBytes 2 (resultBytes results).length ++ resultBytes results
  | .event kind news count stamp =>
    leBytes 1 2 ++ leBytes 1 kind.val ++
    leBytes 1 (match news with | .clear => 0 | .asserted => 1 | .occurred => 2) ++ leBytes 2 count ++
    timeBytes ((stamp.map Stamp.time).getD timeZero) ++ flagByte ((stamp.map Stamp.unset).getD false) ++ flagByte stamp.isSome
  | .want comp reel ident first cancel =>
    leBytes 1 3 ++ leBytes 4 comp ++ leBytes 1 reel ++ leBytes 4 ident ++ leBytes 3 first ++ flagByte cancel
  | .hold lane tags ms =>
    leBytes 1 4 ++ leBytes 1 (avCode lane) ++ leBytes 1 tags.length ++ leBytes 1 (tags.getD 0 0) ++
    leBytes 1 (tags.getD 1 0) ++ leBytes 2 ms

/-- A cell that the M460 sends: a header with only the kind and the payload length, the payload and the check word (R7, R169).  The
manual gives 0 for the other header fields of a FILL cell; for a REPORT cell that is the model's choice
(notes/assumptions/54.md). -/
def outCell (kind : Nat) (payload : List Byte) : List Byte :=
  let covered := leBytes 1 kind ++ leBytes 11 0 ++ leBytes 2 payload.length ++ payload
  covered ++ leBytes 4 (checkWord covered)

/-- The REPORT cell of a report (kind code 5). -/
def reportCell (r : Report) : List Byte := outCell 5 (reportPayload r)

/-- The FILL cell (kind code 6, payload length 0). -/
def fillCell : List Byte := outCell 6 []

/-- A booth line message with its check byte (R156). -/
def boothBytes (m : Message) : List Byte := withCheckByte (leBytes 1 m.address ++ leBytes 1 m.command ++ leBytes 1 m.data)

/-- A caption line message from its kind, track, cue number and text (section 11.7). -/
def captionFrame (kind : Nat) (track : Fin 4) (number : Nat) (text : List Byte) : List Byte :=
  withCheckByte (leBytes 1 126 ++ leBytes 1 kind ++ leBytes 1 track.val ++ leBytes 2 number ++ leBytes 2 text.length ++ text)

/-- A caption line message with its check byte (R125, section 11.7). -/
def captionBytes : CaptionMsg → List Byte
  | .showCue track number text => captionFrame 1 track number text
  | .clear track number => captionFrame 2 track number []
  | .track track language => captionFrame 3 track 0 (leBytes 1 language)
  | .clearAll track => captionFrame 4 track 0 []

/-- One entry of an overlay list on the projector output (section 11.5). -/
def overlayEntryBytes (e : OverlayEntry) : List Byte :=
  leBytes 1 e.track.val ++ flagByte e.text.isSome ++ leBytes 2 e.number ++ leBytes 1 e.region ++ leBytes 1 e.lines ++
  leBytes 1 e.level ++ leBytes 2 ((e.text.map List.length).getD 0) ++ e.text.getD []

/-- An overlay list on the projector output (section 11.5). -/
def overlayBytes (l : List OverlayEntry) : List Byte := leBytes 1 l.length ++ (l.map overlayEntryBytes).flatten

end Sys2Proof.Machine
end

