-- ==== Sys2Proof/Machine/Ops.lean ====
section
/-! DEFINITION. The named operations that every block shares: lanes, counters, free values, the report queue of the Link Port, and
the reel start table (R11 to R13, R74, R75). -/

namespace Sys2Proof.Machine

/-! ## Running, lanes, counters, free values -/

/-- The part is powered and its RESET pin is released (R166): only then does it take commands and events. -/
def State.running (s : State) : Bool := s.powered && !s.resetPin

/-- A command or event of a part that is off or held in reset changes nothing (R166). -/
def whenRunning (f : State → State) (s : State) : State := if s.running then f s else s

/-- A picture or sound lane as one of the ten lanes. -/
def avToLane : AvLane → Lane
  | .pic i => .pic i
  | .snd i => .snd i

/-- Whether a lane is a picture lane. -/
def avIsPic : AvLane → Bool
  | .pic _ => true
  | .snd _ => false

/-- The four indices of the sound lanes and of the text lanes. -/
def fours : List (Fin 4) := [0, 1, 2, 3]

/-- The picture and sound lanes in the order P0, P1, S0 to S3 (R15). -/
def avLanes : List AvLane := [.pic 0, .pic 1, .snd 0, .snd 1, .snd 2, .snd 3]

/-- The ten lanes in code order. -/
def allLanes : List Lane := avLanes.map avToLane ++ fours.map Lane.txt

/-- The state with its counters changed. -/
def State.count (s : State) (f : Counters → Counters) : State := { s with counters := f s.counters }

/-- The next free choice between two outcomes that the manual calls correct, and the state after drawing it. -/
def State.drawBool (s : State) : Bool × State := (Config.freeBool s.draws, { s with draws := s.draws + 1 })

/-! ## The report queue -/

/-- The report is an EVENT report. -/
def Report.isEvent : Report → Bool
  | .event .. => true
  | _ => false

/-- The lane of a HOLD report. -/
def Report.holdLane : Report → Option AvLane
  | .hold lane _ _ => some lane
  | _ => none

/-- The REPLY of an accepted RESTART (code 7): when it is sent or discarded the RESTART reset takes place (R165). -/
def Report.isRestart : Report → Bool
  | .reply 7 _ none _ => true
  | _ => false

/-- The reports with the HOLD of a lane overwritten in place, or none where no HOLD of that lane waits (R13). -/
def replaceHold (lane : AvLane) (r : Report) : List Report → Option (List Report)
  | [] => none
  | q :: qs => if q.holdLane = some lane then some (r :: qs) else (replaceHold lane r qs).map (q :: ·)

/-- The reports without the most recently admitted EVENT report, or none where there is none (R12). -/
def dropNewestEvent : List Report → Option (List Report)
  | [] => none
  | q :: qs =>
    match dropNewestEvent qs with
    | some rest => some (q :: rest)
    | none => if q.isEvent then some qs else none

/-- How many reports at the head are in transmission: one or none (R11). -/
def LinkPort.inFlight (l : LinkPort) : Nat := if l.sending = .report then 1 else 0

/-- The Link Port with a report admitted, or none where the report is discarded (R12, R13). -/
def LinkPort.take (l : LinkPort) (r : Report) : Option LinkPort :=
  if l.state ≠ .up then none
  else
    let flying := l.queue.take l.inFlight
    let waiting := l.queue.drop l.inFlight
    match r.holdLane.bind (fun lane => replaceHold lane r waiting) with
    | some replaced => some { l with queue := flying ++ replaced }
    | none =>
      if l.queue.length < Config.reportPlaces then some { l with queue := l.queue ++ [r] }
      else if r.isEvent then none
      else (dropNewestEvent waiting).map (fun rest => { l with queue := flying ++ rest ++ [r] })

/-- The Link Port after a report is offered to its queue: unchanged where the report is discarded. -/
def LinkPort.offer (l : LinkPort) (r : Report) : LinkPort := (l.take r).getD l

/-- A report is queued, or discarded by the Link Port (R12). -/
def queueReport (r : Report) (s : State) : State := { s with link := s.link.offer r }

/-- The outbound side, free in UP, begins the oldest report or a FILL cell (R11). -/
def LinkPort.nextCell (l : LinkPort) : LinkPort :=
  match l.queue with
  | [] => { l with sending := .fill, out := .cell fillCell }
  | r :: _ => { l with sending := .report, out := .cell (reportCell r) }

/-- A first cell that follows what the outbound lanes carried: behind training words they stay (R2). -/
def LinkOut.then (o : LinkOut) : LinkOut → LinkOut
  | .cell bytes =>
    match o with
    | .words ws => .opening ws bytes
    | _ => .cell bytes
  | next => next

/-- The outbound side on entry to UP: the first cell, behind the words of the attempt that has just succeeded (R2, R11). -/
def LinkPort.firstCell (l : LinkPort) : LinkPort := { l.nextCell with out := l.out.then l.nextCell.out }

/-- The DONE reply of a command (R159). -/
def reply (code tag : Nat) (results : Results) (s : State) : State := queueReport (.reply code tag none results) s

/-- The REFUSED reply of a command (R159). -/
def refuse (code tag : Nat) (reason : Reason) (s : State) : State := queueReport (.reply code tag (some reason) .nothing) s

/-- The REFUSED reply with a reel index or table index (R53, R150). -/
def refuseAt (code tag : Nat) (reason : Reason) (index : Nat) (s : State) : State :=
  queueReport (.reply code tag (some reason) (.index index)) s

/-! ## The reel start table -/

/-- The row of a reel of the open showing (R74). -/
def State.row (s : State) (k : Nat) : Option ReelRow := s.timeline.table[k]?

/-- The release instant R(u) of a unit of the row's reel (R75). -/
def ReelRow.instant (r : ReelRow) (u : Nat) : Nat := r.start + (u - r.reel.entry) * r.reel.ticks

/-- The end tick of the row's reel: the end of the interval of unit D − 1 (R80). -/
def ReelRow.endTick (r : ReelRow) : Nat := r.instant r.reel.dur

/-- Reels that differ in picture rate, stereo flag or sample rate (R74, R80). -/
def formatsDiffer (a b : Reel) : Bool := decide (a.rate ≠ b.rate) || decide (a.stereo ≠ b.stereo) || decide (a.hi ≠ b.hi)

/-- The reel start table from the reels in order: `start` is the start tick of the first of them, `gap` the gap before it (R74). -/
def reelTableFrom (g : Nat) : Nat → Nat → List Reel → List ReelRow
  | _, _, [] => []
  | start, gap, [r] => [{ reel := r, start, gap }]
  | start, gap, r :: r' :: rs =>
    let gap' := if formatsDiffer r r' then g else 0
    { reel := r, start, gap } :: reelTableFrom g (start + (r.dur - r.entry) * r.ticks + gap') gap' (r' :: rs)

/-- The reel start table of a composition (R74). -/
def reelTable (g : Nat) (reels : List Reel) : List ReelRow := reelTableFrom g 0 0 reels

/-- The unit after a unit in presentation order: the next of the reel, or the first of the next reel (R75). -/
def State.unitAfter (s : State) (k u : Nat) : Option UnitRef :=
  match s.row k with
  | none => none
  | some row =>
    if u + 1 < row.reel.dur then some { reel := k, unit := u + 1 }
    else (s.row (k + 1)).map (fun next => { reel := k + 1, unit := next.reel.entry })

/-- The composition in a slot. -/
def Slot.comp : Slot → Option Composition
  | .empty => none
  | .loaded c => some c
  | .inUse c => some c

/-- The identity of the composition bound to the open showing; 0 where no showing is open. -/
def State.boundIdent (s : State) : Nat :=
  ((s.timeline.slot.bind (fun i => s.comps[i].comp)).map Composition.ident).getD 0

/-- Reel entries in use across the four slots (section 4.1). -/
def State.entriesInUse (s : State) : Nat :=
  (s.comps.toList.map (fun c => (c.comp.map (fun x => x.reels.length)).getD 0)).foldl (· + ·) 0

/-- The row of the reel whose pictures are on: the reel of the next picture unit to release, or of the unit in its interval once
none is left (section 3.3 of 03_reel_buffer_and_lead_control.md, R108). -/
def State.currentRow (s : State) : Option ReelRow :=
  match s.timeline.cursor with
  | some c => s.row c.reel
  | none => s.timeline.interval.bind (fun u => s.row u.reel)

/-- Whether the timeline is in a rate change gap. -/
def State.inGap (s : State) : Bool := (s.timeline.cursor.map Cursor.inGap).getD false

/-- Seconds of a clock value, for comparison (R59). -/
def secsOf (t : TimeOfDay) : Nat := t.day * 86400 + t.hour * 3600 + t.minute * 60 + t.second

/-- Seconds of a (day, minute) value: second 0 of that minute (R59). -/
def minuteSecs (day minute : Nat) : Nat := day * 86400 + minute * 60

/-- The clock's current instant in seconds. -/
def State.nowSecs (s : State) : Nat := secsOf s.clock.now

/-- Every element of a vector changed, by way of its list, which the kernel can evaluate. -/
def mapVec {α β : Type} {n : Nat} (f : α → β) (v : Vector α n) : Vector β n := ⟨(v.toList.map f).toArray, by simp⟩

/-- An element inserted before the first that does not stand before or with it. -/
def insertBy {α : Type} (before : α → α → Bool) (a : α) : List α → List α
  | [] => [a]
  | b :: bs => if before a b then a :: b :: bs else b :: insertBy before a bs

/-- A list sorted by repeated insertion; elements that neither precede the other keep their order. -/
def sortBy {α : Type} (before : α → α → Bool) (l : List α) : List α := l.foldl (fun acc a => insertBy before a acc) []

end Sys2Proof.Machine
end

