-- ==== Sys2Proof/Machine/Flags.lean ====
section
/-! DEFINITION. The Event Table and the Action Unit that every block hands its changes to: the part's flags, their records, their
reports and what they trigger (chapter 9). -/

namespace Sys2Proof.Machine

/-- The clock's current value as a stamp, with the stamped-unset mark (R146). -/
def State.stamp (s : State) : Stamp := { time := s.clock.now, unset := !s.clock.isSet }

/-- The record of an event kind. -/
def State.event (s : State) (k : EventKind) : EventRec := s.events[k.num]

/-- Whether a level event is asserted. -/
def State.isAsserted (s : State) (k : EventKind) : Bool := (s.event k).asserted

/-- The state with a kind's record replaced. -/
def State.setEvent (s : State) (k : EventKind) (r : EventRec) : State := { s with events := s.events.set k.num r }

/-! ## The booth line and the action queue -/

/-- A message offered to the action queue: it joins the tail, or is dropped where 16 wait; an IDLE line takes the oldest message
at once (R155, R156).  The flag says that it was dropped. -/
def ActionUnit.offer (a : ActionUnit) (m : Message) : ActionUnit × Bool :=
  if Config.actionPlaces ≤ a.queue.length then (a, true)
  else
    match a.line, a.queue ++ [m] with
    | .idle, next :: rest => ({ a with queue := rest, line := .sending next, timer := 200 }, false)
    | _, queue => ({ a with queue }, false)

/-- Messages offered in order, and how many of them were dropped (R155). -/
def ActionUnit.offerAll (a : ActionUnit) : List Message → ActionUnit × Nat
  | [] => (a, 0)
  | m :: ms =>
    let (a1, dropped) := a.offer m
    let (a2, n) := a1.offerAll ms
    (a2, n + dropped.toNat)

/-- The messages offered, and the dropped ones counted (R157). -/
def offerMessages (ms : List Message) (s : State) : State × Nat :=
  let (a, n) := s.actions.offerAll ms
  ({ s with actions := a, counters := { s.counters with actionsDropped := bump32 n s.counters.actionsDropped } }, n)

/-- The messages of the enabled entries with a trigger, in index order (R154, R155). -/
def ActionUnit.triggered (a : ActionUnit) (t : Trigger) : List Message :=
  (a.table.toList.filter (fun e => e.enabled && decide (e.trigger = some t))).map ActionEntry.message

/-! ## Records -/

/-- A record after an assertion or an occurrence: counted and stamped (R146, R147). -/
def EventRec.raised (r : EventRec) (level : Bool) (st : Stamp) : EventRec :=
  { r with asserted := level, count := satAdd 65535 1 r.count, last := some st }

/-- The EVENT report of a kind as its record stands, queued where the flag is set (R148). -/
def reportEvent (k : EventKind) (news : EventNews) (flag : Bool) (s : State) : State :=
  if flag then queueReport (.event k.num news (s.event k).count (s.event k).last) s else s

/-- The record of a level kind becomes ASSERTED and the change is reported (R146, R148). -/
def recordAssert (k : EventKind) (s : State) : State :=
  reportEvent k .asserted (s.event k).onAssert (s.setEvent k ((s.event k).raised true s.stamp))

/-- The record of a level kind becomes CLEAR and the change is reported (R146, R148). -/
def recordDeassert (k : EventKind) (s : State) : State :=
  reportEvent k .clear (s.event k).onDeassert
    (s.setEvent k { s.event k with asserted := false, last := some s.stamp })

/-- A momentary occurrence is counted, stamped and reported (R147). -/
def recordOccurrence (k : EventKind) (s : State) : State :=
  reportEvent k .occurred (s.event k).onAssert (s.setEvent k ((s.event k).raised false s.stamp))

/-- The messages of one event of the Action Unit are offered; a drop asserts ACTION_OVERFLOW, whose own entries find the queue
still full (R155). -/
def fireMessages (ms : List Message) (s : State) : State :=
  let (s1, dropped) := offerMessages ms s
  if dropped = 0 ∨ s1.isAsserted .actionOverflow = true then s1
  else
    let s2 := recordAssert .actionOverflow s1
    (offerMessages (s2.actions.triggered (.event EventKind.actionOverflow.num true)) s2).1

/-- The entries with a trigger fire (R154). -/
def fireTrigger (t : Trigger) (s : State) : State := fireMessages (s.actions.triggered t) s

/-- An owning block asserts a level event (R146). -/
def assertEvent (k : EventKind) (s : State) : State :=
  if s.isAsserted k then s else fireTrigger (.event k.num true) (recordAssert k s)

/-- An owning block deasserts a level event (R146). -/
def deassertEvent (k : EventKind) (s : State) : State :=
  if s.isAsserted k then fireTrigger (.event k.num false) (recordDeassert k s) else s

/-- The record and the report of a deassertion, whose actions are fired later in the same event (R3). -/
def recordClear (k : EventKind) (s : State) : State := if s.isAsserted k then recordDeassert k s else s

/-- The actions of a deassertion that `recordClear` recorded (R154). -/
def fireClear (k : EventKind) (was : Bool) (s : State) : State :=
  if was then fireTrigger (.event k.num false) s else s

/-- A level event follows its condition. -/
def setLevel (k : EventKind) (holds : Bool) (s : State) : State := if holds then assertEvent k s else deassertEvent k s

/-- An owning block hands over an occurrence of a momentary event (R147). -/
def occur (k : EventKind) (s : State) : State := fireTrigger (.event k.num true) (recordOccurrence k s)

/-- The oldest message of the action queue leaves for the line, or the line rests; ACTION_OVERFLOW is deasserted when the queue
becomes empty (R155, R156). -/
def startBooth (s : State) : State :=
  match s.actions.queue with
  | [] => { s with actions := { s.actions with line := .idle, timer := 0 } }
  | m :: rest =>
    let s1 := { s with actions := { s.actions with queue := rest, line := .sending m, timer := 200 } }
    if rest.isEmpty then deassertEvent .actionOverflow s1 else s1

/-! ## Frame store accounting (R35, R47) -/

/-- Blocks return to the free pool; reaching 2,048 free blocks deasserts BUFFER_FULL (R35, R47). -/
def returnBlocks (n : Nat) (s : State) : State :=
  let s1 := { s with buffer := { s.buffer with pool := s.buffer.pool + n } }
  if s.buffer.pool < Config.blocksClear ∧ Config.blocksClear ≤ s1.buffer.pool then deassertEvent .bufferFull s1 else s1

end Sys2Proof.Machine
end

