-- ==== Sys2Proof/Machine/Leads.lean ====
section
/-! DEFINITION. The Lead Monitor: leads, marks, holds, pace and exhaustion (R40 to R49). -/

namespace Sys2Proof.Machine

/-- What the Lead Monitor keeps for a lane. -/
def State.hold (s : State) (l : AvLane) : LaneHold := s.holds.get l

/-- The state with a lane's hold state replaced. -/
def State.setHold (s : State) (l : AvLane) (h : LaneHold) : State := { s with holds := s.holds.set l h }

/-- The picture and sound lanes that a reel's track list names. -/
def Reel.avLanes (r : Reel) : List AvLane :=
  Machine.avLanes.filter (fun l => r.lanes.contains (avToLane l))

/-- The stream tag that a reel assigns to a picture or sound lane. -/
def Reel.tagOn (r : Reel) (l : AvLane) : Option Nat :=
  match l with
  | .pic _ => (r.pics.find? (fun t => decide (t.lane = avToLane l))).map PicTrack.tag
  | .snd _ => (r.sounds.find? (fun g => decide (g.lane = avToLane l))).map SoundGroup.tag

/-! ## Marks -/

/-- The low mark L of a lane's class (section 10.3). -/
def State.lowMark (s : State) (l : AvLane) : Nat := if avIsPic l then s.mgmt.limits.lowPic else s.mgmt.limits.lowSnd

/-- The high mark H of a lane's class (section 10.3). -/
def State.highMark (s : State) (l : AvLane) : Nat := if avIsPic l then s.mgmt.limits.highPic else s.mgmt.limits.highSnd

/-- The effective low mark: doubled while the pace value is nonzero (section 3.4). -/
def State.effLow (s : State) (l : AvLane) : Nat := if (s.hold l).pace = 0 then s.lowMark l else 2 * s.lowMark l

/-- The holding mark: H, or the effective low mark when that is higher (section 3.4). -/
def State.holdMark (s : State) (l : AvLane) : Nat := max (s.highMark l) (s.effLow l)

/-! ## Lead -/

/-- The next unit to release on a lane: among the wanted reels that name the lane, the first whose instant has not been taken (R40). -/
def State.nextOn (s : State) (l : AvLane) : Option UnitRef :=
  let at_ : Option UnitRef :=
    if avIsPic l then s.timeline.cursor.map (fun c => { reel := c.reel, unit := c.unit }) else s.sound.cursor
  at_.bind (fun c =>
    (s.wanted.find? (fun w => decide (c.reel ≤ w.index) && w.reel.lanes.contains (avToLane l))).map (fun w =>
      if w.index = c.reel then c else { reel := w.index, unit := w.reel.entry }))

/-- The unit that continues an unbroken run on a lane: the first unit of the next reel only where that reel names the lane (R40). -/
def State.runAfter (s : State) (l : AvLane) (u : UnitRef) : Option UnitRef :=
  (s.unitAfter u.reel u.unit).filter (fun v =>
    decide (v.reel = u.reel) || ((s.row v.reel).map (fun r => r.reel.lanes.contains (avToLane l))).getD false)

/-- The last unit of the unbroken run that begins with a unit at the head of a queue, or none where the run is empty (R40). -/
def State.runLast (s : State) (l : AvLane) : Option UnitRef → List UnitRec → Option UnitRef
  | some u, q :: qs =>
    if q.reel = u.reel ∧ q.unit = u.unit then some ((s.runLast l (s.runAfter l u) qs).getD u) else none
  | _, _ => none

/-- The last unit of a lane's unbroken run. -/
def State.run (s : State) (l : AvLane) : Option UnitRef := s.runLast l (s.nextOn l) (s.buffer.queues.get (avToLane l))

/-- A lane's lead as its queue, P and the reel start table give it (R40). -/
def State.leadNow (s : State) (l : AvLane) : Nat :=
  match s.timeline.state with
  | .idle => 0
  | .closing => 0
  | _ =>
    match s.run l with
    | none => 0
    | some u =>
      match s.row u.reel with
      | none => 0
      | some row =>
        let endTick : Int := (row.instant u.unit + row.reel.ticks : Nat)
        ((if avIsPic l then endTick else endTick + s.sound.live) - s.timeline.p).toNat

/-- Whether a lane's unbroken run reaches unit D − 1 of a reel (R41). -/
def State.runReaches (s : State) (l : AvLane) (k : Nat) (dur : Nat) : Bool :=
  match s.run l with
  | none => false
  | some u => decide (k < u.reel) || (decide (u.reel = k) && decide (dur ≤ u.unit + 1))

/-- Every lane of the current reel has a lead or a run that reaches the reel's last unit (R41). -/
def State.leadMet (s : State) (need : Nat) : Bool :=
  match s.timeline.cursor with
  | none => false
  | some c =>
    match s.row c.reel with
    | none => false
    | some row =>
      row.reel.avLanes.all (fun l => decide (need ≤ (s.hold l).lead) || s.runReaches l c.reel row.reel.dur)

/-- The start lead is met (R41). -/
def State.startMet (s : State) : Bool := s.leadMet s.mgmt.limits.startLead

/-- The resume lead is met (R41). -/
def State.resumeMet (s : State) : Bool := s.leadMet s.mgmt.limits.resumeLead

/-! ## Holds -/

/-- The tags that the wanted reels assign to a lane, in composition order, each once (R43). -/
def State.holdTags (s : State) (l : AvLane) : List Nat :=
  (s.wanted.filterMap (fun w => w.reel.tagOn l)).foldl (fun acc t => if acc.contains t then acc else acc ++ [t]) []

/-- A HOLD of a lane is queued (R43). -/
def queueHold (l : AvLane) (ms : Nat) (s : State) : State := queueReport (.hold l (s.holdTags l) ms) s

/-- The refresh interval: half the hold time, in ticks (R44). -/
def State.refreshTicks (s : State) : Nat := s.mgmt.limits.holdMs * 48

/-- A lane becomes or stays HELD: a HOLD is queued and the refresh timer starts or restarts (R42). -/
def holdLane (l : AvLane) (s : State) : State :=
  queueHold l s.mgmt.limits.holdMs (s.setHold l { s.hold l with held := true, refresh := some s.refreshTicks })

/-- A HELD lane becomes OPEN: a HOLD of duration 0 is queued and the refresh timer stops (R42). -/
def openLane (l : AvLane) (s : State) : State :=
  queueHold l 0 (s.setHold l { s.hold l with held := false, refresh := none })

/-- The low or the high mark of a lane's class differs between two states (R42: a change by SET_LIMITS). -/
def State.marksDiffer (before s : State) (l : AvLane) : Bool :=
  decide (before.lowMark l ≠ s.lowMark l) || decide (before.highMark l ≠ s.highMark l)

/-- A lane's lead and marks are compared with those of the state `before` the change: a rise across the holding mark holds the
lane, a fall below the effective low mark opens it (R42).  A lane above the holding mark whose marks SET_LIMITS has changed is held
as though its lead had risen across it. -/
def settleLane (before : State) (l : AvLane) (s : State) : State :=
  let s1 := s.setHold l { s.hold l with lead := s.leadNow l }
  let h := s1.hold l
  if s1.holdMark l < h.lead ∧ ((before.hold l).lead ≤ before.holdMark l ∨ before.marksDiffer s1 l = true) then holdLane l s1
  else if h.held = true ∧ h.lead < s1.effLow l then openLane l s1
  else s1

/-- Every lane's lead is taken anew and compared with its marks (R40, R42). -/
def settleLeads (before : State) (s : State) : State :=
  avLanes.foldl (fun s l => settleLane before l s) s

/-- A lane's outcome at a release instant changes its pace value (R45). -/
def paceOutcome (l : AvLane) (missing : Bool) (s : State) : State :=
  s.setHold l { s.hold l with pace := if missing then 31 else (s.hold l).pace - 1 }

/-- A lane at or above its effective low mark is sent a hold when the pool is exhausted (R46). -/
def exhaustLane (l : AvLane) (s : State) : State :=
  let h := s.hold l
  if h.lead < s.effLow l then s
  else queueHold l s.mgmt.limits.holdMs
    (s.setHold l { h with held := true, refresh := if h.held then h.refresh else some s.refreshTicks })

/-- The free pool was found empty: BUFFER_FULL is asserted, and then the lanes are held, in the order P0, P1, S0 to S3 (R46; that the EVENT
report of BUFFER_FULL comes before the HOLDs, and the order of the HOLDs, are the model's choice, notes/assumptions/57.md). -/
def exhaustPool (s : State) : State := avLanes.foldl (fun s l => exhaustLane l s) (assertEvent .bufferFull s)

/-- The release HOLDs of the HELD lanes at CLOSING, with the tags of the wanted set as it stands (R43, R48). -/
def State.closingReleases (s : State) : List Report :=
  (avLanes.filter (fun l => (s.hold l).held)).map (fun l => .hold l (s.holdTags l) 0)

end Sys2Proof.Machine
end

