-- ==== Sys2Proof/Machine/Cues.lean ====
section
/-! DEFINITION. The Cue Engine: cue blocks, cue tables, frames and overlay lists, and the caption line (chapter 7). -/

namespace Sys2Proof.Machine

/-- The bytes of a unit whose fragments are all there: the payloads in fragment order (R27). -/
def Content.bytes (c : Content) : List Byte :=
  ((sortBy (fun a b => decide (a.1 < b.1)) c.frags).map Prod.snd).flatten

/-- The cue table of a text lane. -/
def State.cueTable (s : State) (i : Fin 4) : List CueEntry := s.cues.tables[i]

/-- The state with a text lane's cue table replaced. -/
def State.setCueTable (s : State) (i : Fin 4) (t : List CueEntry) : State :=
  { s with cues := { s.cues with tables := s.cues.tables.set i t } }

/-- Bytes in use in the text store of a cue table (section 7.1). -/
def textInUse (t : List CueEntry) : Nat := (t.map (fun e => e.text.length)).foldl (· + ·) 0

/-! ## The caption line -/

/-- Show ticks that a message takes on the caption line: 20 for each byte (R125). -/
def captionTicks (m : CaptionMsg) : Nat := 20 * (captionBytes m).length

/-- A message offered to the caption line queue (R124); an IDLE line takes the oldest at once (R125).  The flag says that it was
admitted. -/
def CueEngine.offer (c : CueEngine) (m : CaptionMsg) : CueEngine × Bool :=
  if Config.captionPlaces ≤ c.queue.length then (c, false)
  else
    match c.line, c.queue ++ [m] with
    | .idle, next :: rest => ({ c with queue := rest, line := .sending next, timer := captionTicks next }, true)
    | _, queue => ({ c with queue }, true)

/-- A message is queued for the caption line, or dropped and counted with CAPTION_OVERFLOW (R124). -/
def offerCaption (m : CaptionMsg) (s : State) : State × Bool :=
  let (c, admitted) := s.cues.offer m
  if admitted then ({ s with cues := c }, true)
  else
    (assertEvent .captionOverflow
      (s.count (fun k => { k with captionsDropped := bump32 1 k.captionsDropped })), false)

/-- A message is queued whose admission changes nothing else. -/
def queueCaption (m : CaptionMsg) (s : State) : State := (offerCaption m s).1

/-- After the spacing the oldest message leaves for the line, or the line rests; CAPTION_OVERFLOW is deasserted when the queue
becomes empty (R124, R125). -/
def startCaption (s : State) : State :=
  match s.cues.queue with
  | [] => { s with cues := { s.cues with line := .idle, timer := 0 } }
  | m :: rest =>
    let s1 := { s with cues := { s.cues with queue := rest, line := .sending m, timer := captionTicks m } }
    if rest.isEmpty then deassertEvent .captionOverflow s1 else s1

/-! ## Cue blocks -/

/-- The text track that a reel places on a text lane (R111). -/
def Reel.textOn (r : Reel) (i : Fin 4) : Option TextTrack := r.texts.find? (fun t => decide (t.lane = Lane.txt i))

/-- A converted cue of a reel (R112 orders 3 to 5, R113). -/
def convertCue (k : Nat) (row : ReelRow) (t : TextTrack) (c : RawCue) : CueEntry :=
  let per : Nat := Config.ticksPerSecond / t.cueRate
  let place (time : Nat) : Int := (row.start + time * per : Nat) - ((row.reel.entry * row.reel.ticks : Nat) : Int)
  { reel := k, opened := t.opened, number := c.number, tin := place c.timeIn, tout := place c.timeOut,
    fadeIn := c.fadeIn * per, fadeOut := c.fadeOut * per, region := min c.region 7, lines := max 1 (min c.lines 4),
    text := c.text, textSent := false, conflict := false, held := false, attempted := false }

/-- The order of a cue table: reel, then A_in, then cue number (R114). -/
def cueBefore (a b : CueEntry) : Bool :=
  decide (a.reel < b.reel) ||
  (decide (a.reel = b.reel) && (decide (a.tin < b.tin) || (decide (a.tin = b.tin) && decide (a.number < b.number))))

/-- Whether a cue is late: its reel is begun and P is at or past its A_in (R115). -/
def State.cueLate (s : State) (e : CueEntry) : Bool := s.cues.begun.contains e.reel && decide (e.tin ≤ (s.timeline.p : Int))

/-- A cue dropped for lateness (R111, R114, R115). -/
def dropLate (s : State) : State := occur .cueLate (s.count (fun k => { k with late := bump32 1 k.late }))

/-- A converted cue is tested against its lane's cue table and inserted or dropped (R114, R115). -/
def acceptCue (i : Fin 4) (e : CueEntry) (s : State) : State :=
  let table := s.cueTable i
  if table.any (fun x => decide (x.reel = e.reel) && decide (x.number = e.number)) then
    s.count (fun k => { k with duplicateCue := bump32 1 k.duplicateCue })
  else if s.cueLate e = true ∧ e.tout ≤ (s.timeline.p : Int) then dropLate s
  else if Config.cuePlaces ≤ table.length ∨ Config.textBytes < textInUse table + e.text.length then
    occur .cueOverflow (s.count (fun k => { k with overflow := bump32 1 k.overflow }))
  else
    let s1 := (s.setCueTable i (insertBy cueBefore e table)).count
      (fun k => { k with cuesAccepted := bump32 1 k.cuesAccepted })
    if s.cueLate e then occur .cueLate s1 else s1

/-- One cue record of a block: made good, converted, tested and inserted or dropped (R111 to R115). -/
def readCue (i : Fin 4) (k : Nat) (row : ReelRow) (t : TextTrack) (c : RawCue) (s : State) : State :=
  if c.number = 0 ∨ 480 < c.text.length then s.count (fun n => { n with malformed := bump32 1 n.malformed })
  else if c.timeOut ≤ c.timeIn then s.count (fun n => { n with inverted := bump32 1 n.inverted })
  else
    let e := convertCue k row t c
    if e.tout ≤ (row.start : Int) ∨ (row.endTick : Int) ≤ e.tin then
      s.count (fun n => { n with outsideReel := bump32 1 n.outsideReel })
    else if s.cues.ended.contains k then dropLate s
    else acceptCue i e s

/-- The records of a block, `n` of them still promised; a record that would run past the unit's end counts itself and every
record after it under MALFORMED (R111). -/
def readCues (i : Fin 4) (k : Nat) (row : ReelRow) (t : TextTrack) : Nat → List Byte → State → State
  | 0, _, s => s
  | n + 1, bs, s =>
    match takeCue bs with
    | none => s.count (fun c => { c with malformed := bump32 (n + 1) c.malformed })
    | some (c, rest) => readCues i k row t n rest (readCue i k row t c s)

/-- A text unit handed over by the Reel Buffer: a cue block of the track on its lane (R37, R111). -/
def takeCueBlock (i : Fin 4) (u : UnitRec) (s : State) : State :=
  if u.damaged then s.count (fun c => { c with damagedBlocks := bump32 1 c.damagedBlocks })
  else
    match s.row u.reel with
    | none => s
    | some row =>
      match row.reel.textOn i, takeNat 2 u.content.bytes with
      | some t, some (n, bs) => readCues i u.reel row t n bs s
      | _, _ => s

/-! ## Cues leaving their tables -/

/-- A cue has left its table, other than at CLOSING: what is counted and what occurs, but for a CLOSED cue's CLEAR (R116). -/
def noteLeft (e : CueEntry) (s : State) : State :=
  if (e.opened = true ∧ e.textSent = true) ∨ (e.opened = false ∧ e.attempted = true) then s
  else
    let s1 := s.count (fun c => { c with neverShown := bump32 1 c.neverShown })
    if e.opened = true ∧ e.held = true then occur .cueOverflow s1 else s1

/-- The CLEARs of the CLOSED cues that left a table with their SHOW attempted (R116, R123). -/
def queueClears (i : Fin 4) (left : List CueEntry) (s : State) : State :=
  (left.filter (fun e => !e.opened && e.attempted)).foldl (fun s e => queueCaption (.clear i e.number) s) s

/-- A lane's cues that meet a test leave its table (R116). -/
def dropCues (i : Fin 4) (leaves : CueEntry → Bool) (s : State) : State :=
  let left := (s.cueTable i).filter leaves
  left.foldl (fun s e => noteLeft e s) (s.setCueTable i ((s.cueTable i).filter (fun e => !leaves e)))

/-! ## Frames -/

/-- A quotient rounded down, 255 at most; 255 for a cut (R120). -/
def fadeLevel (distance : Int) (fade : Nat) : Nat :=
  if fade = 0 then 255 else min 255 ((256 * distance) / (fade : Int)).toNat

/-- The level of a cue on the frame that starts at `f` (R120). -/
def cueLevel (e : CueEntry) (f ticks : Nat) : Nat :=
  min (fadeLevel ((f + ticks : Nat) - e.tin) e.fadeIn) (fadeLevel (e.tout - (f : Int)) e.fadeOut)

/-- Whether a cue of reel `k` is eligible on the frame that starts at `f` (R117 step 3). -/
def eligible (k f : Nat) (e : CueEntry) : Bool :=
  decide (e.reel = k) && decide (e.tin ≤ (f : Int)) && decide ((f : Int) < e.tout)

/-- The cue that a region shows: the later A_in, then the higher cue number (R118). -/
def regionChoice (cues : List CueEntry) : Option CueEntry :=
  cues.foldl (fun best e =>
    match best with
    | none => some e
    | some b => if b.tin < e.tin ∨ (b.tin = e.tin ∧ b.number < e.number) then some e else some b) none

/-- The cues chosen by the region rule, in region order (R118). -/
def chosenCues (cues : List CueEntry) : List CueEntry :=
  (List.range 8).filterMap (fun r => regionChoice (cues.filter (fun e => decide (e.region = r))))

/-- The cues chosen by region in the order that the limit of six takes them: earliest A_in, then lower cue number (R119). -/
def rankedCues (cues : List CueEntry) : List CueEntry :=
  sortBy (fun a b => decide (a.tin < b.tin) || (decide (a.tin = b.tin) && decide (a.number < b.number))) (chosenCues cues)

/-- Whether a list of cues holds one with this number. -/
def hasNumber (cues : List CueEntry) (n : Nat) : Bool := cues.any (fun e => decide (e.number = n))

/-- An OPEN lane's part of a frame: its overlay entries, and the progress of its cues (R118 to R121). -/
def openFrame (i : Fin 4) (k f ticks : Nat) (s : State) : State × List OverlayEntry :=
  let table := s.cueTable i
  let able := table.filter (eligible k f)
  let chosen := chosenCues able
  let ranked := rankedCues able
  let shown := ranked.take 6
  let excess := ranked.drop 6
  let displaced := able.filter (fun e => !hasNumber chosen e.number)
  let entries := (chosen.filter (fun e => hasNumber shown e.number)).map (fun e =>
    { track := i, number := e.number, region := e.region, lines := e.lines, level := cueLevel e f ticks,
      text := if e.textSent then none else some e.text : OverlayEntry })
  let progress (e : CueEntry) : CueEntry :=
    if eligible k f e then
      { e with textSent := e.textSent || hasNumber shown e.number, held := e.held || hasNumber excess e.number,
               conflict := e.conflict || hasNumber displaced e.number }
    else e
  let s1 := (s.setCueTable i (table.map progress)).count
    (fun c => { c with cuesShown := bump32 (shown.filter (fun e => !e.textSent)).length c.cuesShown })
  ((displaced.filter (fun e => !e.conflict)).foldl (fun s _ => occur .regionConflict s) s1, entries)

/-- A SHOW is queued or dropped; an admitted one is counted (R123). -/
def offerShow (i : Fin 4) (s : State) (e : CueEntry) : State :=
  let (s1, admitted) := offerCaption (.showCue i e.number e.text) s
  if admitted then s1.count (fun c => { c with cuesShown := bump32 1 c.cuesShown }) else s1

/-- Whether a CLOSED cue is announced at the frame start `f`, as the table of R123 gives; with a caption lead above 0 that may be a cue
whose span holds no frame start (notes/assumptions/65.md). -/
def announced (k f lead : Nat) (e : CueEntry) : Bool :=
  decide (e.reel = k) && !e.opened && !e.attempted && decide (e.tin - (lead : Int) ≤ (f : Int)) && decide ((f : Int) < e.tout)

/-- A CLOSED lane's part of a frame: TRACK on the reel's first frame, CLEARs of the cues that left, then SHOWs (R123; that TRACK comes
first is notes/assumptions/64.md). -/
def closedFrame (i : Fin 4) (k f : Nat) (first : Bool) (t : TextTrack) (left : List CueEntry) (s : State) : State :=
  let s1 := if first then queueCaption (.track i t.language) s else s
  let s2 := queueClears i left s1
  let due := announced k f s.mgmt.limits.captionLead
  let s3 := ((s2.cueTable i).filter due).foldl (offerShow i) s2
  s3.setCueTable i ((s3.cueTable i).map (fun e => if due e then { e with attempted := true } else e))

/-- The Cue Engine takes the frame start `f` of reel `k` (R117); the frame's overlay list becomes the last overlay list. -/
def frameStart (k f : Nat) (s : State) : State :=
  match s.row k with
  | none => s
  | some row =>
    let first := decide (f = row.start)
    let leaves (e : CueEntry) : Bool := decide (e.reel = k) && decide (e.tout ≤ (f : Int))
    let left := fours.map (fun i => (s.cueTable i).filter leaves)
    let s1 := { s with cues := { s.cues with
      inView := some k, begun := if first ∧ !s.cues.begun.contains k then s.cues.begun ++ [k] else s.cues.begun } }
    let s2 := fours.foldl (fun s i => dropCues i leaves s) s1
    let opened := fours.filter (fun i => ((row.reel.textOn i).map TextTrack.opened).getD false)
    let (s3, entries) := opened.foldl (fun (acc : State × List OverlayEntry) i =>
      let (s', es) := openFrame i k f row.reel.ticks acc.1
      (s', acc.2 ++ es)) (s2, [])
    let s4 := { s3 with cues := { s3.cues with overlay := some entries } }
    fours.foldl (fun s i =>
      match row.reel.textOn i with
      | some t => if t.opened then s else closedFrame i k f first t (left.getD i.val []) s
      | none => s) s4

/-- The Timeline reports the end tick of reel `k`: the reel is ended and its cues leave, also from the last overlay list (R110,
R116, R122, R123).  That departures and CLEARs are taken lane by lane is the model's choice (notes/assumptions/74.md). -/
def cueReelEnd (k : Nat) (s : State) : State :=
  let gone (e : CueEntry) : Bool := decide (e.reel = k)
  let s1 := { s with cues := { s.cues with
    ended := if s.cues.ended.contains k then s.cues.ended else s.cues.ended ++ [k],
    overlay := s.cues.overlay.map (fun l =>
      l.filter (fun o => !((s.cueTable o.track).any (fun e => gone e && decide (e.number = o.number))))) } }
  fours.foldl (fun s i => queueClears i ((s1.cueTable i).filter gone) (dropCues i gone s)) s1

/-- At CLOSING the Cue Engine empties its tables, discards the waiting messages and queues CLEAR_ALL for each lane whose track in
the reel in view was CLOSED (R126). -/
def cueClosing (s : State) : State :=
  let lanes := match s.cues.inView.bind s.row with
    | none => []
    | some row => fours.filter (fun i => ((row.reel.textOn i).map (fun (t : TextTrack) => !t.opened)).getD false)
  let s1 := { s with cues := { s.cues with
    tables := Vector.replicate 4 [], begun := [], ended := [], inView := none, overlay := none, queue := [] } }
  let s2 := deassertEvent .captionOverflow s1
  lanes.foldl (fun s i => queueCaption (.clearAll i) s) s2

end Sys2Proof.Machine
end

