-- ==== Sys2Proof/Machine/Assembly.lean ====
section
/-! DEFINITION. The Cell Sorter, the Unit Assembler and the Reel Buffer: wanted set, sorting, assembly slots, joining, deadlines
and the unit due (R16 to R39). -/

namespace Sys2Proof.Machine

/-- The stored units and slots of a lane. -/
def State.laneSlots (s : State) (l : Lane) : List AsmSlot := s.slots.get l

/-- The state with a lane's occupied slots replaced. -/
def State.setSlots (s : State) (l : Lane) (v : List AsmSlot) : State := { s with slots := s.slots.set l v }

/-- A lane's unit queue. -/
def State.queue (s : State) (l : Lane) : List UnitRec := s.buffer.queues.get l

/-- The state with a lane's unit queue replaced. -/
def State.setQueue (s : State) (l : Lane) (v : List UnitRec) : State :=
  { s with buffer := { s.buffer with queues := s.buffer.queues.set l v } }

/-- The blocks that some slots hold (R35). -/
def slotBlocks (l : List AsmSlot) : Nat := (l.map (fun x => x.regions.length)).foldl (· + ·) 0

/-- The blocks that some units hold (R35). -/
def unitBlocks (l : List UnitRec) : Nat := (l.map (fun x => x.regions.length)).foldl (· + ·) 0

/-- The wanted set with one member changed. -/
def State.editWanted (s : State) (k : Nat) (f : Wanted → Wanted) : State :=
  { s with wanted := s.wanted.map (fun w => if w.index = k then f w else w) }

/-- The member of the wanted set with a reel index. -/
def State.wantedReel (s : State) (k : Nat) : Option Wanted := s.wanted.find? (fun w => decide (w.index = k))

/-- The assembly base of a reel on a lane. -/
def State.base (s : State) (k : Nat) (l : Lane) : Option Nat := (s.wantedReel k).bind (fun w => w.bases.get l)

/-- Slots that meet a test are emptied: their blocks return to the pool and they are counted (R19, R20, R28, R32, R33). -/
def emptySlots (l : Lane) (goes : AsmSlot → Bool) (note : Nat → Counters → Counters) (s : State) : State :=
  let gone := (s.laneSlots l).filter goes
  returnBlocks (slotBlocks gone)
    ((s.setSlots l ((s.laneSlots l).filter (fun x => !goes x))).count (note gone.length))

/-- Counted as abandoned (R34). -/
def noteAbandoned (n : Nat) (c : Counters) : Counters := { c with abandoned := bump32 n c.abandoned }

/-- Counted as discarded at deadline (R34). -/
def noteDiscarded (n : Nat) (c : Counters) : Counters := { c with discarded := bump32 n c.discarded }

/-! ## Joining -/

/-- The reels whose turn may come on a lane: on a text lane each wanted reel that names it, elsewhere the lowest that has not
finished on the lane (R31). -/
def State.turns (s : State) (l : Lane) : List Wanted :=
  let named := s.wanted.filter (fun w => (w.bases.get l).isSome)
  match l with
  | .txt _ => named
  | _ => (named.filter (fun w => ((w.bases.get l).map (fun b => decide (b < w.reel.dur))).getD false)).take 1

/-- The complete base unit that joins next on a lane (R31). -/
def State.joiner (s : State) (l : Lane) : Option AsmSlot :=
  (s.turns l).findSome? (fun w =>
    (s.laneSlots l).find? (fun x => x.complete && decide (x.reel = w.index) && decide (w.bases.get l = some x.unit)))

/-- The unit record of a complete slot (R30). -/
def AsmSlot.record (x : AsmSlot) : UnitRec :=
  { reel := x.reel, unit := x.unit, size := x.size, regions := x.regions, damaged := x.damaged, content := x.content }

/-- A complete unit leaves its slot and joins its lane's queue; a text unit goes on to the Cue Engine and its block returns to
the pool in the same event (R31, R37). -/
def joinUnit (l : Lane) (x : AsmSlot) (s : State) : State :=
  let s1 := (s.setSlots l ((s.laneSlots l).filter (fun y => !(decide (y.reel = x.reel) && decide (y.unit = x.unit))))).count
    (fun c => { c with assembled := bump32 1 c.assembled })
  let s2 := s1.editWanted x.reel (fun w => { w with bases := w.bases.set l (some (x.unit + 1)) })
  match l with
  | .txt i => returnBlocks x.regions.length (takeCueBlock i x.record s2)
  | _ => s2.setQueue l (s2.queue l ++ [x.record])

/-- Units join one after another while the base unit of a reel in turn is complete; each empties one slot (R31). -/
def joinRun (l : Lane) : Nat → State → State
  | 0, s => s
  | fuel + 1, s =>
    match s.joiner l with
    | some x => joinRun l fuel (joinUnit l x s)
    | none => s

/-- The joining test of a lane (R31). -/
def joinLane (l : Lane) (s : State) : State := joinRun l (s.laneSlots l).length s

/-- The joining test of every picture and sound lane: once a reel has left the wanted set, the turn of the reel behind it may have
come on a lane that the left one had not finished (R19, R31).  A text lane's turns wait for no reel. -/
def joinTurns (s : State) : State := avLanes.foldl (fun s l => joinLane (avToLane l) s) s

/-! ## The wanted set -/

/-- The WANT of a member (R21). -/
def Wanted.report (w : Wanted) (cancel : Bool) : Report := .want w.comp w.index w.reel.ident w.reel.entry cancel

/-- The first unit of a reel that is still to come on a lane: its entry point, or the unit after the last whose instant has been
taken (R17, R18). -/
def State.firstBase (s : State) (k : Nat) (r : Reel) (l : Lane) : Nat :=
  let after (c : Option UnitRef) : Nat :=
    match c with
    | none => r.dur
    | some c => if c.reel < k then r.entry else if c.reel = k then c.unit else r.dur
  match l with
  | .pic _ => after (s.timeline.cursor.map (fun c => { reel := c.reel, unit := c.unit }))
  | .snd _ => after s.sound.cursor
  | .txt _ => r.entry

/-- A reel joins the wanted set with its bases, and its WANT is queued (R17, R18, R21). -/
def addReel (k : Nat) (s : State) : State :=
  match s.row k with
  | none => s
  | some row =>
    let bases := row.reel.lanes.foldl (fun (b : Lanes (Option Nat)) l => b.set l (some (s.firstBase k row.reel l)))
      (Lanes.all none)
    let w : Wanted := { comp := s.boundIdent, index := k, reel := row.reel, finished := false, bases }
    queueReport (w.report false) { s with wanted := s.wanted ++ [w] }

/-- A member has finished assembly on every picture lane of its track list (R18). -/
def Wanted.picturesDone (w : Wanted) : Bool :=
  w.reel.pics.all (fun t => ((w.bases.get t.lane).map (fun b => decide (w.reel.dur ≤ b))).getD true)

/-- The instant of the last unit of reel `k` has been taken on every picture and sound lane of the reel (R19). -/
def State.reelTaken (s : State) (k : Nat) (r : Reel) : Bool :=
  ((s.timeline.cursor.map (fun c => decide (k < c.reel))).getD true) &&
  (r.sounds.isEmpty || ((s.sound.cursor.map (fun c => decide (k < c.reel))).getD true))

/-- A member leaves the wanted set (R19). -/
def State.instantsTaken (s : State) (w : Wanted) : Bool := s.reelTaken w.index w.reel

/-- A reel leaves the wanted set: its slots are emptied on every lane and counted as abandoned, its bases go, and complete units of the
reel behind it join where that reel's turn has come (R19, R31). -/
def removeReel (k : Nat) (s : State) : State :=
  joinTurns (allLanes.foldl (fun s l => emptySlots l (fun x => decide (x.reel = k)) noteAbandoned s)
    { s with wanted := s.wanted.filter (fun w => decide (w.index ≠ k)) })

/-- Every member's picture-finished field follows its bases (R18). -/
def noteFinished (s : State) : State :=
  { s with wanted := s.wanted.map (fun w => { w with finished := w.finished || w.picturesDone }) }

/-- The reel that the addition test adds: the one after the only member, which has finished on its picture lanes (R18).  A reel whose
own instants have all been taken is not added while that member stays, since R19 would remove it at once and the test would name it
again without end (notes/assumptions/55.md). -/
def State.nextWanted (s : State) : Option Nat :=
  match s.wanted with
  | [w] =>
    match s.row (w.index + 1) with
    | some row =>
      if w.finished = true ∧ (s.reelTaken (w.index + 1) row.reel = false ∨ s.instantsTaken w = true) then some (w.index + 1)
      else none
    | none => none
  | _ => none

/-- The addition test of R18 and the removal test of R19, until neither holds; `fuel` bounds the reels they can pass. -/
def sortWanted : Nat → State → State
  | 0, s => s
  | fuel + 1, s =>
    let s := noteFinished s
    match s.nextWanted with
    | some k => sortWanted fuel (addReel k s)
    | none =>
      match s.wanted.find? s.instantsTaken with
      | some w => sortWanted fuel (removeReel w.index s)
      | none => s

/-- The wanted set's tests after a base, an instant or a member has changed (R18, R19). -/
def updateWanted (s : State) : State := sortWanted (2 * s.timeline.table.length + 2) s

/-- The end of a release instant: the Lead Monitor has the lanes' outcomes and applies R42 at once, before the Cell Sorter is told of the
instant; the leads follow what its tests then change (R40, R42, R45, R75, R94; the order of the reports is notes/assumptions/70.md). -/
def closeInstant (before : State) (s : State) : State :=
  let s1 := settleLeads before s
  settleLeads s1 (updateWanted s1)

/-! ## Cells -/

/-- The lane of a cell's kind and stream tag in a reel's track list (R23). -/
def Reel.laneFor (r : Reel) (kind : CellKind) (tag : Nat) : Option Lane :=
  match kind with
  | .picture => (r.pics.find? (fun t => decide (t.tag = tag))).map PicTrack.lane
  | .sound => (r.sounds.find? (fun g => decide (g.tag = tag))).map SoundGroup.lane
  | .text => (r.texts.find? (fun t => decide (t.tag = tag))).map TextTrack.lane
  | _ => none

/-- The size limit of a unit on a lane (section 2.4). -/
def sizeLimit : Lane → Nat
  | .pic _ => 4194304
  | .snd _ => 131072
  | .txt _ => 65536

/-- A fragment on its way into a unit. -/
structure Fragment where
  index : Nat
  lastFlag : Bool
  damaged : Bool
  payload : List Byte
  deriving DecidableEq, Repr

/-- A fragment of a slot is already placed. -/
def AsmSlot.has (x : AsmSlot) (i : Nat) : Bool := x.content.frags.any (fun f => decide (f.1 = i))

/-- The fragment overruns the lane's size limit or contradicts the unit's last fragment (R29). -/
def AsmSlot.contradicts (x : AsmSlot) (l : Lane) (f : Fragment) : Bool :=
  decide (sizeLimit l < f.index * x.content.stride + f.payload.length) ||
  ((x.last.map (fun j => decide (j < f.index))).getD false) ||
  (f.lastFlag && ((x.last.map (fun j => decide (j ≠ f.index))).getD false)) ||
  (f.lastFlag && x.content.frags.any (fun g => decide (f.index < g.1)))

/-- The end of a placed fragment in its unit. -/
def AsmSlot.fragEnd (x : AsmSlot) (f : Nat × List Byte) : Nat := f.1 * x.content.stride + f.2.length

/-- The size of a unit: the end of its last fragment, or of its highest placed one (R29, R30).  That a unit without a placed fragment has
the size 0 is the model's choice (notes/assumptions/98.md). -/
def AsmSlot.extent (x : AsmSlot) : Nat :=
  match x.last with
  | some j => ((x.content.frags.find? (fun f => decide (f.1 = j))).map x.fragEnd).getD 0
  | none => (x.content.frags.map x.fragEnd).foldl max 0

/-- A unit closed as DAMAGED by a fragment that R29 refuses. -/
def AsmSlot.closed (x : AsmSlot) : AsmSlot := { x with damaged := true, complete := true, size := x.extent }

/-- A fragment placed in its unit (R27); the region's block has been taken. -/
def AsmSlot.place (x : AsmSlot) (f : Fragment) : AsmSlot :=
  let region := f.index * x.content.stride / Config.blockBytes
  let last := if f.lastFlag then some f.index else x.last
  { x with
    content := { x.content with frags := x.content.frags ++ [(f.index, f.payload)] },
    last := last,
    damaged := x.damaged || f.damaged || (decide (last ≠ some f.index) && decide (f.payload.length < x.content.stride)),
    regions := if f.payload.length = 0 ∨ x.regions.contains region then x.regions else x.regions ++ [region] }

/-- Whether placing a fragment takes a block from the pool (R27, R35). -/
def AsmSlot.needsBlock (x : AsmSlot) (f : Fragment) : Bool :=
  decide (f.payload.length ≠ 0) && !x.regions.contains (f.index * x.content.stride / Config.blockBytes)

/-- Completion: the known last fragment and every one before it are present; a unit of size 0 is DAMAGED (R30). -/
def AsmSlot.settle (x : AsmSlot) : AsmSlot :=
  match x.last with
  | none => x
  | some j =>
    if (List.range (j + 1)).all x.has then
      { x with complete := true, size := x.extent, damaged := x.damaged || decide (x.extent = 0) }
    else x

/-- A slot of a lane replaced by its new contents. -/
def putSlot (l : Lane) (x : AsmSlot) (s : State) : State :=
  s.setSlots l ((s.laneSlots l).map (fun y => if y.reel = x.reel ∧ y.unit = x.unit then x else y))

/-- A lane joins what it can after a slot has become COMPLETE, and the wanted set follows (R18, R31). -/
def afterAssembly (l : Lane) (s : State) : State := updateWanted (joinLane l s)

/-- A fragment dropped as OVERSIZE (R29). -/
def dropOversize (s : State) : State := s.count (fun c => { c with oversize := bump32 1 c.oversize })

/-- A fragment reaches the slot that holds its unit (R26 to R30).  One of a DAMAGED cell that R29 refuses is dropped and affects no
unit (R24). -/
def placeFragment (l : Lane) (x : AsmSlot) (f : Fragment) (s : State) : State :=
  if x.complete = true ∨ x.has f.index = true then s.count (fun c => { c with duplicate := bump32 1 c.duplicate })
  else if x.contradicts l f then
    if f.damaged then dropOversize s else afterAssembly l (putSlot l x.closed (dropOversize s))
  else if x.needsBlock f = true ∧ s.buffer.pool = 0 then
    exhaustPool (emptySlots l (fun y => decide (y.reel = x.reel) && decide (y.unit = x.unit)) noteAbandoned s)
  else
    let taken := if x.needsBlock f then 1 else 0
    afterAssembly l
      (putSlot l (x.place f).settle { s with buffer := { s.buffer with pool := s.buffer.pool - taken } })

/-- The slot that a unit's first cell takes: FILLING, with the limit in force as its stride and nothing placed (R25). -/
def State.freshSlot (s : State) (k u : Nat) : AsmSlot :=
  { reel := k, unit := u, content := { stride := s.link.limit.getD 1024, frags := [], key := s.draws }, last := none,
    damaged := false, regions := [], complete := false, size := 0 }

/-- A sorted cell for unit `u` of reel `k` on a lane (R25).  A DAMAGED cell that R29 refuses takes no EMPTY slot
(notes/assumptions/56.md). -/
def assemble (l : Lane) (k u : Nat) (dur : Nat) (f : Fragment) (s : State) : State :=
  match s.base k l with
  | none => s
  | some base =>
    let isText := match l with | .txt _ => true | _ => false
    if u < base then s.count (fun c => { c with stale := bump32 1 c.stale })
    else if (isText = false ∧ dur ≤ u) ∨ base + 3 < u then s.count (fun c => { c with ahead := bump32 1 c.ahead })
    else
      match (s.laneSlots l).find? (fun x => decide (x.reel = k) && decide (x.unit = u)) with
      | some x => placeFragment l x f s
      | none =>
        if (s.laneSlots l).length < Config.laneSlots then
          let x := s.freshSlot k u
          if f.damaged = true ∧ x.contradicts l f = true then dropOversize s
          else placeFragment l x f { s.setSlots l (s.laneSlots l ++ [x]) with draws := s.draws + 1 }
        else s.count (fun c => { c with noSlot := bump32 1 c.noSlot })

/-- The Cell Sorter takes a content cell (R22 to R24). -/
def sortCell (c : Cell) (damaged : Bool) (s : State) : State :=
  match s.wanted.find? (fun w => decide (w.comp = c.comp) && decide (w.index = c.reel)) with
  | none => s.count (fun n => { n with unwanted := bump32 1 n.unwanted })
  | some w =>
    match w.reel.laneFor c.kind c.tag with
    | none => s.count (fun n => { n with unmapped := bump32 1 n.unmapped })
    | some l =>
      assemble l w.index c.unit w.reel.dur { index := c.frag, lastFlag := c.lastFlag, damaged, payload := c.payload } s

/-! ## Deadlines and the unit due -/

/-- A deadline request for unit `u` of reel `k` on a lane: units up to `u` are passed and the base moves past them (R32). -/
def deadline (l : Lane) (k u : Nat) (s : State) : State :=
  match s.base k l with
  | none => s
  | some base =>
    if u < base then s
    else
      let s1 := emptySlots l (fun x => decide (x.reel = k) && decide (base ≤ x.unit) && decide (x.unit ≤ u)) noteDiscarded s
      joinLane l (s1.editWanted k (fun w => { w with bases := w.bases.set l (some (u + 1)) }))

/-- Presentation order: reel, then unit number (R36). -/
def unitBefore (q : UnitRec) (k u : Nat) : Bool := decide (q.reel < k) || (decide (q.reel = k) && decide (q.unit < u))

/-- Queued units that stand before unit `u` of reel `k` leave the head without presentation (R38, R103). -/
def dropStaleHeads (l : Lane) (k u : Nat) (s : State) : State :=
  let gone := (s.queue l).takeWhile (fun q => unitBefore q k u)
  returnBlocks (unitBlocks gone)
    ((s.setQueue l ((s.queue l).dropWhile (fun q => unitBefore q k u))).count (noteDiscarded gone.length))

/-- The unit due on a lane: the head where it is that unit, which then leaves the queue; otherwise missing (R38).  That
BUFFER_FULL's deassertion by its blocks comes before the outcome's events is notes/assumptions/96.md. -/
def unitDue (l : Lane) (k u : Nat) (s : State) : Option UnitRec × State :=
  let s1 := dropStaleHeads l k u s
  match s1.queue l with
  | q :: qs => if q.reel = k ∧ q.unit = u then (some q, returnBlocks q.regions.length (s1.setQueue l qs)) else (none, s1)
  | [] => (none, s1)

/-! ## Entry to UP and CLOSING -/

/-- On entry to UP, FILLING slots whose stride differs from the new limit are abandoned (R33). -/
def compareStrides (limit : Nat) (s : State) : State :=
  allLanes.foldl (fun s l => emptySlots l (fun x => !x.complete && decide (x.content.stride ≠ limit)) noteAbandoned s) s

/-- At CLOSING every slot is emptied and counted, and every lane queue is purged (R20, R39). -/
def purgeLanes (s : State) : State :=
  allLanes.foldl (fun s l =>
    returnBlocks (unitBlocks (s.queue l)) ((emptySlots l (fun _ => true) noteAbandoned s).setQueue l [])) s

end Sys2Proof.Machine
end

