-- ==== Sys2Proof/Machine/Showing.lean ====
section
/-! DEFINITION. The Showing Counter: allowances, the charge, the showing log, the store queue and reconciliation (chapter 8). -/

namespace Sys2Proof.Machine

/-! ## Allowances -/

/-- The derived state of an allowance place (R128). -/
def deriveState (s : State) (record : Option Allowance) : AllowState :=
  match record with
  | none => .empty
  | some a =>
    if a.revoked then .revoked
    else if (a.allowed.map (fun n => decide (n ≤ a.used))).getD false then .spent
    else if !s.clock.isSet then .pending
    else if minuteSecs a.untilDay a.untilMinute ≤ s.nowSecs then .expired
    else if s.nowSecs < minuteSecs a.fromDay a.fromMinute then .pending
    else .opened

/-- A place of the allowance table. -/
def State.place (s : State) (i : Fin 32) : Place := s.counting.places[i]

/-- The state with a place of the allowance table replaced. -/
def State.setPlace (s : State) (i : Fin 32) (p : Place) : State :=
  { s with counting := { s.counting with places := s.counting.places.set i p } }

/-- The place as the Nonvolatile Store keeps it. -/
def Place.stored (p : Place) : NvPlace := { record := p.record, serial := p.serial }

/-- One allowance is evaluated (R128). -/
def evaluatePlace (i : Fin 32) (s : State) : State := s.setPlace i { s.place i with state := deriveState s (s.place i).record }

/-- The record of a place that is OPEN as last evaluated. -/
def Place.openRecord (p : Place) : Option Allowance := if p.state = .opened then p.record else none

/-- Some OPEN allowance with a limit has no more than the warn threshold left (R145). -/
def State.allowanceLow (s : State) : Bool :=
  s.counting.places.toList.any (fun p =>
    (p.openRecord.bind (fun a => a.allowed.map (fun n => decide (n - a.used ≤ s.mgmt.limits.warn)))).getD false)

/-- Some OPEN allowance has its until instant within 1,440 minutes (R145). -/
def State.allowanceExpiring (s : State) : Bool :=
  s.counting.places.toList.any (fun p =>
    (p.openRecord.map (fun a => decide (minuteSecs a.untilDay a.untilMinute ≤ s.nowSecs + 86400))).getD false)

/-- The two warnings follow their conditions (R145).  That ALLOWANCE_LOW changes first is the model's choice
(notes/assumptions/86.md). -/
def evaluateWarnings (s : State) : State :=
  setLevel .allowanceExpiring s.allowanceExpiring (setLevel .allowanceLow s.allowanceLow s)

/-- Every allowance and the warnings are evaluated (R128, R145). -/
def evaluateAll (s : State) : State :=
  evaluateWarnings { s with counting := { s.counting with
    places := mapVec (fun p => { p with state := deriveState s p.record }) s.counting.places } }

/-- A changed allowance and the warnings are evaluated (R128, R145). -/
def evaluateChanged (i : Fin 32) (s : State) : State := evaluateWarnings (evaluatePlace i s)

/-- The indices of the allowance table, lowest first. -/
def allIndices : List (Fin 32) := List.ofFn id

/-- Whether the allowance at an index is OPEN for a composition (R131). -/
def State.matchesAt (s : State) (comp : Nat) (i : Fin 32) : Bool :=
  ((s.place i).record.map (fun a => decide (a.comp = comp))).getD false &&
  decide (deriveState s (s.place i).record = .opened)

/-- The allowance match of START's test 8, over allowances evaluated at this moment (R131). -/
def State.matchAllowance (s : State) (comp : Nat) (index : Option Nat) : Option (Fin 32) :=
  match index with
  | some n => if h : n < 32 then (if s.matchesAt comp ⟨n, h⟩ then some ⟨n, h⟩ else none) else none
  | none => allIndices.find? (s.matchesAt comp)

/-- The count point Q = ceil(θ × F ÷ 256) (R132). -/
def countPoint (coverage span : Nat) : Nat := (coverage * span + 255) / 256

/-! ## The store queue -/

/-- An entry joins the store queue; where it is the head, its write begins and captures the next record number (R140). -/
def enqueueStore (e : StoreEntry) (s : State) : State :=
  { s with counting := { s.counting with
    queue := s.counting.queue ++ [e],
    header := if s.counting.queue.isEmpty then s.counting.next else s.counting.header } }

/-- The store queue holds fewer than 5 entries and none covers an allowance index (R141). -/
def State.reserves (s : State) (i : Fin 32) : Bool :=
  decide (s.counting.queue.length < Config.storeRoom) &&
  !s.counting.queue.any (fun e => decide (e.place.map Prod.fst = some i))

/-- The store queue holds fewer than 5 entries and no export entry (R141). -/
def State.reservesExport (s : State) : Bool :=
  decide (s.counting.queue.length < Config.storeRoom) && !s.counting.queue.any (fun e => decide (e.kind = .marking))

/-- A record written to its place in a log kept by record number. -/
def writeRecord (r : LogRecord) (log : List LogRecord) : List LogRecord :=
  insertBy (fun a b => decide (a.number < b.number)) r (log.filter (fun x => decide (x.place ≠ r.place)))

/-- The Nonvolatile Store after an entry's write: what it covers, the header and the fresh mark (R140). -/
def NvStore.write (n : NvStore) (e : StoreEntry) (header : Nat) : NvStore :=
  let log := match e.record with
    | some r => writeRecord r n.log
    | none => n.log
  { allowances := match e.place with
      | some (i, p) => n.allowances.set i p
      | none => n.allowances,
    log := log.map (fun r => if e.marks.contains r.number then { r with exported := true } else r),
    next := header, fresh := false }

/-- The entry of an allowance command: the place as it now stands, and the reply it owes (R129, R130). -/
def allowanceEntry (i : Fin 32) (owed : Owed) (s : State) : StoreEntry :=
  { kind := .allowance, record := none, place := some (i, (s.place i).stored), marks := [], owed := some owed }

/-! ## The showing log -/

/-- How many records have not been exported (R135). -/
def State.unexported (s : State) : Nat := (s.counting.log.filter (fun r => !r.exported)).length

/-- No record number remains (R134). -/
def State.numbersGone (s : State) : Bool := decide (Config.lastRecordNumber < s.counting.next)

/-- LOG_NEARLY_FULL and LOG_FULL follow the unexported records (R135).  That LOG_NEARLY_FULL changes first is the model's choice
(notes/assumptions/93.md). -/
def evaluateLog (s : State) : State :=
  setLevel .logFull (decide (Config.logPlaces ≤ s.unexported) || s.numbersGone)
    (setLevel .logNearlyFull (decide (Config.logNearly ≤ s.unexported)) s)

/-- The log has room for a new record (R135). -/
def State.logRoom (s : State) : Bool :=
  !s.isAsserted .storeFault && !s.numbersGone &&
  (decide (s.counting.log.length < Config.logPlaces) || s.counting.log.any LogRecord.exported)

/-- The lowest of some places that no record holds. -/
def freePlace (log : List LogRecord) : Nat → Nat → Nat
  | _, 0 => 0
  | p, fuel + 1 => if log.any (fun r => decide (r.place = p)) then freePlace log (p + 1) fuel else p

/-- The log with a place for a new record, and that place: a free one, else that of the exported record with the lowest number
(R135). -/
def State.roomFor (s : State) : Nat × List LogRecord :=
  if s.counting.log.length < Config.logPlaces then (freePlace s.counting.log 0 Config.logPlaces, s.counting.log)
  else
    match s.counting.log.find? LogRecord.exported with
    | some r => (r.place, s.counting.log.filter (fun x => decide (x.number ≠ r.number)))
    | none => (0, s.counting.log)

/-- A new record takes the next record number and a place; its creation entry is queued (R134 to R137). -/
def createRecord (r : LogRecord) (s : State) : State :=
  let (place, log) := s.roomFor
  let r := { r with place, number := s.counting.next }
  enqueueStore { kind := .creation, record := some r, place := none, marks := [], owed := none }
    (evaluateLog { s with counting := { s.counting with log := log ++ [r], next := s.counting.next + 1 } })

/-- The OPEN record. -/
def State.openRecord (s : State) : Option LogRecord := s.counting.log.find? (fun r => decide (r.outcome = .opened))

/-- The volatile log with the record of a number replaced. -/
def State.setRecord (s : State) (r : LogRecord) : State :=
  { s with counting := { s.counting with log := s.counting.log.map (fun x => if x.number = r.number then r else x) } }

/-- The OPEN record of an accepted START is created (R136). -/
def createOpen (slot : Fin 4) (c : Composition) (sched : Option Nat) (s : State) : State :=
  let bound := s.counting.bound
  createRecord
    { place := 0, number := 0, comp := c.ident, slot := some slot.val, allowance := bound.map Fin.val,
      serialAtOpen := bound.map (fun i => (s.place i).serial),
      usedAtOpen := bound.map (fun i => (((s.place i).record.map Allowance.used).getD 0)),
      sched, start := s.clock.now, ended := none, endUnset := false, presented := 0, repeated := 0, stalls := 0,
      outcome := .opened, miss := none, charged := false, exported := false } s

/-- A missed schedule entry leaves a MISSED record where the log and the store queue have room (R66, R137). -/
def recordMiss (e : SchedEntry) (why : MissReason) (s : State) : State :=
  if s.logRoom = true ∧ s.counting.queue.length < Config.storeRoom then
    createRecord
      { place := 0, number := 0, comp := e.comp, slot := none, allowance := e.allowance, serialAtOpen := none,
        usedAtOpen := none, sched := some e.ident,
        start := { day := e.day, hour := e.minute / 60, minute := e.minute % 60, second := 0 },
        ended := some s.clock.now, endUnset := !s.clock.isSet, presented := 0, repeated := 0, stalls := 0,
        outcome := .missed, miss := some why, charged := false, exported := false } s
  else s

/-! ## The charge -/

/-- One more used showing (R133); a limited allowance never passes its limit, an unlimited one saturates. -/
def Allowance.charge (a : Allowance) : Allowance := { a with used := satAdd 65535 1 a.used }

/-- A place whose allowance has been charged. -/
def Place.charge (p : Place) : Place := { p with record := p.record.map Allowance.charge }

/-- The showing's counts copied into its record (R136). -/
def LogRecord.withCounts (r : LogRecord) (t : Timeline) : LogRecord :=
  { r with presented := t.presented, repeated := t.repeated, stalls := t.stalls }

/-- The charge of the open showing against its bound allowance (R133, R136; the events in the order of R133's list,
notes/assumptions/95.md). -/
def takeCharge (i : Fin 32) (s : State) : State :=
  let s1 := s.setPlace i (s.place i).charge
  let s2 := { s1 with counting := { s1.counting with charged := true } }
  let record := s2.openRecord.map (fun r => { r.withCounts s2.timeline with charged := true })
  let s3 := match record with
    | some r => s2.setRecord r
    | none => s2
  let s4 := enqueueStore
    { kind := .charge, record, place := some (i, (s3.place i).stored), marks := [], owed := none } s3
  occur .showingCounted (evaluateChanged i s4)

/-- One more presented feature unit; at the count point the charge is taken once (R92, R133). -/
def countFeature (s : State) : State :=
  let s1 := { s with timeline := { s.timeline with presented := s.timeline.presented + 1 } }
  match s1.counting.bound with
  | some i =>
    if s1.counting.charged = false ∧ s1.counting.point = some s1.timeline.presented then takeCharge i s1 else s1
  | none => s1

/-! ## Closing and reconciliation -/

/-- The log outcome of a showing's outcome. -/
def logOutcome : ShowOutcome → LogOutcome
  | .completed => .completed
  | .stopped => .stopped
  | .abandoned => .abandoned

/-- The close entry of the open showing is queued; the volatile record stays OPEN until the write ends (R136). -/
def queueClose (outcome : ShowOutcome) (s : State) : State :=
  enqueueStore
    { kind := .close,
      record := s.openRecord.map (fun r =>
        { r.withCounts s.timeline with
          ended := some s.clock.now, endUnset := !s.clock.isSet, outcome := logOutcome outcome }),
      place := none, marks := [], owed := none } s

/-- The allowance that reconciliation charges for a stored OPEN record: identity, load serial and used showings of its stored place
agree (R144). -/
def State.reconcileIndex (s : State) (r : LogRecord) : Option (Fin 32) :=
  match r.allowance with
  | none => none
  | some n =>
    if h : n < 32 then
      let p := s.store.allowances[n]
      match p.record with
      | some a =>
        if r.charged = false ∧ a.comp = r.comp ∧ r.serialAtOpen = some p.serial ∧ r.usedAtOpen = some a.used then some ⟨n, h⟩
        else none
      | none => none
    else none

/-- The place that reconciliation leaves at an index: the stored one with its used showings, which the record was compared with, raised
by 1 (R144; notes/assumptions/33.md). -/
def State.reconciledPlace (s : State) (i : Fin 32) : Place :=
  { (s.place i) with record := (s.store.allowances[i]).record.map Allowance.charge, serial := (s.store.allowances[i]).serial }

/-- The next OPEN record of the log is reconciled and its entry queued; with none left start-up is COMPLETE (R144). -/
def reconcileNext (s : State) : State :=
  match s.openRecord with
  | none => { s with counting := { s.counting with startup := .complete } }
  | some r =>
    let r' := { r with
      outcome := .interrupted, ended := some s.clock.now, endUnset := !s.clock.isSet,
      charged := r.charged || r.allowance.isSome }
    let s1 := s.setRecord r'
    match s1.reconcileIndex r with
    | some i =>
      let s2 := s1.setPlace i (s1.reconciledPlace i)
      evaluateChanged i (enqueueStore
        { kind := .reconciliation, record := some r', place := some (i, (s2.place i).stored), marks := [], owed := none } s2)
    | none => enqueueStore { kind := .reconciliation, record := some r', place := none, marks := [], owed := none } s1

/-- The next record number that start-up takes from the store's header (R134). -/
def numberFromStore (n : NvStore) : Nat := if n.fresh then 1 else min Config.nextNumberCap (n.next + 8)

/-- The end of the start-up read: the volatile copy is taken, allowances, log events and warnings are evaluated, and
reconciliation begins (R143, R144).  That the warnings come before the log events is the model's choice (notes/assumptions/75.md). -/
def finishRead (s : State) : State :=
  let s1 := { s with counting := { s.counting with
    places := mapVec (fun p => { record := p.record, serial := p.serial, state := .empty }) s.store.allowances,
    log := s.store.log, next := numberFromStore s.store, startup := .reconciling } }
  reconcileNext (evaluateLog (evaluateAll s1))

end Sys2Proof.Machine
end

