-- ==== Sys2Proof/Machine/Measure.lean ====
section
/-! DEFINITION. The Sync Measurement Unit: capture channels, the sync check and the projector frame monitor (R104 to R109). -/

namespace Sys2Proof.Machine

/-- A channel put into a mode; a count in progress is abandoned (R104). -/
def channelIn (m : CapMode) : CapChannel :=
  { mode := m,
    state := match m with | .off => .idle | .markDelay => .counting | _ => .waitFirst,
    count := .ticks 0, judged := false }

/-- The state with the Sync Measurement Unit changed. -/
def State.mapSync (s : State) (f : Sync → Sync) : State := { s with sync := f s.sync }

/-- A capture channel. -/
def Sync.channel (y : Sync) : Channel → CapChannel
  | .light => y.light
  | .echo => y.echo
  | .frame => y.frame

/-- The unit with one capture channel replaced. -/
def Sync.setChannel (y : Sync) (c : Channel) (v : CapChannel) : Sync :=
  match c with
  | .light => { y with light := v }
  | .echo => { y with echo := v }
  | .frame => { y with frame := v }

/-! ## Staging the sound delay -/

/-- A delay clamped to ±24,000 ticks (R100). -/
def clampDelay (n : Int) : Int := max (-(Config.delayMax : Int)) (min (Config.delayMax : Int) n)

/-- The staged sound delay is written; SYNC_LIMIT occurs for a clamp (R100). -/
def stageDelay (n : Int) (s : State) : State :=
  let s1 := { s with sound := { s.sound with staged := clampDelay n, pending := true } }
  if clampDelay n = n then s1 else occur .syncLimit s1

/-! ## The sync check -/

/-- A quotient rounded to nearest, ties toward zero (R107). -/
def meanTowardZero (sum : Int) (n : Nat) : Int :=
  let q : Nat := (2 * sum.natAbs + n - 1) / (2 * n)
  if sum < 0 then -(q : Int) else (q : Int)

/-- The difference Lp − Ls of a VALID record (R107). -/
def PairRec.difference (p : PairRec) : Option Int :=
  if p.validity = some .valid then
    match p.light, p.echo with
    | some (.ticks a), some (.ticks b) => some ((a : Int) - b)
    | _, _ => none
  else none

/-- The check finishes: the result is computed, staged under auto-apply, and SYNC_RESULT occurs (R107; SYNC_LIMIT before it,
notes/assumptions/95.md). -/
def finishCheck (s : State) : State :=
  let diffs := s.sync.pairs.filterMap PairRec.difference
  let conclusive := decide (3 ≤ diffs.length)
  let correction := meanTowardZero (diffs.foldl (· + ·) 0) diffs.length
  let wanted := s.sound.live + correction
  let clamped := conclusive && decide (clampDelay wanted ≠ wanted)
  let staged := conclusive && s.sync.auto
  let result : SyncResult :=
    { conclusive, reel := s.sync.target.getD 0, comp := s.boundIdent, records := s.sync.pairs.length, valid := diffs.length,
      correction := if conclusive then some correction else none,
      proposed := if conclusive then some (clampDelay wanted) else none,
      clamped, staged, pairs := s.sync.pairs, finished := s.clock.now }
  let s1 := s.mapSync (fun y => { y with
    armed := false, target := none, finishDue := false, light := channelIn .off, echo := channelIn .off, last := some result })
  let s2 := if clamped then occur .syncLimit s1 else s1
  occur .syncResult (if staged then stageDelay (clampDelay wanted) s2 else s2)

/-- A MARK_DELAY count is still running. -/
def CapChannel.marking (c : CapChannel) : Bool := decide (c.mode = .markDelay) && decide (c.state = .counting)

/-- A MARK_DELAY count of the last record is still running (R107). -/
def Sync.marking (y : Sync) : Bool := y.light.marking || y.echo.marking

/-- The last pair record changed. -/
def editLast (f : PairRec → PairRec) : List PairRec → List PairRec
  | [] => []
  | [p] => [f p]
  | p :: ps => p :: editLast f ps

/-- A record whose counts have both ended takes its validity, unless it has one (R106 steps 1, 3 and 4; notes/assumptions/73.md for a
STALE_DELAY record). -/
def PairRec.settle (p : PairRec) : PairRec :=
  match p.validity, p.light, p.echo with
  | none, some a, some b => { p with validity := some (if a = .noEdge ∨ b = .noEdge then .noEdge else .valid) }
  | _, _, _ => p

/-- A record that is not settled takes a validity.  That a STALE_DELAY record keeps its own is the model's choice
(notes/assumptions/73.md). -/
def PairRec.fallback (v : Validity) (p : PairRec) : PairRec := { p with validity := some (p.validity.getD v) }

/-- The release of a sync mark of the target reel while the check is ARMED: a pair record opens and LIGHT and ECHO enter
MARK_DELAY (R106). -/
def markRelease (k u : Nat) (missing : Bool) (s : State) : State :=
  let isMark := ((s.row k).map (fun r => decide (r.reel.kind = .test) && r.reel.marks.contains u)).getD false
  if s.sync.armed && isMark && decide (s.sync.target = some k) then
    s.mapSync (fun y => { y with
      pairs := (if y.marking then editLast (PairRec.fallback .overrun) y.pairs else y.pairs) ++
        [{ mark := u, light := none, echo := none, flashWidth := none, echoWidth := none, delay := s.sound.live,
           validity := if missing then some .missing else none }],
      light := channelIn .markDelay, echo := channelIn .markDelay })
  else s

/-- A change of the live Ds while the check is ARMED makes every opened record STALE_DELAY (R106). -/
def staleRecords (s : State) : State :=
  if s.sync.armed then
    s.mapSync (fun y => { y with pairs := y.pairs.map (fun p => { p with validity := some .staleDelay }) })
  else s

/-- The end of the target reel: the check finishes, or waits for a running MARK_DELAY count (R107). -/
def checkReelEnd (k : Nat) (s : State) : State :=
  if s.sync.armed = true ∧ s.sync.target = some k then
    if s.sync.marking then s.mapSync (fun y => { y with finishDue := true }) else finishCheck s
  else s

/-- CLOSING ends a check: a record whose counts are still running becomes NO_EDGE (R107).  That one which is MISSING or STALE_DELAY
already stays so, and that a running width count changes no record, are the model's choices (notes/assumptions/73.md and 84.md). -/
def checkClosing (s : State) : State :=
  if s.sync.armed then
    finishCheck (s.mapSync (fun y =>
      { y with pairs := if y.marking then editLast (PairRec.fallback .noEdge) y.pairs else y.pairs }))
  else s

/-- A channel no longer counts. -/
def CapChannel.ended (c : CapChannel) : Bool := decide (c.state = .done) || decide (c.state = .idle)

/-- After a LIGHT or ECHO count ends: both channels return to OFF when none counts, and a waiting check finishes (R106, R107). -/
def afterPairCount (s : State) : State :=
  let s1 := s.mapSync (fun y =>
    if y.light.ended ∧ y.echo.ended then { y with light := channelIn .off, echo := channelIn .off } else y)
  if s1.sync.finishDue = true ∧ s1.sync.marking = false then finishCheck s1 else s1

/-- A MARK_DELAY count or a width count of LIGHT or ECHO goes into the last pair record (R106); that a width without a falling edge is
recorded as NO_EDGE is the model's choice (notes/assumptions/92.md). -/
def PairRec.put (p : PairRec) (c : Channel) (mode : CapMode) (n : CapCount) : PairRec :=
  match c, mode with
  | .light, .markDelay => { p with light := some n }
  | .echo, .markDelay => { p with echo := some n }
  | .light, _ => { p with flashWidth := some n }
  | _, _ => { p with echoWidth := some n }

/-- A LIGHT or ECHO count ends (R104, R106). -/
def endPairCount (c : Channel) (n : CapCount) (next : CapChannel) (s : State) : State :=
  let mode := (s.sync.channel c).mode
  afterPairCount (s.mapSync (fun y =>
    { (y.setChannel c next) with pairs := editLast (fun p => (p.put c mode n).settle) y.pairs }))

/-! ## The projector frame monitor -/

/-- The expected period of FRAME on a reel: T, or T/2 on a stereo reel (R108). -/
def Reel.framePeriod (r : Reel) : Nat := if r.stereo then r.ticks / 2 else r.ticks

/-- The expected period of FRAME, that of the reel of the next picture unit to release (R108); that it stays with the last reel once no
unit is left is notes/assumptions/58.md. -/
def State.expectedPeriod (s : State) : Nat := (s.currentRow.map (fun row => row.reel.framePeriod)).getD 0

/-- The mode of FRAME in the present showing state (R108, R109). -/
def State.frameMode (s : State) : CapMode :=
  match s.timeline.state with
  | .playing => if s.inGap then .off else .period
  | .paused => .lowWidth
  | .stalled => .lowWidth
  | _ => .off

/-- FRAME takes the mode of the present state; a change of mode abandons its count (R104, R108). -/
def retuneFrame (s : State) : State :=
  if s.sync.frame.mode = s.frameMode then s else s.mapSync (fun y => { y with frame := channelIn s.frameMode })

/-- FRAME waits for a fresh first edge, where the expected period changes (R108). -/
def restartFrame (s : State) : State := s.mapSync (fun y => { y with frame := channelIn s.frameMode })

/-- The release cursor has moved on from a unit of reel `r`: FRAME waits for a fresh first edge where the next unit's reel has another
expected period, so that no count spans two of them (R108, notes/assumptions/58.md). -/
def followCursor (r : Reel) (s : State) : State := if s.expectedPeriod = r.framePeriod then s else restartFrame s

/-- One bad measurement (R108). -/
def badMeasurement (s : State) : State :=
  let s1 := s.mapSync (fun y => { y with bad := satAdd 4 1 y.bad, good := 0 })
  if s1.sync.bad = 4 then assertEvent .projectorSlip s1 else s1

/-- One good measurement (R108). -/
def goodMeasurement (s : State) : State :=
  let s1 := s.mapSync (fun y => { y with good := satAdd 16 1 y.good, bad := 0 })
  if s1.sync.good = 16 then deassertEvent .projectorSlip s1 else s1

/-- A PERIOD count that ended at a rising edge is judged against the expected period (R108). -/
def measureFrame (n : Nat) (s : State) : State :=
  let e := s.expectedPeriod
  if (if n < e then e - n else n - e) ≤ e / 64 then goodMeasurement s else badMeasurement s

/-- A FRAME count reaches four expected periods: one bad measurement in PERIOD, and FRAME_SIGNAL_LOST (R108, R109; in this order,
notes/assumptions/95.md). -/
def loseFrame (s : State) : State :=
  let c := s.sync.frame
  let n := match c.count with | .ticks n => n | .noEdge => 0
  let s1 := s.mapSync (fun y => { y with
    frame := { c with count := .ticks (max n (4 * s.expectedPeriod)), judged := true } })
  assertEvent .frameSignalLost (if c.mode = .period then badMeasurement s1 else s1)

/-- An edge on FRAME (R104, R108, R109). -/
def frameEdge (e : Edge) (s : State) : State :=
  let s := if e = .rising then deassertEvent .frameSignalLost s else s
  let c := s.sync.frame
  let put (v : CapChannel) (s : State) : State := s.mapSync (fun y => { y with frame := v })
  let begun : CapChannel := { c with state := .counting, count := .ticks 0, judged := false }
  match c.mode, c.state, e with
  | .period, .waitFirst, .rising => put begun s
  | .lowWidth, .waitFirst, .falling => put begun s
  | .period, .counting, .rising =>
    match c.judged, c.count with
    | false, .ticks n => measureFrame n (put begun s)
    | _, _ => put begun s
  | .lowWidth, .counting, .rising => put { c with state := .waitFirst } s
  | _, _, _ => s

/-- An edge on LIGHT or ECHO (R104, R106). -/
def pairEdge (ch : Channel) (e : Edge) (s : State) : State :=
  let c := s.sync.channel ch
  match c.mode, c.state, e with
  | .highWidth, .waitFirst, .rising => s.mapSync (fun y => y.setChannel ch { c with state := .counting, count := .ticks 0 })
  | .markDelay, .counting, .rising =>
    endPairCount ch c.count { mode := .highWidth, state := .counting, count := .ticks 0, judged := false } s
  | .highWidth, .counting, .falling => endPairCount ch c.count { c with state := .done } s
  | _, _, _ => s

/-- A capture channel's count reaches 96,000 without a stop edge and ends as NO_EDGE (R104). -/
def countTimeout (ch : Channel) (s : State) : State :=
  let c := s.sync.channel ch
  if c.state ≠ .counting then s
  else
    match ch with
    | .frame =>
      let s1 := if c.judged then s else loseFrame s
      s1.mapSync (fun y => { y with frame := { c with state := .waitFirst, count := .noEdge, judged := false } })
    | _ => endPairCount ch .noEdge { c with state := .done, count := .noEdge } s

end Sys2Proof.Machine
end

