-- ==== Sys2Proof/Machine/SoundRouter.lean ====
section
/-! DEFINITION. The Sound Router: the applied offset, sound instants, delay changes, routing and the samples on the outputs (R93 to
R103). -/

namespace Sys2Proof.Machine

/-- The state with the Sound Router changed. -/
def State.mapSound (s : State) (f : Sound → Sound) : State := { s with sound := f s.sound }

/-! ## The applied offset -/

/-- The live shift in samples: a delay divided by the ticks per sample, to nearest with ties away from zero (R93). -/
def shiftSamples (delay : Int) (sampleTicks : Nat) : Int :=
  let q : Nat := (2 * delay.natAbs + sampleTicks) / (2 * sampleTicks)
  if delay < 0 then -(q : Int) else (q : Int)

/-- The applied offset A of a delay at a sample length (R93). -/
def appliedOffset (delay : Int) (sampleTicks : Nat) : Int := shiftSamples delay sampleTicks * sampleTicks

/-- Ticks per sample of the sound reel in play, or of a reel that is about to play where none is. -/
def State.sampleTicksAt (s : State) (k : Nat) : Nat :=
  ((s.row (s.sound.reel.getD k)).map (fun r => r.reel.sampleTicks)).getD 2

/-- A at the instants of reel `k`: that in force where `k` is the sound reel in play or has no sound group, else that of the live Ds at
its sample rate, which its first instant derives (R93, R96).  That this new A, and not the one in force before, places that instant is the
model's choice (notes/assumptions/89.md). -/
def State.offsetFor (s : State) (k : Nat) : Int :=
  match s.row k with
  | none => s.sound.offset
  | some row =>
    if s.sound.reel = some k ∨ row.reel.sounds.isEmpty = true then s.sound.offset
    else appliedOffset s.sound.live row.reel.sampleTicks

/-- The tick at which the next sound instant falls: R(u) + A (R93). -/
def State.soundTick (s : State) : Option Int :=
  s.sound.cursor.bind (fun c => (s.row c.reel).map (fun row => (row.instant c.unit : Int) + s.offsetFor c.reel))

/-- The sound position X = P − A (R93). -/
def State.soundPos (s : State) : Int := (s.timeline.p : Int) - s.sound.offset

/-! ## Sound instants -/

/-- The sound lane of a group. -/
def groupLane (g : SoundGroup) : Option (Fin 4) :=
  match g.lane with
  | .snd i => some i
  | _ => none

/-- SOUND_SILENCE, the sound clean run and the silences counter follow a lane's outcome (R95). -/
def noteSound (missing : Bool) (s : State) : State :=
  if missing then
    assertEvent .soundSilence
      ((s.mapSound (fun d => { d with cleanRun := 0 })).count (fun c => { c with silences := bump32 1 c.silences }))
  else
    let s1 := s.mapSound (fun d => { d with cleanRun := satAdd Config.cleanReleases 1 d.cleanRun })
    if s1.sound.cleanRun = Config.cleanReleases then deassertEvent .soundSilence s1 else s1

/-- Whether a unit that was handed over sounds: GOOD with the size its group calls for, or any unit under PASS (R95). -/
def soundsOut (s : State) (r : Reel) (g : SoundGroup) (q : UnitRec) : Bool :=
  (!q.damaged && decide (q.size = groupBytes r g)) || decide (s.mgmt.limits.soundPolicy = 1)

/-- What a lane sounds after the unit due was asked for: the unit, or silence (R95). -/
def soundPlay (s : State) (r : Reel) (k u : Nat) (g : SoundGroup) (answer : Option UnitRec) : SoundPlay :=
  match answer with
  | some q =>
    { reel := k, unit := u, channels := g.channels, size := q.size, content := q.content, silent := !soundsOut s r g q }
  | none =>
    { reel := k, unit := u, channels := g.channels, size := 0, content := { stride := 1024, frags := [], key := 0 },
      silent := true }

/-- One sound lane takes the instant of unit `u` of reel `k` (R94). -/
def takeGroup (k u : Nat) (r : Reel) (s : State) (g : SoundGroup) : State :=
  match groupLane g with
  | none => s
  | some i =>
    let (answer, s1) := unitDue (.snd i) k u (deadline (.snd i) k u s)
    let play := soundPlay s1 r k u g answer
    let s2 := s1.mapSound (fun d => { d with plays := d.plays.set i (some play) })
    noteSound play.silent (paceOutcome (.snd i) play.silent s2)

/-- Reel `k` becomes the sound reel in play at its first instant: routings are copied, the output rate follows, and A is that of the
live Ds at the reel's sample rate, which is a new value only where the rate changes (R93, R96, R98). -/
def enterSoundReel (k : Nat) (r : Reel) (s : State) : State :=
  if s.sound.reel = some k ∨ r.sounds.isEmpty = true then s
  else
    s.mapSound (fun d => { d with
      reel := some k, hiRate := r.hi, offset := appliedOffset d.live r.sampleTicks,
      routing := r.sounds.foldl (fun (v : Vector (Option (List Route)) 4) g =>
        match groupLane g with
        | some i => v.set i (d.maps[g.map]?)
        | none => v) d.routing })

/-- The sound cursor moves past unit `u` of reel `k`. -/
def passSoundCursor (k u : Nat) (s : State) : State :=
  let next := s.unitAfter k u
  s.mapSound (fun d => { d with cursor := next })

/-- Nothing sounds on any lane until the next instant. -/
def silenceLanes (s : State) : State := s.mapSound (fun d => { d with plays := Vector.replicate 4 none })

/-- The delayed release instant of unit `u` of reel `k` on every sound lane of the reel: outcomes reach the Lead Monitor before the Cell
Sorter is told (R45, R94; the order of the reports is notes/assumptions/70.md).  That the lanes take it in the order of the reel entry's
groups is the model's choice (R95; notes/assumptions/83.md). -/
def soundInstant (k u : Nat) (s : State) : State :=
  match s.row k with
  | none => s
  | some row =>
    let s1 := silenceLanes (enterSoundReel k row.reel s)
    closeInstant s (passSoundCursor k u (row.reel.sounds.foldl (takeGroup k u row.reel) s1))

/-- More units than the largest jump of 48,001 ticks can pass at 800 ticks a unit. -/
def skipFuel : Nat := 64

/-- The units from a cursor on whose span lies wholly before `x`, and the cursor after them (R96, R103). -/
def State.passedBefore (s : State) (x : Int) : Nat → Option UnitRef → List UnitRef × Option UnitRef
  | 0, c => ([], c)
  | _, none => ([], none)
  | fuel + 1, some c =>
    match s.row c.reel with
    | none => ([], none)
    | some row =>
      if ((row.instant c.unit + row.reel.ticks : Nat) : Int) ≤ x then
        let (passed, next) := s.passedBefore x fuel (s.unitAfter c.reel c.unit)
        (c :: passed, next)
      else ([], some c)

/-- The last of some units whose reel names a sound lane. -/
def State.lastOn (s : State) (i : Fin 4) (passed : List UnitRef) : Option UnitRef :=
  passed.reverse.find? (fun u => ((s.row u.reel).map (fun row => row.reel.lanes.contains (.snd i))).getD false)

/-- A sound lane passes some units: one deadline request, for the last of them, and the queued ones leave without presentation
(R103; notes/assumptions/68.md for units of two reels). -/
def passLane (passed : List UnitRef) (s : State) (i : Fin 4) : State :=
  match s.lastOn i passed with
  | none => s
  | some u => dropStaleHeads (.snd i) u.reel (u.unit + 1) (deadline (.snd i) u.reel u.unit s)

/-- The units before `x` are passed on every sound lane and the sound cursor moves behind them (R96, R103).  That the wanted set changes
before the leads are settled, whose HOLDs then carry the later set's tags (R43), is the model's choice (notes/assumptions/87.md). -/
def passSound (x : Int) (s : State) : State :=
  let (passed, next) := s.passedBefore x skipFuel s.sound.cursor
  updateWanted ((fours.foldl (passLane passed) s).mapSound (fun d => { d with cursor := next }))

/-- X has jumped to `x`: whole units before it are passed, and the unit that contains it begins at once (R96, R103). -/
def skipSound (x : Int) (s : State) : State :=
  let s1 := passSound x s
  match s1.sound.cursor.bind (fun c => (s1.row c.reel).map (fun row => (c, row))) with
  | some (c, row) => if ((row.instant c.unit : Nat) : Int) ≤ x then soundInstant c.reel c.unit s1 else silenceLanes s1
  | none => silenceLanes s1

/-- The staged delay becomes live (R101): records opened by an ARMED check go stale when the value changes (R106). -/
def makeLive (s : State) : State :=
  let changed := decide (s.sound.staged ≠ s.sound.live)
  let s1 := s.mapSound (fun d => { d with live := d.staged, pending := false })
  if changed then staleRecords s1 else s1

/-- A sound unit boundary at unit `u` of reel `k` with staging pending: the staged delay becomes live and the outputs are shifted
by Δ (R101 to R103). -/
def shiftSound (k u : Nat) (row : ReelRow) (s : State) : State :=
  let per := s.sampleTicksAt k
  let delta := shiftSamples s.sound.staged per - shiftSamples s.sound.live per
  let s1 := makeLive s
  let s2 := s1.mapSound (fun d => { d with offset := d.offset + delta * per })
  if 0 < delta then silenceLanes s2
  else if delta < 0 then skipSound ((row.instant u : Nat) - delta * per) s2
  else soundInstant k u s2

/-- Entry to PLAYING from READY is a boundary: a staged delay becomes live, A is derived for the first reel, and X starts at −A
(R96, R101). -/
def startSound (s : State) : State :=
  let s1 := if s.sound.pending then makeLive s else s
  let per := ((s1.row 0).map (fun r => r.reel.sampleTicks)).getD 2
  let s2 := s1.mapSound (fun d => { d with offset := appliedOffset d.live per })
  if s2.sound.offset < 0 then skipSound (-s2.sound.offset) s2 else s2

/-- Silence and no routing in force at CLOSING (R98).  The sound reel in play becomes absent with them; A and the output rate keep their
values (notes/assumptions/63.md). -/
def closeSound (s : State) : State :=
  s.mapSound (fun d => { d with
    cursor := none, reel := none, plays := Vector.replicate 4 none, routing := Vector.replicate 4 none })

/-! ## Samples on the outputs -/

/-- A byte of a unit: the placed fragment's, or the free value where no fragment covers it (R27). -/
def Content.byteAt (c : Content) (offset : Nat) : Byte :=
  match c.frags.find? (fun f => decide (f.1 = offset / c.stride)) with
  | some f => (f.2[offset % c.stride]?).getD (Config.freeByte c.key offset)
  | none => Config.freeByte c.key offset

/-- Sample `i` of channel `c` of a sounding unit: three bytes, signed, 0 beyond the unit's size or where it is silent (R95,
section 11.5).  A sample whose three bytes lie only in part inside the size is 0 too (notes/assumptions/62.md). -/
def SoundPlay.sample (p : SoundPlay) (i c : Nat) : Int :=
  let at_ := (i * p.channels + c) * 3
  if p.silent = true ∨ p.size < at_ + 3 then 0
  else signed 24 (leNat [p.content.byteAt at_, p.content.byteAt (at_ + 1), p.content.byteAt (at_ + 2)])

/-- X lies in the last sample of a reel whose successor's first sample begins before that sample ends: it is not output (R96). -/
def State.lastCut (s : State) (row : ReelRow) (unit : Nat) (into : Int) : Bool :=
  decide (row.reel.dur ≤ unit + 1) && decide ((row.reel.ticks : Int) - row.reel.sampleTicks ≤ into) &&
  ((s.soundTick.map (fun n => decide (n < (row.endTick : Int) + s.sound.offset))).getD false)

/-- The samples of a lane's channels that feed an output, summed (R98, R99). -/
def State.laneFeed (s : State) (i : Fin 4) (output : Nat) : Int :=
  match s.sound.plays[i], s.sound.routing[i] with
  | some p, some routes =>
    match s.row p.reel with
    | none => 0
    | some row =>
      let into := s.soundPos - (row.instant p.unit : Nat)
      if into < 0 ∨ (row.reel.ticks : Int) ≤ into ∨ s.lastCut row p.unit into = true then 0
      else
        ((routes.filter (fun r => decide (r.lane = i) && decide (r.channel < p.channels) && decide (r.output = output))).map
          (fun r => p.sample (into.toNat / row.reel.sampleTicks) r.channel)).foldl (· + ·) 0
  | _, _ => 0

/-- A sum saturated to 24 signed bits (R99). -/
def saturate24 (n : Int) : Int := max (-8388608) (min 8388607 n)

/-- What one of the 26 sound outputs carries: 0 outside PLAYING and in a gap, else the saturated sum of the channels that feed it
(R96, R99). -/
def State.soundOutput (s : State) (output : Nat) : Int :=
  if s.timeline.state = .playing ∧ s.inGap = false then
    saturate24 ((fours.map (fun i => s.laneFeed i output)).foldl (· + ·) 0)
  else 0

end Sys2Proof.Machine
end

