-- ==== Sys2Proof/Machine/Timeline.lean ====
section
/-! DEFINITION. The Presentation Timeline: showing states, releases, reel boundaries, stalls, pauses, the opening and the closing of a
showing (chapter 5). -/

namespace Sys2Proof.Machine

/-- The state with the showing context changed. -/
def State.mapTimeline (s : State) (f : Timeline → Timeline) : State := { s with timeline := f s.timeline }

/-- The state with Picture Output changed. -/
def State.mapPicture (s : State) (f : PictureOut → PictureOut) : State := { s with picture := f s.picture }

/-- Entry to a showing state: FRAME takes the state's mode and the STATE triggers fire (section 5.2, R104, R154). -/
def enterState (st : ShowState) (s : State) : State :=
  fireTrigger (.state st) (retuneFrame (s.mapTimeline (fun t => { t with state := st })))

/-- P has reached a tick; the leads fall with it and a HELD lane that falls below its effective low mark opens (R40, R42, R67). -/
def reachTick (p : Nat) (s : State) : State :=
  if p ≤ s.timeline.p then s else settleLeads s (s.mapTimeline (fun t => { t with p := p }))

/-! ## POSITION triggers (R151 to R153) -/

/-- The reel that a selector names among the reels of a showing (R151). -/
def ReelSelector.find (sel : ReelSelector) (table : List ReelRow) : Option ReelRow :=
  match sel with
  | .index k => table[k]?
  | .firstFeature => table.find? (fun r => r.reel.isFeature)
  | .lastFeature => table.reverse.find? (fun r => r.reel.isFeature)

/-- The resolved tick of a POSITION trigger against a reel start table (R151). -/
def resolveTick (table : List ReelRow) (sel : ReelSelector) (atEnd : Bool) (offset : Int) : Option Nat :=
  (sel.find table).map (fun r => (((if atEnd then r.endTick else r.start) : Nat) + offset).toNat)

/-- An entry at the opening of a showing: its fired mark cleared, its resolved tick fixed where it is enabled (R151). -/
def ActionEntry.resolve (table : List ReelRow) (e : ActionEntry) : ActionEntry :=
  { e with
    fired := false,
    resolved := match e.enabled, e.trigger with
      | true, some (.position sel atEnd offset) => resolveTick table sel atEnd offset
      | _, _ => none }

/-- The Action Unit resolves its POSITION entries (R151). -/
def resolveActions (s : State) : State :=
  { s with actions := { s.actions with table := mapVec (ActionEntry.resolve s.timeline.table) s.actions.table } }

/-- At CLOSING every resolved tick becomes absent (R153). -/
def unresolveActions (s : State) : State :=
  { s with actions := { s.actions with table := mapVec (fun e => { e with resolved := none }) s.actions.table } }

/-- An enabled POSITION entry that has not fired and whose tick meets a test (R152). -/
def ActionEntry.ready (reached : Nat → Bool) (e : ActionEntry) : Bool :=
  e.enabled && !e.fired && (e.resolved.map reached).getD false

/-- POSITION entries whose tick meets a test fire, in index order (R152). -/
def firePositions (reached : Nat → Bool) (s : State) : State :=
  let due := (s.actions.table.toList.filter (ActionEntry.ready reached)).map ActionEntry.message
  fireMessages due { s with actions := { s.actions with
    table := mapVec (fun e => { e with fired := e.fired || e.ready reached }) s.actions.table } }

/-! ## Picture release (R75 to R79, R92) -/

/-- The unit due on a picture lane, its deadline requested first (R32, R38, R75). -/
def pictureDue (i : Fin 2) (k u : Nat) (s : State) : Option UnitRec × State :=
  unitDue (.pic i) k u (deadline (.pic i) k u s)

/-- A picture unit that was handed over passes the damaged-picture policy (R78). -/
def State.passes (s : State) (q : Option UnitRec) : Bool :=
  match q with
  | none => false
  | some q => !q.damaged || decide (s.mgmt.limits.picturePolicy = 1)

/-- The effects of a missing picture release (R79). -/
def missRelease (s : State) : State :=
  let s1 := s.mapTimeline (fun t => { t with
    repeated := bump32 1 t.repeated, cleanRun := 0, missing := satAdd Config.stallMissing 1 t.missing })
  assertEvent .pictureRepeat (s1.count (fun c => { c with repeats := bump32 1 c.repeats }))

/-- The effects of a picture release that goes out (R79). -/
def goodRelease (s : State) : State :=
  let s1 := s.mapTimeline (fun t => { t with cleanRun := satAdd Config.cleanReleases 1 t.cleanRun, missing := 0 })
  if s1.timeline.cleanRun = Config.cleanReleases then deassertEvent .pictureRepeat s1 else s1

/-- The picture decided at the release instant of unit `u` of reel `k`: the units of the reel's picture lanes are asked for, and
they go out or the last released picture is repeated (R76 to R79, R45).  The flag says that the release is missing. -/
def decidePicture (k u : Nat) (stereo : Bool) (s : State) : Bool × State :=
  let (left, s1) := pictureDue 0 k u s
  let (right, s2) := if stereo then pictureDue 1 k u s1 else (none, s1)
  let leftOut := s2.passes left
  let rightOut := s2.passes right
  let out := leftOut && (!stereo || rightOut)
  let s3 := match out, left with
    | true, some q => goodRelease (s2.mapPicture (fun p =>
        { p with last := some { reel := k, unit := u, left := q.content, right := right.map UnitRec.content } }))
    | _, _ => missRelease s2
  let s4 := paceOutcome (.pic 0) (!leftOut) (s3.mapPicture (fun p => { p with shown := p.last }))
  (!out, if stereo then paceOutcome (.pic 1) (!rightOut) s4 else s4)

/-- The cursor at a unit, outside any gap. -/
def UnitRef.cursor (u : UnitRef) : Cursor := { reel := u.reel, unit := u.unit, inGap := false }

/-- The release instant of unit `u` of reel `k` is taken (R75).  That the HOLDs stand between the instant's EVENT reports and a WANT
(R11, R42) is the model's choice (notes/assumptions/70.md), and so is that the booth messages of PICTURE_REPEAT and of cue events come
before those of POSITION entries, and SHOWING_COUNTED's after them (R155; notes/assumptions/77.md). -/
def releaseUnit (k u : Nat) (row : ReelRow) (s : State) : State :=
  let (missing, s1) := decidePicture k u row.reel.stereo s
  let s2 := frameStart k (row.instant u) s1
  let s3 := s2.mapPicture (fun p => { p with overlay := s2.cues.overlay })
  let s4 := firePositions (fun t => decide (t ≤ row.instant u)) (markRelease k u missing s3)
  let s5 := if row.reel.isFeature = true ∧ missing = false then countFeature s4 else s4
  let next := s5.unitAfter k u
  let s6 := s5.mapTimeline (fun t => { t with interval := some { reel := k, unit := u }, cursor := next.map UnitRef.cursor })
  closeInstant s (followCursor row.reel s6)

/-- The release instant at the cursor is taken. -/
def takeInstant (s : State) : State :=
  match s.timeline.cursor with
  | none => s
  | some c =>
    match s.row c.reel with
    | none => s
    | some row => releaseUnit c.reel c.unit row s

/-! ## Boundaries and resuming (R80 to R83, R85) -/

/-- The gap before a reel begins (R81). -/
def enterGap (next : ReelRow) (s : State) : State :=
  let s1 := s.mapTimeline (fun t => { t with cursor := t.cursor.map (fun c => { c with inGap := true }) })
  let s2 := { s1 with cues := { s1.cues with overlay := none } }
  firePositions (fun t => decide (t < next.start)) (retuneFrame (s2.mapPicture (fun p => { p with shown := none, overlay := some [] })))

/-- The boundary from a reel to the next: black on a change of format, then the gap, or the next reel's first instant at once (R80). -/
def crossBoundary (row next : ReelRow) (s : State) : State :=
  let s1 := if formatsDiffer row.reel next.reel then s.mapPicture (fun p => { p with last := none }) else s
  if 0 < next.gap then enterGap next s1
  else takeInstant (if row.reel.framePeriod = next.reel.framePeriod then s1 else restartFrame s1)

/-- The showing goes on in PLAYING from where P holds: over a boundary that P stands at, or with the instant at the cursor when P
equals it (R83, R85). -/
def continueAt (s : State) : State :=
  match s.timeline.cursor with
  | none => s
  | some c =>
    match s.row (c.reel - 1), s.row c.reel with
    | some row, some next =>
      if 0 < c.reel ∧ c.unit = next.reel.entry ∧ row.endTick = s.timeline.p then crossBoundary row next s
      else if next.instant c.unit = s.timeline.p then takeInstant s
      else s
    | _, _ => s

/-- Entry to PLAYING from PAUSED or STALLED (R83, R85).  STALL is handed over before the entry (notes/assumptions/60.md). -/
def resumePlaying (s : State) : State :=
  let s1 := s.mapTimeline (fun t => { t with
    missing := 0, stallTimer := none, intermission := none, pauseReason := none })
  continueAt (enterState .playing (deassertEvent .stall (s1.mapPicture (fun p => { p with resend := none }))))

/-- Entry to STALLED; where the resume lead already holds, PLAYING is entered again in the same event (R82, R83).  STALL is handed over
before the entry (notes/assumptions/60.md). -/
def enterStalled (s : State) : State :=
  let s1 := s.mapTimeline (fun t => { t with
    stallTimer := some 0, stalls := satAdd 65535 1 t.stalls, intermission := none, pauseReason := none })
  let s2 := enterState .stalled (assertEvent .stall (s1.mapPicture (fun p => { p with resend := some (p.resend.getD 0) })))
  if s2.resumeMet then resumePlaying s2 else s2

/-- Entry to PAUSED, a pending pause taken with it (R81, R84, R86). -/
def enterPaused (why : PauseReason) (timer : Option Nat) (s : State) : State :=
  enterState .paused ((s.mapTimeline (fun t => { t with
    pausePending := false, pauseReason := some why, stallTimer := none, intermission := timer })).mapPicture
      (fun p => { p with resend := some (p.resend.getD 0) }))

/-- RESUME or the intermission's expiry: PLAYING with the resume lead, STALLED without (R85, R87). -/
def resumeShowing (s : State) : State := if s.resumeMet then resumePlaying s else enterStalled s

/-! ## Opening (R70 to R73) -/

/-- Entry to PLAYING from READY: P is 0, sound starts, and the first picture instant is taken at once (R73, R96, R101).  Sound comes
before picture in this one event (notes/assumptions/61.md). -/
def enterPlaying (s : State) : State :=
  let s1 := startSound (enterState .playing s)
  takeInstant (settleLeads s1 s1)

/-- The start moment of a READY showing has come (R73). -/
def State.startReached (s : State) : Bool :=
  match s.timeline.mode with
  | some (.atTime t) => decide (secsOf t ≤ s.nowSecs)
  | _ => true

/-- Entry to READY, and to PLAYING in the same event where the start moment has come (R72, R73). -/
def enterReady (s : State) : State :=
  let s1 := enterState .ready s
  if s1.startReached then enterPlaying s1 else s1

/-- The Lead Monitor compares the leads with the marks and reports the start and resume conditions to the Timeline, which acts on
them (R41, R42, R72, R73, R83). -/
def settleFrom (before : State) (s : State) : State :=
  let s1 := settleLeads before s
  match s1.timeline.state with
  | .cueing => if s1.startMet then enterReady s1 else s1
  | .ready => if s1.startMet then s1 else enterState .cueing s1
  | .stalled => if s1.resumeMet then resumePlaying s1 else s1
  | _ => s1

/-- A start mode is in range (R70). -/
def startModeOf (a : StartArgs) : Option StartMode :=
  if a.mode = 0 then some .atOnce else if a.mode = 1 ∧ timeInRange a.time = true then some (.atTime a.time) else none

/-- A START that has passed the range test: slot absent where no loaded slot holds the composition of a schedule entry. -/
structure StartCall where
  slot : Option Nat
  mode : Option StartMode
  allowance : Option Nat
  sched : Option Nat
  inRange : Bool
  deriving DecidableEq, Repr

/-- The composition of a LOADED slot. -/
def State.loadedSlot (s : State) (i : Fin 4) : Option Composition :=
  match s.comps[i] with
  | .loaded c => some c
  | _ => none

/-- A slot number as an index. -/
def slotIndex (n : Nat) : Option (Fin 4) := if h : n < 4 then some ⟨n, h⟩ else none

/-- The tests of START in their order: the refusal, or the slot, its composition and the allowance to bind (R70, R131). -/
def startTests (a : StartCall) (s : State) : Except Reason (Fin 4 × Composition × Option (Fin 32)) :=
  if s.counting.startup ≠ .complete then .error .starting
  else if s.timeline.state ≠ .idle then .error .busy
  else if a.inRange = false then .error .badArgument
  else if s.clock.isSet = false then .error .clockUnset
  else if s.isAsserted .storeFault then .error .storeFault
  else if s.logRoom = false then .error .logFull
  else
    match a.slot.bind slotIndex with
    | none => .error .notFound
    | some i =>
      match s.loadedSlot i with
      | none => .error .notFound
      | some c =>
        if c.feature then
          match s.matchAllowance c.ident a.allowance with
          | some n => .ok (i, c, some n)
          | none => .error .noAllowance
        else .ok (i, c, none)

/-- The showing context of an accepted START, before its five effects (R71).  The sound reel in play is absent until the first sound
instant; A and the output rate keep their values (notes/assumptions/63.md). -/
def fixContext (i : Fin 4) (c : Composition) (a : StartCall) (s : State) : State :=
  { s with
    timeline := { Timeline.reset with
      slot := some i, mode := a.mode, sched := a.sched, table := reelTable s.mgmt.limits.gap c.reels,
      cursor := (c.reels.head?).map (fun r => { reel := 0, unit := r.entry, inGap := false }) },
    sound := { s.sound with cursor := (c.reels.head?).map (fun r => { reel := 0, unit := r.entry }), reel := none },
    cues := { s.cues with begun := [], ended := [] },
    sync := { s.sync with bad := 0, good := 0 } }

/-- First effect of an accepted START: the slot is IN_USE, the allowance is bound and Q computed (R71, R131, R132). -/
def bindShowing (i : Fin 4) (c : Composition) (bound : Option (Fin 32)) (s : State) : State :=
  { s with
    comps := s.comps.set i (.inUse c),
    counting := { s.counting with
      bound, charged := false, point := bound.map (fun _ => countPoint s.mgmt.limits.coverage c.span) } }

/-- The showing opens: the context is fixed and the five effects of an accepted START take place in order (R71). -/
def openShowing (i : Fin 4) (c : Composition) (bound : Option (Fin 32)) (a : StartCall) (s : State) : State :=
  let s1 := bindShowing i c bound (fixContext i c a (evaluateAll s))
  let s2 := updateWanted (addReel 0 (createOpen i c a.sched s1))
  enterState .cueing (resolveActions s2)

/-- An accepted START: the showing opens, and the Lead Monitor measures the leads of CUEING (R40, R71, R72). -/
def acceptStart (i : Fin 4) (c : Composition) (bound : Option (Fin 32)) (a : StartCall) (s : State) : State :=
  let s1 := openShowing i c bound a s
  settleFrom s1 s1

/-! ## Ends of units, reels and gaps -/

/-- The tick at which the running interval ends (R75). -/
def State.intervalEnd (s : State) : Option Nat :=
  s.timeline.interval.bind (fun u => (s.row u.reel).map (fun row => row.instant u.unit + row.reel.ticks))

/-! ## Closing (R88 to R91) -/

/-- The cancel WANTs of the wanted set (R20). -/
def State.cancelWants (s : State) : List Report := s.wanted.map (fun w => w.report true)

/-- The reports of CLOSING: the releases and the cancel WANTs come from different owners, and either group may be first (R48). -/
def queueClosingReports (s : State) : State :=
  let (wantsFirst, s1) := s.drawBool
  let reports := if wantsFirst then s.cancelWants ++ s.closingReleases else s.closingReleases ++ s.cancelWants
  { s1 with link := reports.foldl LinkPort.offer s1.link }

/-- The showing context at CLOSING: the cursor is emptied, the timers stop and the runs become 0 (R90). -/
def Timeline.closing (outcome : ShowOutcome) (t : Timeline) : Timeline :=
  { t with
    cursor := none, interval := none, pausePending := false, stallTimer := none, intermission := none, missing := 0,
    cleanRun := 0, outcome := some outcome }

/-- Entry to CLOSING (R90, R20, R39, R48, R98, R107, R126, R136, R153). -/
def enterClosing (outcome : ShowOutcome) (s : State) : State :=
  let s1 := enterState .closing (unresolveActions (s.mapTimeline (Timeline.closing outcome)))
  let s2 := deassertEvent .stall { closeSound s1 with picture := PictureOut.reset }
  let s3 := queueClosingReports s2
  let s4 := { purgeLanes { s3 with wanted := [] } with holds := AvLanes.all LaneHold.reset }
  queueClose outcome (checkClosing (cueClosing s4))

/-- The end of the close write: the slot returns to LOADED, the allowance is unbound, the context is emptied, IDLE is entered and
SHOWING_ENDED occurs (R91; in the order of the list, notes/assumptions/95.md). -/
def returnIdle (s : State) : State :=
  let comps := match s.timeline.slot with
    | some i => match s.comps[i] with
      | .inUse c => s.comps.set i (.loaded c)
      | _ => s.comps
    | none => s.comps
  let s1 := { s with
    comps, timeline := Timeline.reset, counting := { s.counting with bound := none, point := none, charged := false } }
  occur .showingEnded (enterState .idle s1)

/-- A reel's end tick is reported to the Cue Engine and to the sync check (R80, R107, R110).  That the Cue Engine's effects come before
the check's is the model's choice (notes/assumptions/82.md). -/
def reelEnds (k : Nat) (s : State) : State := checkReelEnd k (cueReelEnd k s)

/-- What follows the end of the interval of unit `u` of reel `k` (R80, R82, R84, R86, R89).  That the events of a reel's end come before
a stall, a pause, the start of a gap or the next reel's instant at the same tick is the model's choice (notes/assumptions/91.md). -/
def afterInterval (k u : Nat) (row : ReelRow) (s : State) : State :=
  let isLast := decide (row.reel.dur ≤ u + 1)
  let s1 := if isLast then reelEnds k s else s
  let s2 := s1.mapTimeline (fun t => { t with interval := none })
  match s2.timeline.cursor with
  | none => enterClosing .completed s2
  | some c =>
    if isLast = true ∧ row.reel.kind = .intermission then
      if s2.timeline.pausePending then enterPaused .operator none s2
      else enterPaused .intermission
        (if row.reel.hold = 0 then none else some (row.reel.hold * Config.ticksPerSecond)) s2
    else if s2.timeline.pausePending then enterPaused .operator none s2
    else if Config.stallMissing ≤ s2.timeline.missing then enterStalled s2
    else if isLast then
      match s2.row c.reel with
      | some next => crossBoundary row next s2
      | none => s2
    else s2

/-- The end of the running unit interval is taken: P has reached it (R75, R82). -/
def endInterval (s : State) : State :=
  match s.timeline.interval with
  | none => s
  | some u =>
    match s.row u.reel with
    | none => s
    | some row => afterInterval u.reel u.unit row (reachTick (row.instant u.unit + row.reel.ticks) s)

/-- The running interval has ended. -/
def State.intervalOver (s : State) : Bool := (s.intervalEnd.map (fun n => decide (n ≤ s.timeline.p))).getD false

/-- P has reached the instant at the cursor, or the start of the reel after the gap (R75, R80). -/
def State.instantReached (s : State) : Bool :=
  (s.timeline.cursor.bind (fun c => (s.row c.reel).map (fun row => decide (row.instant c.unit ≤ s.timeline.p)))).getD false

/-- The gap's end is taken: P has reached the start of the next reel, and a pending pause is taken before its first instant (R80,
R81). -/
def endGap (s : State) : State :=
  match s.timeline.cursor with
  | none => s
  | some c =>
    match s.row c.reel with
    | none => s
    | some row =>
      let s1 := (reachTick row.start s).mapTimeline (fun t => { t with cursor := some { c with inGap := false } })
      if s1.timeline.pausePending then enterPaused .operator none s1 else takeInstant (retuneFrame s1)

/-- P stands at the release instant at the cursor, no pause is pending, and the end of the running interval, or of the gap before the
reel, is still to be served. -/
def State.instantDue (s : State) : Bool := s.instantReached && !s.timeline.pausePending && (s.inGap || s.intervalOver)

/-- The end that a release instant at this tick waits for: that of the gap before the reel, else that of the running interval (R80,
R82). -/
def endBefore (s : State) : State := if s.inGap then endGap s else endInterval s

/-- A PAUSE at the tick of a release instant pauses at the end of the interval that this instant begins: the end of the gap or of the
running interval is taken first, where the showing plays on from it (R84; notes/assumptions/69.md for where it does not). -/
def atInstant (s : State) : State :=
  if s.instantDue = true ∧ (endBefore s).timeline.state = .playing then endBefore s else s

end Sys2Proof.Machine
end

