-- ==== Sys2Proof/Machine/Schedule.lean ====
section
/-! DEFINITION. The Schedule Unit: the day clock and its rolls, the heartbeat timer and the schedule queue (sections 4.5 to 4.7). -/

namespace Sys2Proof.Machine

/-! ## The clock -/

/-- The second after a time of day, wrapping after day 65,535 (R59). -/
def nextSecond (t : TimeOfDay) : TimeOfDay :=
  if t.second < 59 then { t with second := t.second + 1 }
  else if t.minute < 59 then { t with minute := t.minute + 1, second := 0 }
  else if t.hour < 23 then { t with hour := t.hour + 1, minute := 0, second := 0 }
  else { day := if t.day < 65535 then t.day + 1 else 0, hour := 0, minute := 0, second := 0 }

/-- The clock after a second roll (R59). -/
def Clock.roll (c : Clock) : Clock := { c with now := nextSecond c.now, tick := 0 }

/-- The second of this roll was the last of its minute (R59). -/
def Clock.endsMinute (c : Clock) : Bool := decide (59 ≤ c.now.second)

/-! ## What takes a second roll -/

/-- The damage count's second ends (R10). -/
def rollDamage (s : State) : State :=
  let s1 := if s.link.damage = 0 then deassertEvent .cellDamage s else s
  { s1 with link := { s1.link with damage := 0 } }

/-- The heartbeat timer takes a value; HEARTBEAT_LOST is asserted where it has reached a nonzero period (R61). -/
def heartbeatAt (n : Nat) (s : State) : State :=
  let s1 := { s with schedule := { s.schedule with heartbeat := n } }
  if s.mgmt.limits.heartbeat ≠ 0 ∧ s.mgmt.limits.heartbeat ≤ n then assertEvent .heartbeatLost s1 else s1

/-- The heartbeat timer counts a second (R61). -/
def rollHeartbeat (s : State) : State := heartbeatAt (satAdd 3600 1 s.schedule.heartbeat) s

/-! ## The head check -/

/-- The start of an entry in seconds. -/
def entrySecs (e : SchedEntry) : Nat := minuteSecs e.day e.minute

/-- An entry is late: the clock has passed its start plus the late limit (R62, R64). -/
def State.entryLate (s : State) (e : SchedEntry) : Bool :=
  decide (entrySecs e + s.mgmt.limits.lateMinutes * 60 < s.nowSecs)

/-- The slot that holds a composition identity. -/
def State.slotOf (s : State) (ident : Nat) : Option (Fin 4) :=
  fours.find? (fun i => ((s.comps[i].comp).map (fun c => decide (c.ident = ident))).getD false)

/-- The START that the head check issues for an entry (R64). -/
def State.headCall (s : State) (e : SchedEntry) : StartCall :=
  { slot := (s.slotOf e.comp).map Fin.val,
    mode := some (.atTime { day := e.day, hour := e.minute / 60, minute := e.minute % 60, second := 0 }),
    allowance := e.allowance, sched := some e.ident, inRange := optFitsIndex e.allowance }
where
  /-- An allowance index, where present, is 0 to 31. -/
  optFitsIndex (o : Option Nat) : Bool := (o.map (fun n => decide (n < 32))).getD true

/-- The queue without its head. -/
def dropHead (s : State) : State := { s with schedule := { s.schedule with queue := s.schedule.queue.tail } }

/-- The head leaves as MISSED (R66).  That the log events of its record come before SCHEDULE_MISSED is the model's choice
(notes/assumptions/81.md). -/
def missHead (e : SchedEntry) (why : MissReason) (s : State) : State := occur .scheduleMissed (recordMiss e why (dropHead s))

/-- The head check of a second roll (R64, R65). -/
def checkHead (s : State) : State :=
  match s.schedule.queue with
  | [] => s
  | e :: _ =>
    if s.entryLate e then missHead e .late s
    else if s.nowSecs + s.mgmt.limits.cueAdvance < entrySecs e then s
    else if s.timeline.state ≠ .idle ∨ s.isAsserted .heartbeatLost = true then s
    else
      match startTests (s.headCall e) s with
      | .ok (i, c, bound) => acceptStart i c bound (s.headCall e) (dropHead s)
      | .error .notFound => missHead e .notFound s
      | .error .noAllowance => missHead e .noAllowance s
      | .error _ => s

/-- A READY showing whose start second has come enters PLAYING (R73). -/
def checkStart (s : State) : State := if s.timeline.state = .ready ∧ s.startReached = true then enterPlaying s else s

/-- A second roll is served, after the heartbeat timer has taken it: the damage count, a minute roll, the head check and the
Timeline (R10, R59, R64, R73, R128). -/
def serveRoll (minute : Bool) (s : State) : State :=
  let s1 := rollDamage s
  checkStart (checkHead (if minute then evaluateAll s1 else s1))

/-- The tick within the second passes 95,999 (R59).  In reset only the clock runs (R166). -/
def rollSecond (s : State) : State :=
  let s1 := { s with clock := s.clock.roll }
  if s.running then serveRoll s.clock.endsMinute (rollHeartbeat s1) else s1

/-! ## The schedule queue -/

/-- The order of the schedule queue: by start, an equal start after those queued (R62). -/
def insertEntry (e : SchedEntry) (q : List SchedEntry) : List SchedEntry :=
  insertBy (fun a b => decide (entrySecs a < entrySecs b)) e q

/-- The place of an entry in the queue. -/
def entryPosition (ident : Nat) (q : List SchedEntry) : Nat := q.findIdx (fun e => decide (e.ident = ident))

end Sys2Proof.Machine
end

