-- ==== Sys2Proof/Machine/Reset.lean ====
section
/-! DEFINITION. The three resets, loss of power, and the training attempts and exits of the reel link (R1 to R4, R49, R68, R140, R165
to R168). -/

namespace Sys2Proof.Machine

/-! ## Training -/

/-- A training attempt begins: the retrain word where the M460 left UP on its own trigger, then the ability word (R2). -/
def LinkPort.beginAttempt (l : LinkPort) : LinkPort :=
  { l with
    state := .training, attempt := some 0, decided := false, ownRetrain := false,
    out := .words ((if l.ownRetrain then [TrainingWord.retrain] else []) ++
      [TrainingWord.ability Config.ownPayloadClass Config.ownLaneCounts]) }

/-- Signal detect in DOWN begins training (R1). -/
def beginTraining (s : State) : State := { s with link := s.link.beginAttempt }

/-- Signal is present on the inbound lanes of a part that runs with its link DOWN: it is taken at once (R1). -/
def takeSignal (s : State) : State :=
  if s.running = true ∧ s.signal = true ∧ s.link.state = .down then beginTraining s else s

/-! ## Resets -/

/-- The store after a reset or a loss of power: an entry whose write is in progress is written whole or not at all, and which of
the two is left open (R140). -/
def settleStore (s : State) : NvStore × State :=
  match s.counting.queue with
  | [] => (s.store, s)
  | e :: _ =>
    let (written, s1) := s.drawBool
    (if written then s.store.write e s.counting.header else s.store, s1)

/-- The reset cause record after a reset (R167). -/
def Management.afterReset (m : Management) (cause : ResetCause) : Management :=
  { Management.reset with
    cause, resets := match cause with
      | .powerOn => 0
      | _ => satAdd 255 1 m.resets }

/-- The clock after a reset (R59, R166). -/
def clockAfterReset (cause : ResetCause) (c : Clock) : Clock :=
  match cause with
  | .powerOn => Clock.reset
  | _ => c

/-- A reset: every volatile state takes its reset value, the store keeps its contents, the cause is recorded, and start-up begins
unless the RESET pin holds the part (R68, R166 to R168). -/
def resetTo (cause : ResetCause) (s : State) : State :=
  let (store, s1) := settleStore s
  let clock := clockAfterReset cause s1.clock
  takeSignal
    { State.reset with
      resetPin := s1.resetPin, signal := s1.signal, clock, store, events := eventsAfterReset clock,
      counting := { Counting.reset with startup := if s1.resetPin then .heldInReset else .reading },
      mgmt := s1.mgmt.afterReset cause, draws := s1.draws, pending := s1.pending }

/-- Loss of power: every activity stops and only the store keeps its contents (R140, R165). -/
def losePower (s : State) : State :=
  let (store, s1) := settleStore s
  { State.reset with
    powered := false, resetPin := s1.resetPin, signal := s1.signal, store,
    counting := { Counting.reset with startup := .heldInReset }, draws := s1.draws, pending := s1.pending }

/-- The RESET pin is released: start-up begins and a present signal is taken (R1, R166). -/
def releasePin (s : State) : State :=
  let s1 := { s with resetPin := false }
  if s1.powered then takeSignal { s1 with counting := { s1.counting with startup := .reading } } else s1

/-- A RESTART whose reply is not in the report queue any more takes place (R165). -/
def restartIf (due : Bool) (s : State) : State := if due then resetTo .restart s else s

/-! ## Leaving UP -/

/-- The reply of an accepted RESTART waits in the report queue. -/
def LinkPort.holdsRestart (l : LinkPort) : Bool := l.queue.any Report.isRestart

/-- The Link Port as it leaves UP (R4). -/
def LinkPort.leave (l : LinkPort) (target : LinkState) (own : Bool) : LinkPort :=
  { l with
    state := target, lost := true, queue := [], sending := .free, attempt := none, decided := false, ownRetrain := own,
    out := .silent }

/-- The link leaves UP for DOWN or TRAINING (R4); the first attempt in TRAINING begins at once (R2). -/
def leaveUp (target : LinkState) (own : Bool) (s : State) : State :=
  let s1 := assertEvent .linkDown { s with link := s.link.leave target own }
  if target = .training then beginTraining s1 else s1

/-- The link leaves UP, and a RESTART whose reply is discarded with the queue takes place (R4, R165). -/
def dropLink (target : LinkState) (own : Bool) (s : State) : State :=
  restartIf s.link.holdsRestart (leaveUp target own s)

/-! ## Entry to UP -/

/-- The Link Port on entry to UP (R3). -/
def LinkPort.enterUp (l : LinkPort) (limit lanes : Nat) : LinkPort :=
  { l with
    state := .up, limit := some limit, laneCount := some lanes, retrainRun := 0, queue := [], sending := .free,
    attempt := none, decided := false, ownRetrain := false }

/-- The re-announcement: a WANT for each wanted reel, then a fresh HOLD for each HELD lane (R15). -/
def reannounce (s : State) : State :=
  let s1 := s.wanted.foldl (fun s w => queueReport (w.report false) s) s
  (avLanes.filter (fun l => (s.hold l).held)).foldl (fun s l => queueHold l s.mgmt.limits.holdMs s) s1

/-- Entry to UP (R3, R15, R33): the reports of the two deassertions take the first places of the queue, the re-announcement follows
them, and their actions fire after it (notes/assumptions/23.md). -/
def enterUp (limit lanes : Nat) (s : State) : State :=
  let s1 := reannounce (recordClear .linkDown (recordClear .linkFault { s with link := s.link.enterUp limit lanes }))
  let s2 := fireClear .linkDown (s.isAsserted .linkDown) (fireClear .linkFault (s.isAsserted .linkFault) s1)
  let s3 := compareStrides limit s2
  { s3 with link := s3.link.firstCell }

/-- The payload classes that an ability word may name (R2). -/
def validClasses : List Nat := [1024, 2048, 4096]

/-- The largest valid lane count that a word offers; 0 where it offers none (R2). -/
def bestLanes (offered : List Nat) : Nat := (offered.filter (fun n => Config.ownLaneCounts.contains n)).foldl max 0

/-- The current attempt takes a partner ability word, the first in it: it succeeds or fails (R2). -/
def takeAbility (payloadClass : Nat) (offered : List Nat) (s : State) : State :=
  if s.link.state ≠ .training ∨ s.link.decided = true then s
  else if validClasses.contains payloadClass = true ∧ bestLanes offered ≠ 0 then
    enterUp (min Config.ownPayloadClass payloadClass) (bestLanes offered) s
  else assertEvent .linkFault { s with link := { s.link with decided := true } }

end Sys2Proof.Machine
end

