-- ==== Sys2Proof/Machine/Manage.lean ====
section
/-! DEFINITION. The Management Unit: the general tests, the 28 commands, and the decoding of a MANAGE cell (chapter 10, R158 to R165,
and the rules of the owning blocks). -/

namespace Sys2Proof.Machine

/-- Every command taken for execution restarts the heartbeat timer and deasserts HEARTBEAT_LOST (R61, R158).  That both come before the
command's own effects, their reports and booth messages included, is the model's choice (notes/assumptions/90.md). -/
def acceptCommand (s : State) : State :=
  deassertEvent .heartbeatLost { s with schedule := { s.schedule with heartbeat := 0 } }

/-- A command is taken: the tests for start-up and a pending RESTART, then its own body (R158).  The body finds the heartbeat timer
restarted and HEARTBEAT_LOST deasserted (notes/assumptions/90.md), what a reading command returns included (notes/assumptions/94.md). -/
def manage (code tag : Nat) (body : State → State) (s : State) : State :=
  let s1 := acceptCommand s
  if s1.counting.startup ≠ .complete then refuse code tag .starting s1
  else if s1.mgmt.restartPending then refuse code tag .busy s1
  else body s1

/-- The state with the limits replaced. -/
def State.setLimits (s : State) (l : Limits) : State := { s with mgmt := { s.mgmt with limits := l } }

/-- The same key names two elements of a list. -/
def hasRepeat {α : Type} (key : α → Nat) (l : List α) : Bool := !decide (l.map key).Nodup

/-! ## Part -/

/-- What IDENTIFY returns: vendor code, part code, revision, frame store blocks and lane count (R164). -/
def partIdentity : Results := .identity 0x0C71 0x0460 2 Config.blocks 10

/-- IDENTIFY, code 1 (R164). -/
def serveIdentify (tag : Nat) : State → State := manage 1 tag (reply 1 tag partIdentity)

/-- The clock takes a set value: SET, tick 0 (R60). -/
def Clock.setTo (t : TimeOfDay) : Clock := { isSet := true, now := t, tick := 0 }

/-- The effects of SET_CLOCK in range: a second roll and a minute roll at the new value (R60, R61).  That a roll
taken before the timer's restart leaves the old timer value out, and that the head check finds HEARTBEAT_LOST deasserted, is the model's
choice (notes/assumptions/18.md), and so is CLOCK_UNSET's deassertion before the events of the roll (notes/assumptions/88.md). -/
def applyClock (t : TimeOfDay) (s : State) : State :=
  let s1 := deassertEvent .clockUnset { s with clock := Clock.setTo t }
  let (rollFirst, s2) := s1.drawBool
  serveRoll true (heartbeatAt (if rollFirst then 0 else 1) s2)

/-- SET_CLOCK, code 2 (R60). -/
def serveSetClock (tag : Nat) (t : TimeOfDay) : State → State := manage 2 tag (fun s =>
  if timeInRange t then reply 2 tag (.clock s.clock.now t) (applyClock t s) else refuse 2 tag .badArgument s)

/-- The limits in number order (section 10.3). -/
def Limits.values (l : Limits) : List Nat :=
  [l.startLead, l.resumeLead, l.lowPic, l.highPic, l.lowSnd, l.highSnd, l.holdMs, l.stallSeconds, l.cueSeconds, l.gap, l.coverage,
    l.heartbeat, l.lateMinutes, l.cueAdvance, l.captionLead, l.picturePolicy, l.soundPolicy, l.warn]

/-- A value clamped into a range. -/
def clampNat (lo hi n : Nat) : Nat := max lo (min hi n)

/-- A heartbeat period clamped: 0 stays 0, and 1 to 4 take 5 (R160). -/
def clampPeriod (n : Nat) : Nat := if n = 0 then 0 else clampNat 5 3600 n

/-- One limit set to its clamped value; a high mark keeps the value given, to be clamped against its low mark (R160). -/
def Limits.put (l : Limits) (a : LimitArgs) : Limits :=
  match a.number with
  | 0 => { l with startLead := clampNat 48000 960000 a.value }
  | 1 => { l with resumeLead := clampNat 48000 960000 a.value }
  | 2 => { l with lowPic := clampNat 24000 960000 a.value }
  | 3 => { l with highPic := a.value }
  | 4 => { l with lowSnd := clampNat 24000 960000 a.value }
  | 5 => { l with highSnd := a.value }
  | 6 => { l with holdMs := clampNat 10 5000 a.value }
  | 7 => { l with stallSeconds := clampNat 5 600 a.value }
  | 8 => { l with cueSeconds := clampNat 10 900 a.value }
  | 9 => { l with gap := clampNat 0 96000 a.value }
  | 10 => { l with coverage := clampNat 1 256 a.value }
  | 11 => { l with heartbeat := clampPeriod a.value }
  | 12 => { l with lateMinutes := clampNat 0 60 a.value }
  | 13 => { l with cueAdvance := clampNat 10 600 a.value }
  | 14 => { l with captionLead := clampNat 0 48000 a.value }
  | 15 => { l with picturePolicy := clampNat 0 1 a.value }
  | 16 => { l with soundPolicy := clampNat 0 1 a.value }
  | 17 => { l with warn := clampNat 0 255 a.value }
  | _ => l

/-- Each high mark clamped against the low mark of its class (R160). -/
def Limits.clampHigh (l : Limits) : Limits :=
  { l with highPic := clampNat (l.lowPic + 48000) 2880000 l.highPic, highSnd := clampNat (l.lowSnd + 48000) 2880000 l.highSnd }

/-- The limits after the settings of SET_LIMITS (R160). -/
def Limits.apply (l : Limits) (settings : List LimitArgs) : Limits := (settings.foldl Limits.put l).clampHigh

/-- Every limit in force with its clamped mark: a named limit whose value differs from the one given, or an unnamed one that its
low mark raised (R160). -/
def limitReply (old new : Limits) (settings : List LimitArgs) : List (Nat × Bool) :=
  (new.values.zip old.values).mapIdx (fun n v =>
    match settings.find? (fun a => decide (a.number = n)) with
    | some a => (v.1, decide (v.1 ≠ a.value))
    | none => (v.1, decide (v.1 ≠ v.2)))

/-- A timer that is already beyond its limit abandons the showing (R72, R83). -/
def checkTimers (s : State) : State :=
  let cueOver := decide (s.timeline.state = .cueing) && decide (s.mgmt.limits.cueSeconds * Config.ticksPerSecond < s.timeline.cueTimer)
  let stallOver := decide (s.timeline.state = .stalled) &&
    (s.timeline.stallTimer.map (fun n => decide (s.mgmt.limits.stallSeconds * Config.ticksPerSecond < n))).getD false
  if cueOver || stallOver then enterClosing .abandoned s else s

/-- The owning blocks take new limits: leads and marks, running timers, and the warnings (section 10.3). -/
def applyLimits (new : Limits) (s : State) : State :=
  let s1 := checkTimers (settleFrom s (s.setLimits new))
  if s.mgmt.limits.warn = new.warn then s1 else evaluateWarnings s1

/-- The settings of SET_LIMITS are malformed (R160). -/
def badSettings (settings : List LimitArgs) : Bool :=
  settings.isEmpty || decide (18 < settings.length) || settings.any (fun a => decide (17 < a.number)) ||
    hasRepeat LimitArgs.number settings

/-- SET_LIMITS, code 3 (R160). -/
def serveSetLimits (tag : Nat) (settings : List LimitArgs) : State → State := manage 3 tag (fun s =>
  if badSettings settings then refuse 3 tag .badArgument s
  else
    let new := s.mgmt.limits.apply settings
    reply 3 tag (.limits (limitReply s.mgmt.limits new settings)) (applyLimits new s))

/-- The event kinds whose records are ASSERTED, in kind order (R161). -/
def State.assertedKinds (s : State) : List Nat := (List.range 26).filter (fun k => ((s.events[k]?).map EventRec.asserted).getD false)

/-- The values of READ_STATUS at one moment (R161). -/
def State.status (s : State) : Status :=
  let t := s.timeline
  let opened := decide (t.state ≠ .idle)
  { link := s.link.state, limit := s.link.limit, laneCount := s.link.laneCount, linkLost := s.link.lost,
    cause := s.mgmt.cause, resets := s.mgmt.resets, unread := s.mgmt.unread,
    showing := t.state, slot := t.slot, comp := (t.slot.bind (fun i => s.comps[i].comp)).map Composition.ident,
    sched := t.sched, mode := t.mode, cursor := t.cursor, p := t.p, pausePending := t.pausePending,
    pauseReason := t.pauseReason, outcome := t.outcome,
    bound := s.counting.bound, point := s.counting.point,
    presented := if opened then some t.presented else none, charged := if opened then some s.counting.charged else none,
    openRecord := if opened then s.openRecord.map LogRecord.number else none,
    lanes := avLanes.map (fun l => ((s.hold l).held, (s.hold l).lead)), pool := s.buffer.pool,
    live := s.sound.live, staged := s.sound.staged, stagingPending := s.sound.pending, armed := s.sync.armed,
    lastSync := s.sync.last,
    clockSet := s.clock.isSet, clock := s.clock.now,
    heartbeatPeriod := s.mgmt.limits.heartbeat, heartbeatTimer := s.schedule.heartbeat,
    heartbeatLost := s.isAsserted .heartbeatLost,
    entries := s.schedule.queue.length, headEntry := (s.schedule.queue.head?).map SchedEntry.ident,
    events := s.assertedKinds, storeDepth := s.counting.queue.length, storeFault := s.isAsserted .storeFault }

/-- READ_STATUS, code 4 (R161): the values stand after the command's own heartbeat restart (notes/assumptions/94.md). -/
def serveReadStatus (tag : Nat) : State → State := manage 4 tag (fun s => reply 4 tag (.status s.status) s)

/-- The counter snapshot at one moment (R163). -/
def State.takeSnapshot (s : State) : Snapshot := { counters := s.counters, clock := s.clock.now, resets := s.mgmt.resets }

/-- READ_COUNTERS, code 5 (R163): the snapshot is taken after the command's own heartbeat restart (notes/assumptions/94.md). -/
def serveReadCounters (tag : Nat) : State → State := manage 5 tag (fun s =>
  reply 5 tag (.counters s.takeSnapshot) { s with mgmt := { s.mgmt with snapshot := some s.takeSnapshot } })

/-- KEEPALIVE, code 6: the reply carries the value the timer had before the command (R164). -/
def serveKeepalive (tag : Nat) (s : State) : State :=
  manage 6 tag (fun s1 => reply 6 tag (.heartbeat s1.mgmt.limits.heartbeat s.schedule.heartbeat) s1) s

/-- RESTART, code 7: the reply is queued, and a reply that is discarded at once brings the reset at once (R165). -/
def serveRestart (tag : Nat) : State → State := manage 7 tag (fun s =>
  let s1 := reply 7 tag .nothing { s with mgmt := { s.mgmt with restartPending := true } }
  restartIf (!s1.link.holdsRestart) s1)

/-! ## Compositions and maps -/

/-- The reel entries of the slots other than one (R57). -/
def State.entriesOutside (s : State) (i : Fin 4) : Nat :=
  ((fours.filter (fun j => decide (j ≠ i))).map (fun j => ((s.comps[j].comp).map (fun c => c.reels.length)).getD 0)).foldl (· + ·) 0

/-- Another slot holds the same identity (R57). -/
def State.heldElsewhere (s : State) (i : Fin 4) (ident : Nat) : Bool :=
  fours.any (fun j => decide (j ≠ i) && ((s.comps[j].comp).map (fun c => decide (c.ident = ident))).getD false)

/-- A slot is IN_USE. -/
def State.slotInUse (s : State) (i : Fin 4) : Bool :=
  match s.comps[i] with
  | .inUse _ => true
  | _ => false

/-- A composition is installed in a slot (R57). -/
def installComposition (i : Fin 4) (c : Composition) (s : State) : State := { s with comps := s.comps.set i (.loaded c) }

/-- Tests 3 to 7 of LOAD_COMPOSITION and the installation (R53 to R57). -/
def loadInto (tag : Nat) (i : Fin 4) (raw : RawComposition) (s : State) : State :=
  if s.slotInUse i then refuse 8 tag .busy s
  else if raw.inRange = false then refuse 8 tag .badArgument s
  else
    match reelsOf 0 raw.reels with
    | .error (reason, k) => refuseAt 8 tag reason k s
    | .ok reels =>
      if s.heldElsewhere i raw.ident then refuse 8 tag .duplicate s
      else if Config.reelEntries < s.entriesOutside i + reels.length then refuse 8 tag .noRoom s
      else
        let c := compositionOf raw.ident raw.title reels
        reply 8 tag
          (.composition i.val c.feature c.span (s.entriesOutside i + reels.length) ((s.comps[i].comp).map Composition.ident))
          (installComposition i c s)

/-- LOAD_COMPOSITION, code 8, from the bytes after the tag (R53). -/
def serveLoadComposition (tag : Nat) (args : List Byte) : State → State := manage 8 tag (fun s =>
  match takeNat 1 args with
  | none => refuse 8 tag .tooLarge s
  | some (slot, rest) =>
    match slotIndex slot, takeComposition rest with
    | none, _ => refuse 8 tag .badArgument s
    | some _, none => refuse 8 tag .tooLarge s
    | some i, some raw => loadInto tag i raw s)

/-- CLEAR_SLOT, code 9 (R58). -/
def serveClearSlot (tag slot : Nat) : State → State := manage 9 tag (fun s =>
  match slotIndex slot with
  | none => refuse 9 tag .badArgument s
  | some i =>
    match s.comps[i] with
    | .empty => refuse 9 tag .notFound s
    | .inUse _ => refuse 9 tag .busy s
    | .loaded c =>
      let s1 := { s with comps := s.comps.set i .empty }
      reply 9 tag (.slotCleared c.ident c.title s1.entriesInUse) s1)

/-- A triple of LOAD_ROUTING whose codes are in range; the output 255 is none (R97, section 11.1). -/
def routeOf (a : RouteArgs) : Option (Fin 4 × Nat × Option Nat) :=
  match laneOfCode a.lane with
  | some (.snd i) =>
    if 15 < a.channel then none
    else if a.output < 26 then some (i, a.channel, some a.output)
    else if a.output = 255 then some (i, a.channel, none)
    else none
  | _ => none

/-- The routed pairs of a map: a pair sent to none is not listed (R97). -/
def routedPairs (l : List (Fin 4 × Nat × Option Nat)) : List Route :=
  l.filterMap (fun x => x.2.2.map (fun o => { lane := x.1, channel := x.2.1, output := o }))

/-- LOAD_ROUTING, code 10 (R97). -/
def serveLoadRouting (tag map : Nat) (routes : List RouteArgs) : State → State := manage 10 tag (fun s =>
  match allOf routeOf routes with
  | none => refuse 10 tag .badArgument s
  | some l =>
    if h : map < 8 then
      if 64 < routes.length ∨ hasRepeat (fun (x : Fin 4 × Nat × Option Nat) => x.1.val * 16 + x.2.1) l = true then
        refuse 10 tag .badArgument s
      else reply 10 tag (.routing map (routedPairs l).length) (s.mapSound (fun d => { d with maps := d.maps.set map (routedPairs l) }))
    else refuse 10 tag .badArgument s)

/-! ## Actions and events -/

/-- The trigger that the first eight bytes of an entry name: none where they are out of range, and the absent trigger only in a
disabled entry (R150, section 11.3). -/
def triggerOf (a : ActionArgs) : Option (Option Trigger) :=
  match a.kind with
  | 0 =>
    let sel : Option ReelSelector :=
      if a.f0 < 64 then some (.index a.f0) else if a.f0 = 254 then some .firstFeature else if a.f0 = 255 then some .lastFeature else none
    if 1 < a.f1 ∨ a.offset < -2880000 ∨ 2880000 < a.offset then none
    else sel.map (fun r => some (.position r (decide (a.f1 = 1)) a.offset))
  | 1 => (showStateOfCode a.f0).map (fun st => some (.state st))
  | 2 => if h : a.f0 < 26 then (if 1 < a.f1 then none else some (some (.event ⟨a.f0, h⟩ (decide (a.f1 = 0))))) else none
  | 255 => if a.enabled then none else some none
  | _ => none

/-- An action entry whose fields are in range (R150). -/
def entryOf (a : ActionArgs) : Option ActionEntry :=
  if a.address = 0 ∨ 126 < a.address ∨ 255 < a.command ∨ 255 < a.data then none
  else (triggerOf a).map (fun t =>
    { enabled := a.enabled, trigger := t, message := { address := a.address, command := a.command, data := a.data },
      resolved := none, fired := false })

/-- The index of the first entry that fails (R150). -/
def firstBad (entries : List ActionArgs) : Option Nat := entries.findIdx? (fun a => (entryOf a).isNone)

/-- The table with entries written from an index on (R150). -/
def writeEntries (table : Vector ActionEntry 64) : Nat → List ActionEntry → Vector ActionEntry 64
  | _, [] => table
  | i, e :: es => writeEntries (table.setIfInBounds i e) (i + 1) es

/-- LOAD_ACTIONS, code 11 (R150). -/
def serveLoadActions (tag first : Nat) (entries : List ActionArgs) : State → State := manage 11 tag (fun s =>
  if 63 < first ∨ entries.isEmpty = true ∨ 64 < first + entries.length then refuse 11 tag .badArgument s
  else
    match firstBad entries with
    | some i => refuseAt 11 tag .badArgument (first + i) s
    | none => reply 11 tag (.actions first entries.length)
        { s with actions := { s.actions with table := writeEntries s.actions.table first (entries.filterMap entryOf) } })

/-- One setting of SET_EVENT_MASK (R149). -/
def setMask (s : State) (a : MaskArgs) : State :=
  { s with events := (s.events[a.kind]?.map (fun r =>
      s.events.setIfInBounds a.kind { r with onAssert := a.onAssert, onDeassert := a.onDeassert })).getD s.events }

/-- The records of some kinds (R149, R164). -/
def State.eventRecords (s : State) (kinds : List Nat) : List (Nat × EventRec) :=
  kinds.filterMap (fun k => (s.events[k]?).map (fun r => (k, r)))

/-- SET_EVENT_MASK, code 12 (R149). -/
def serveSetEventMask (tag : Nat) (settings : List MaskArgs) : State → State := manage 12 tag (fun s =>
  if settings.isEmpty = true ∨ 26 < settings.length ∨ settings.any (fun a => decide (25 < a.kind)) = true ∨
      hasRepeat MaskArgs.kind settings = true then refuse 12 tag .badArgument s
  else
    let s1 := settings.foldl setMask s
    reply 12 tag (.events (s1.eventRecords (settings.map MaskArgs.kind))) s1)

/-- READ_EVENT, code 27 (R164). -/
def serveReadEvent (tag kind : Nat) : State → State := manage 27 tag (fun s =>
  if 25 < kind then refuse 27 tag .badArgument s else reply 27 tag (.events (s.eventRecords [kind])) s)

/-! ## Allowances and log -/

/-- A place index. -/
def placeIndex (n : Nat) : Option (Fin 32) := if h : n < 32 then some ⟨n, h⟩ else none

/-- The arguments of LOAD_ALLOWANCE are in range (R129 tests 1 and 2). -/
def allowanceInRange (a : AllowanceArgs) : Bool :=
  identInRange a.comp && dayMinuteInRange a.fromDay a.fromMinute && dayMinuteInRange a.untilDay a.untilMinute &&
  ((a.allowed.map (fun n => decide (1 ≤ n) && decide (n ≤ 65535))).getD true) &&
  decide (minuteSecs a.fromDay a.fromMinute < minuteSecs a.untilDay a.untilMinute)

/-- The record that a load puts into its place (R129). -/
def allowanceOf (a : AllowanceArgs) : Allowance :=
  { comp := a.comp, fromDay := a.fromDay, fromMinute := a.fromMinute, untilDay := a.untilDay, untilMinute := a.untilMinute,
    allowed := a.allowed, used := 0, revoked := false }

/-- The load serial after a load (R129). -/
def nextSerial (n : Nat) : Nat := if n < 65535 then n + 1 else 0

/-- A changed place is evaluated, its entry queued, and the reply owed until the write ends (R129, R130, R159). -/
def queuePlace (i : Fin 32) (p : Place) (owed : State → Owed) (s : State) : State :=
  let s1 := evaluateChanged i (s.setPlace i p)
  enqueueStore (allowanceEntry i (owed s1) s1) s1

/-- LOAD_ALLOWANCE, code 13 (R129).  Its index has no presence byte in section 11.3, so that an index of 40 is always refused, although
R170 names it beside START and SCHEDULE_ADD: the model's choice (notes/assumptions/78.md). -/
def serveLoadAllowance (tag : Nat) (a : AllowanceArgs) : State → State := manage 13 tag (fun s =>
  match placeIndex a.index with
  | none => refuse 13 tag .badArgument s
  | some i =>
    if allowanceInRange a = false then refuse 13 tag .badArgument s
    else if s.counting.bound = some i ∨ s.reserves i = false then refuse 13 tag .busy s
    else
      queuePlace i { record := some (allowanceOf a), serial := nextSerial (s.place i).serial, state := .empty }
        (fun s1 => { code := 13, tag, results := .allowanceLoaded i.val (s1.place i).state (s1.place i).serial none }) s)

/-- REVOKE_ALLOWANCE, code 14 (R130). -/
def serveRevokeAllowance (tag index : Nat) : State → State := manage 14 tag (fun s =>
  match placeIndex index with
  | none => refuse 14 tag .badArgument s
  | some i =>
    match (s.place i).record with
    | none => refuse 14 tag .notFound s
    | some a =>
      if a.revoked then reply 14 tag (.allowanceWas i.val (s.place i) none) s
      else if s.reserves i = false then refuse 14 tag .busy s
      else
        queuePlace i { s.place i with record := some { a with revoked := true } }
          (fun _ => { code := 14, tag, results := .allowanceWas i.val (s.place i) none }) s)

/-- CLEAR_ALLOWANCE, code 15 (R130). -/
def serveClearAllowance (tag index : Nat) : State → State := manage 15 tag (fun s =>
  match placeIndex index with
  | none => refuse 15 tag .badArgument s
  | some i =>
    if (s.place i).record = none then refuse 15 tag .notFound s
    else if s.counting.bound = some i ∨ s.reserves i = false then refuse 15 tag .busy s
    else
      queuePlace i { s.place i with record := none }
        (fun _ => { code := 15, tag, results := .allowanceWas i.val (s.place i) none }) s)

/-- READ_LOG, code 16 (R138). -/
def serveReadLog (tag first count : Nat) : State → State := manage 16 tag (fun s =>
  if count = 0 ∨ 16 < count then refuse 16 tag .badArgument s
  else
    reply 16 tag
      (.log ((s.counting.log.head?).map LogRecord.number) ((s.counting.log.getLast?).map LogRecord.number) s.unexported
        ((s.counting.log.filter (fun r => decide (first ≤ r.number))).take count)) s)

/-- A record that MARK_EXPORTED marks: closed, at or below `n`, not exported (R139). -/
def LogRecord.marks (n : Nat) (r : LogRecord) : Bool := decide (r.outcome ≠ .opened) && decide (r.number ≤ n) && !r.exported

/-- MARK_EXPORTED, code 17 (R139). -/
def serveMarkExported (tag n : Nat) : State → State := manage 17 tag (fun s =>
  let marked := (s.counting.log.filter (LogRecord.marks n)).map LogRecord.number
  if n = 0 then refuse 17 tag .badArgument s
  else if marked.isEmpty then reply 17 tag (.exported 0 none) s
  else if s.reservesExport = false then refuse 17 tag .busy s
  else
    let log := s.counting.log.map (fun r => if r.marks n then { r with exported := true } else r)
    enqueueStore
      { kind := .marking, record := none, place := none, marks := marked,
        owed := some { code := 17, tag, results := .exported marked.length none } }
      (evaluateLog { s with counting := { s.counting with log } }))

/-! ## Schedule -/

/-- The state with the schedule queue replaced. -/
def State.setSchedule (s : State) (q : List SchedEntry) : State := { s with schedule := { s.schedule with queue := q } }

/-- The fields of a schedule entry are in range (R62). -/
def schedInRange (e : SchedEntry) : Bool :=
  dayMinuteInRange e.day e.minute && identInRange e.comp && ((e.allowance.map (fun n => decide (n < 32))).getD true)

/-- SCHEDULE_ADD, code 18 (R62). -/
def serveScheduleAdd (tag : Nat) (e : SchedEntry) : State → State := manage 18 tag (fun s =>
  if schedInRange e = false then refuse 18 tag .badArgument s
  else if s.clock.isSet = false then refuse 18 tag .clockUnset s
  else if s.schedule.queue.any (fun x => decide (x.ident = e.ident)) then refuse 18 tag .duplicate s
  else if s.entryLate e then refuse 18 tag .tooLate s
  else if Config.schedulePlaces ≤ s.schedule.queue.length then refuse 18 tag .noRoom s
  else
    let q := insertEntry e s.schedule.queue
    reply 18 tag (.queued (entryPosition e.ident q) q.length) (s.setSchedule q))

/-- SCHEDULE_CANCEL, code 19 (R63). -/
def serveScheduleCancel (tag ident : Nat) : State → State := manage 19 tag (fun s =>
  if s.schedule.queue.any (fun x => decide (x.ident = ident)) then
    reply 19 tag .nothing (s.setSchedule (s.schedule.queue.filter (fun x => decide (x.ident ≠ ident))))
  else refuse 19 tag .notFound s)

/-- SCHEDULE_CLEAR, code 20 (R63). -/
def serveScheduleClear (tag : Nat) : State → State := manage 20 tag (fun s =>
  reply 20 tag (.schedCleared s.schedule.queue.length) (s.setSchedule []))

/-- READ_SCHEDULE, code 28 (R164). -/
def serveReadSchedule (tag : Nat) : State → State := manage 28 tag (fun s => reply 28 tag (.schedule s.schedule.queue) s)

/-! ## Showing -/

/-- The START that a command asks of the Timeline (R70). -/
def startCallOf (a : StartArgs) : StartCall :=
  { slot := some a.slot, mode := startModeOf a, allowance := a.allowance, sched := none,
    inRange := decide (a.slot < 4) && (startModeOf a).isSome && ((a.allowance.map (fun n => decide (n < 32))).getD true) }

/-- START, code 21 (R70, R71). -/
def serveStart (tag : Nat) (a : StartArgs) : State → State := manage 21 tag (fun s =>
  match startTests (startCallOf a) s with
  | .error reason => refuse 21 tag reason s
  | .ok (i, c, bound) => reply 21 tag .nothing (acceptStart i c bound (startCallOf a) s))

/-- PAUSE, code 22 (R84).  In STALLED, STALL is handed over before the entry to PAUSED (notes/assumptions/60.md). -/
def servePause (tag : Nat) : State → State := manage 22 tag (fun s =>
  match s.timeline.state with
  | .playing => reply 22 tag .nothing ((atInstant s).mapTimeline (fun t => { t with pausePending := true }))
  | .stalled => reply 22 tag .nothing (enterPaused .operator none (deassertEvent .stall s))
  | _ => refuse 22 tag .badState s)

/-- RESUME, code 23 (R85). -/
def serveResume (tag : Nat) : State → State := manage 23 tag (fun s =>
  match s.timeline.state with
  | .paused => reply 23 tag .nothing (resumeShowing s)
  | _ => refuse 23 tag .badState s)

/-- STOP, code 24 (R88). -/
def serveStop (tag : Nat) : State → State := manage 24 tag (fun s =>
  match s.timeline.state with
  | .idle => refuse 24 tag .badState s
  | .closing => refuse 24 tag .badState s
  | _ => reply 24 tag .nothing (enterClosing .stopped s))

/-! ## Sync -/

/-- SET_SYNC, code 25 (R100). -/
def serveSetSync (tag : Nat) (delay : Int) : State → State := manage 25 tag (fun s =>
  let s1 := stageDelay delay s
  reply 25 tag (.sync s1.sound.staged s1.sound.live) s1)

/-- A reel has a sync mark whose instant has not been taken, the cursor being at `c` (R105). -/
def marksAhead (c : Cursor) (k : Nat) (r : ReelRow) : Bool :=
  decide (r.reel.kind = .test) && decide (c.reel ≤ k) &&
  r.reel.marks.any (fun m => decide (c.reel < k) || decide (c.unit ≤ m))

/-- The target reel of a sync check: from the current reel on, the first with a mark ahead (R105). -/
def State.checkTarget (s : State) : Option Nat :=
  s.timeline.cursor.bind (fun c =>
    (List.range s.timeline.table.length).find? (fun k => ((s.row k).map (marksAhead c k)).getD false))

/-- A showing is open and not yet in CLOSING. -/
def ShowState.isOpen : ShowState → Bool
  | .idle => false
  | .closing => false
  | _ => true

/-- SYNC_CHECK, code 26 (R105). -/
def serveSyncCheck (tag : Nat) (auto : Bool) : State → State := manage 26 tag (fun s =>
  if s.sync.armed then refuse 26 tag .busy s
  else if s.timeline.state.isOpen = false then refuse 26 tag .badState s
  else
    match s.checkTarget with
    | none => refuse 26 tag .badState s
    | some k => reply 26 tag .nothing
        (s.mapSync (fun y => { y with armed := true, auto, target := some k, finishDue := false, pairs := [] })))

/-! ## MANAGE cells -/

/-- A command whose arguments were read, or BAD_ARGUMENT where the payload is too short or a count too large (R158, R170).
That such a reply carries no table index, also of a LOAD_ACTIONS with an entry that fails R150 before its bytes end, is the model's choice
(notes/assumptions/100.md). -/
def withArgs {α : Type} (code tag : Nat) (args : Option α) (f : α → State → State) : State → State :=
  match args with
  | some a => f a
  | none => manage code tag (refuse code tag .badArgument)

/-- A command of the 28, from its code, tag and arguments (section 11.3); any other code is UNKNOWN_COMMAND (R158). -/
def serveCode (code tag : Nat) (args : List Byte) : State → State :=
  match code with
  | 1 => serveIdentify tag
  | 2 => withArgs 2 tag ((takeTime args).map Prod.fst) (serveSetClock tag)
  | 3 => withArgs 3 tag (takeCounted 18 takeLimit args) (serveSetLimits tag)
  | 4 => serveReadStatus tag
  | 5 => serveReadCounters tag
  | 6 => serveKeepalive tag
  | 7 => serveRestart tag
  | 8 => serveLoadComposition tag args
  | 9 => withArgs 9 tag (takeOnly 1 args) (serveClearSlot tag)
  | 10 => withArgs 10 tag (takeHeadCounted 64 takeRoute args) (fun a => serveLoadRouting tag a.1 a.2)
  | 11 => withArgs 11 tag (takeHeadCounted 64 takeAction args) (fun a => serveLoadActions tag a.1 a.2)
  | 12 => withArgs 12 tag (takeCounted 26 takeMask args) (serveSetEventMask tag)
  | 13 => withArgs 13 tag (takeAllowance args) (serveLoadAllowance tag)
  | 14 => withArgs 14 tag (takeOnly 1 args) (serveRevokeAllowance tag)
  | 15 => withArgs 15 tag (takeOnly 1 args) (serveClearAllowance tag)
  | 16 => withArgs 16 tag ((takeNat 4 args).bind (fun x => (takeNat 1 x.2).map (fun y => (x.1, y.1))))
      (fun a => serveReadLog tag a.1 a.2)
  | 17 => withArgs 17 tag (takeOnly 4 args) (serveMarkExported tag)
  | 18 => withArgs 18 tag (takeSched args) (serveScheduleAdd tag)
  | 19 => withArgs 19 tag (takeOnly 2 args) (serveScheduleCancel tag)
  | 20 => serveScheduleClear tag
  | 21 => withArgs 21 tag (takeStart args) (serveStart tag)
  | 22 => servePause tag
  | 23 => serveResume tag
  | 24 => serveStop tag
  | 25 => withArgs 25 tag ((takeOnly 4 args).map (signed 32)) (serveSetSync tag)
  | 26 => withArgs 26 tag (takeOnly 1 args) (fun n => serveSyncCheck tag (decide (n ≠ 0)))
  | 27 => withArgs 27 tag (takeOnly 1 args) (serveReadEvent tag)
  | 28 => serveReadSchedule tag
  | _ => manage code tag (refuse code tag .unknownCommand)

/-- The payload of a MANAGE cell: one too short for a code and a tag is UNKNOWN_COMMAND with the tag 0 (R158). -/
def serveCell (payload : List Byte) : State → State :=
  match payload with
  | code :: t0 :: t1 :: args => serveCode code.toNat (leNat [t0, t1]) args
  | short => manage (leNat (short.take 1)) 0 (refuse (leNat (short.take 1)) 0 .unknownCommand)

/-- The payload of an UNKNOWN_COMMAND_CELL: refused UNKNOWN_COMMAND whatever it holds (R158). -/
def serveUnknown (payload : List Byte) : State → State :=
  match payload with
  | code :: t0 :: t1 :: _ => manage code.toNat (leNat [t0, t1]) (refuse code.toNat (leNat [t0, t1]) .unknownCommand)
  | short => manage (leNat (short.take 1)) 0 (refuse (leNat (short.take 1)) 0 .unknownCommand)

end Sys2Proof.Machine
end

