-- ==== Sys2Proof/Machine/Link.lean ====
section
/-! DEFINITION. The Link Port at work: signal, training words, inbound cells and the outbound side (R1 to R15). -/

namespace Sys2Proof.Machine

/-! ## Signal and training words -/

/-- Signal appears on the inbound lanes; in DOWN training begins (R1). -/
def detectSignal (s : State) : State := takeSignal { s with signal := true }

/-- Signal is lost on the inbound lanes (R1, R4). -/
def loseSignal (s : State) : State :=
  let s1 := { s with signal := false }
  if s1.running = false then s1
  else
    match s1.link.state with
    | .down => s1
    | .training => { s1 with link := { s1.link with state := .down, attempt := none, decided := false, out := .silent } }
    | .up => dropLink .down false s1

/-- 100 ms have passed since the last attempt began (R2). -/
def nextAttempt (s : State) : State := if s.link.state = .training then beginTraining s else s

/-- A retrain word arrives (R1). -/
def takeRetrain (s : State) : State :=
  match s.link.state with
  | .down => s
  | .training => beginTraining s
  | .up => dropLink .training false s

/-- An ability word arrives: taken by the current attempt, or in UP taken as a retrain word and then by the first attempt (R1, R2). -/
def receiveAbility (payloadClass : Nat) (offered : List Nat) (s : State) : State :=
  match s.link.state with
  | .down => s
  | .training => takeAbility payloadClass offered s
  | .up => restartIf s.link.holdsRestart (takeAbility payloadClass offered (leaveUp .training false s))

/-! ## The outbound side -/

/-- A READ_STATUS reply that carries a latched field set has been sent: the field is cleared (R5, R162). -/
def clearLatches (r : Report) (s : State) : State :=
  match r with
  | .reply 4 _ none (.status st) =>
    { s with
      link := { s.link with lost := s.link.lost && !st.linkLost },
      mgmt := { s.mgmt with unread := s.mgmt.unread && !st.unread } }
  | _ => s

/-- A REPORT cell has left completely: its report leaves the queue and the next cell begins (R11, R165). -/
def sendReport (s : State) : State :=
  if s.link.state ≠ .up ∨ s.link.sending ≠ .report then s
  else
    match s.link.queue with
    | [] => s
    | r :: rest =>
      let s1 := clearLatches r { s with link := { s.link with queue := rest }.nextCell }
      restartIf r.isRestart s1

/-- A FILL cell has left completely: the next cell begins (R11). -/
def sendFill (s : State) : State :=
  if s.link.state = .up ∧ s.link.sending = .fill then { s with link := s.link.nextCell } else s

/-! ## Inbound cells -/

/-- The reception classes (R8). -/
inductive CellClass where
  | good | damaged | overlong | overlongDamaged
  deriving DecidableEq, Repr

/-- The class of a cell under a limit; a cell too short to have a header is DAMAGED (R6, R8). -/
def classOf (limit : Nat) (c : Option Cell) : CellClass :=
  match c with
  | none => .damaged
  | some c =>
    if limit < c.testLen then (if c.checkGood then .overlong else .overlongDamaged)
    else if c.checkGood then .good
    else .damaged

/-- A cell counted once under its class (R8). -/
def countClass (k : CellClass) (c : Counters) : Counters :=
  match k with
  | .good => { c with good := bump32 1 c.good }
  | .damaged => { c with damaged := bump32 1 c.damaged }
  | .overlong => { c with overlong := bump32 1 c.overlong }
  | .overlongDamaged => { c with overlongDamaged := bump32 1 c.overlongDamaged }

/-- A damaged cell adds to the damage count; at 17 CELL_DAMAGE is asserted (R10). -/
def noteDamage (s : State) : State :=
  let n := satAdd Config.damageCells 1 s.link.damage
  let s1 := { s with link := { s.link with damage := n } }
  if n = Config.damageCells then assertEvent .cellDamage s1 else s1

/-- Counters and damage count of a cell of a class (R8, R10). -/
def noteClass (k : CellClass) (s : State) : State :=
  let s1 := s.count (countClass k)
  match k with
  | .damaged => noteDamage s1
  | .overlongDamaged => noteDamage s1
  | _ => s1

/-- The retrain run after a cell of a class; the eighth OVERLONG_DAMAGED cell leaves UP (R8). -/
def followRun (k : CellClass) (s : State) : State :=
  match k with
  | .overlongDamaged =>
    let n := satAdd Config.retrainCells 1 s.link.retrainRun
    let s1 := { s with link := { s.link with retrainRun := n } }
    if n = Config.retrainCells then dropLink .training true s1 else s1
  | _ => { s with link := { s.link with retrainRun := 0 } }

/-- A cell dropped as WRONG_KIND (R9). -/
def dropWrongKind (s : State) : State := s.count (fun c => { c with wrongKind := bump32 1 c.wrongKind })

/-- A content cell goes through the Cell Sorter, and what it joins may move a lead and the showing with it (R9, R22, R41, R42). -/
def passContent (c : Cell) (damaged : Bool) (s : State) : State := settleFrom s (sortCell c damaged s)

/-- A GOOD MANAGE cell is executed, or dropped where 48 or more reports are queued (R14). -/
def passManage (c : Cell) (s : State) : State :=
  if s.link.queue.length < Config.manageRoom then serveCell c.payload s
  else s.count (fun n => { n with commandsDropped := bump32 1 n.commandsDropped })

/-- The WRONG_KIND count of a classed cell, made with its class count: no kind of the six in any class, or REPORT within the limit
(R9, notes/assumptions/35.md). -/
def noteKind (k : CellClass) (c : Cell) (s : State) : State :=
  match c.kind, k with
  | .wrong, _ => dropWrongKind s
  | .report, .good => dropWrongKind s
  | .report, .damaged => dropWrongKind s
  | _, _ => s

/-- A classed and counted cell is disposed of by class and kind (R9). -/
def disposeCell (k : CellClass) (c : Cell) (s : State) : State :=
  match c.kind, k with
  | .wrong, _ => s
  | _, .overlong => s
  | _, .overlongDamaged => s
  | .report, _ => s
  | .fill, _ => s
  | .manage, .good => passManage c s
  | .manage, _ => s
  | _, .good => passContent c false s
  | _, .damaged => passContent c true s

/-- A whole inbound cell: framed, checked, classed, counted and disposed of; outside UP it is ignored (R6 to R10).
That CELL_DAMAGE is asserted before the eighth OVERLONG_DAMAGED cell leaves UP is the model's choice (notes/assumptions/79.md), and so
is that it is asserted before the cell is sorted (R10; notes/assumptions/97.md). -/
def receiveCell (bytes : List Byte) (cut : Bool) (s : State) : State :=
  if s.link.state ≠ .up then s
  else
    let cell := readCell bytes cut
    let k := classOf (s.link.limit.getD 1024) cell
    match cell with
    | none => followRun k (noteClass k s)
    | some c => disposeCell k c (followRun k (noteKind k c (noteClass k s)))

end Sys2Proof.Machine
end

