-- ==== Sys2Proof/Machine/Instants.lean ====
section
/-! DEFINITION. The events of time: what happens when a counter of the part, P, X or a line timer reaches the value that its rule
names.  Each sets its counter to that value and serves it; where the event cannot occur in the present state it changes nothing. -/

namespace Sys2Proof.Machine

/-! ## The Timeline's timers and instants -/

/-- The cue timer exceeds the cue limit in CUEING (R72). -/
def expireCue (s : State) : State :=
  if s.timeline.state = .cueing then
    let n := s.mgmt.limits.cueSeconds * Config.ticksPerSecond + 1
    enterClosing .abandoned (s.mapTimeline (fun t => { t with cueTimer := max t.cueTimer n }))
  else s

/-- The stall timer exceeds the stall limit in STALLED (R83). -/
def expireStall (s : State) : State := if s.timeline.state = .stalled then enterClosing .abandoned s else s

/-- The intermission timer reaches 0 (R87). -/
def expireIntermission (s : State) : State :=
  if s.timeline.state = .paused ∧ s.timeline.intermission.isSome = true then resumeShowing s else s

/-- P reaches the release instant at the cursor: the running interval's end is taken first, then the instant where the showing
still plays towards it (R75, R82). -/
def reachInstant (s : State) : State :=
  if s.timeline.state ≠ .playing then s
  else
    let s1 := endInterval s
    match s1.timeline.cursor with
    | none => s1
    | some c =>
      match s1.row c.reel with
      | none => s1
      | some row =>
        if s1.timeline.state = .playing ∧ c.inGap = false ∧ s.timeline.cursor = some c then
          takeInstant (reachTick (row.instant c.unit) s1)
        else s1

/-- P reaches the end of the running unit interval (R75, R82). -/
def reachIntervalEnd (s : State) : State := if s.timeline.state = .playing then endInterval s else s

/-- P reaches the gap's end (R80, R81). -/
def reachGapEnd (s : State) : State := if s.timeline.state = .playing ∧ s.inGap = true then endGap s else s

/-- P reaches the composition end: the end of the last unit's interval, no unit being left to release (R89). -/
def reachEnd (s : State) : State :=
  if s.timeline.state = .playing ∧ s.timeline.cursor = none then endInterval s else s

/-- The frozen overlay list: the last overlay list with every text field absent (R122); empty where the last list is absent
(notes/assumptions/66.md). -/
def State.frozenOverlay (s : State) : List OverlayEntry := (s.cues.overlay.getD []).map (fun e => { e with text := none })

/-- The held picture is sent again with the frozen overlay, and is due again one unit of the current reel later (R69). -/
def resendPicture (s : State) : State :=
  if s.timeline.state = .paused ∨ s.timeline.state = .stalled then
    s.mapPicture (fun p => { p with
      shown := p.last, overlay := some s.frozenOverlay, resend := some ((s.currentRow.map (fun r => r.reel.ticks)).getD 0) })
  else s

/-- X reaches R(u) on the sound lanes: a staged delay becomes live at this boundary, or the instant is taken (R94, R101).  That the
`R(u')` of units already taken, which X passes again after a positive change, are no boundaries is the model's choice
(notes/assumptions/72.md). -/
def reachSound (s : State) : State :=
  match s.timeline.state, s.sound.cursor with
  | .playing, some c =>
    match s.row c.reel, s.soundTick with
    | some row, some tick =>
      let s1 := reachTick tick.toNat s
      let s2 := if s1.sound.pending = true ∧ s1.inGap = false then shiftSound c.reel c.unit row s1 else soundInstant c.reel c.unit s1
      settleLeads s2 s2
    | _, _ => s
  | _, _ => s

/-! ## The Lead Monitor's timers -/

/-- A HELD lane's lead falls with P in PLAYING to below its effective low mark (R42). -/
def fallToLow (l : AvLane) (s : State) : State :=
  if s.timeline.state = .playing ∧ (s.hold l).held = true then
    let s1 := reachTick (s.timeline.p + ((s.hold l).lead + 1 - s.effLow l)) s
    settleLane s1 l s1
  else s

/-- A refresh firing queues a HOLD (R44). -/
def State.refreshDue (s : State) (l : AvLane) : Bool :=
  if s.isAsserted .bufferFull then decide (s.effLow l ≤ (s.hold l).lead) else decide (s.holdMark l < (s.hold l).lead)

/-- The refresh timer of a HELD lane fires (R44). -/
def fireRefresh (l : AvLane) (s : State) : State :=
  if (s.hold l).held then
    let s1 := s.setHold l { s.hold l with refresh := some s.refreshTicks }
    if s.refreshDue l then queueHold l s.mgmt.limits.holdMs s1 else s1
  else s

/-! ## The heartbeat -/

/-- The heartbeat timer reaches a nonzero heartbeat period (R61). -/
def expireHeartbeat (s : State) : State :=
  if s.mgmt.limits.heartbeat = 0 then s
  else heartbeatAt (max s.schedule.heartbeat s.mgmt.limits.heartbeat) s

/-! ## The Sync Measurement Unit -/

/-- An edge on a pulse input (R104). -/
def takeEdge (c : Channel) (e : Edge) (s : State) : State :=
  match c with
  | .frame => frameEdge e s
  | _ => pairEdge c e s

/-- A FRAME count reaches four expected periods (R108, R109). -/
def reachFrameLoss (s : State) : State :=
  if s.sync.frame.state = .counting ∧ s.sync.frame.judged = false then loseFrame s else s

/-! ## The serial lines -/

/-- Show ticks of spacing after a caption message: 20 bit times at 48,000 bit/s (R125). -/
def captionSpacing : Nat := 40

/-- Show ticks of spacing after a booth message: 40 bit times at 19,200 bit/s (R156). -/
def boothSpacing : Nat := 200

/-- A line is sending a message. -/
def Line.isSending {α : Type} : Line α → Bool
  | .sending _ => true
  | _ => false

/-- A line is in its spacing. -/
def Line.isSpacing {α : Type} : Line α → Bool
  | .spacing => true
  | _ => false

/-- A caption message's check byte has gone out (R125, R127). -/
def captionSent (s : State) : State :=
  if s.cues.line.isSending then
    { s with cues := { s.cues with line := .spacing, timer := captionSpacing } }.count
      (fun c => { c with captionsSent := bump32 1 c.captionsSent })
  else s

/-- The spacing of the caption line has passed (R125). -/
def captionSpaced (s : State) : State := if s.cues.line.isSpacing then startCaption s else s

/-- A booth message's check byte has gone out (R156, R157). -/
def boothSent (s : State) : State :=
  if s.actions.line.isSending then
    { s with actions := { s.actions with line := .spacing, timer := boothSpacing } }.count
      (fun c => { c with actionsSent := bump32 1 c.actionsSent })
  else s

/-- The spacing of the booth line has passed (R156). -/
def boothSpaced (s : State) : State := if s.actions.line.isSpacing then startBooth s else s

/-! ## The Nonvolatile Store -/

/-- The results of a reply that a store write completes: whether the write succeeded (R129, R130, R139). -/
def Results.withWrite (ok : Bool) : Results → Results
  | .allowanceLoaded i state serial _ => .allowanceLoaded i state serial (some ok)
  | .allowanceWas i place _ => .allowanceWas i place (some ok)
  | .exported count _ => .exported count (some ok)
  | r => r

/-- The end of an entry's write is reported to its source (R91, R136, R140, R144). -/
def reportWrite (e : StoreEntry) (ok : Bool) (s : State) : State :=
  match e.kind with
  | .close => returnIdle (match e.record with | some r => s.setRecord r | none => s)
  | .reconciliation => reconcileNext s
  | _ => match e.owed with
    | some o => reply o.code o.tag (o.results.withWrite ok) s
    | none => s

/-- The write of the store queue's head completes or fails (R140, R142).  STORE_FAULT changes before the source is told
(notes/assumptions/67.md). -/
def endWrite (ok : Bool) (s : State) : State :=
  match s.counting.queue with
  | [] => s
  | e :: rest =>
    let s1 := { s with
      store := if ok then s.store.write e s.counting.header else s.store,
      counting := { s.counting with queue := rest, header := s.counting.next } }
    reportWrite e ok (setLevel .storeFault (!ok) s1)

/-- The start-up read of the store ends (R143). -/
def endRead (s : State) : State := if s.counting.startup = .reading then finishRead s else s

/-! ## Power and the RESET pin -/

/-- The RESET pin is asserted: a part that is powered and not already held resets (R166). -/
def assertPin (s : State) : State :=
  if s.resetPin then s
  else if s.powered then resetTo .resetLine { s with resetPin := true }
  else { s with resetPin := true }

/-- The RESET pin is released (R166). -/
def deassertPin (s : State) : State := if s.resetPin then releasePin s else s

/-- Power is lost (R165). -/
def dropPower (s : State) : State := if s.powered then losePower s else s

/-- The second roll of a powered part (R59). -/
def takeSecond (s : State) : State := if s.powered then rollSecond s else s

end Sys2Proof.Machine
end

