-- ==== Sys2Proof/Machine/ClockMeanings.lean ====
section
/-! DEFINITION. The meanings of the day clock and heartbeat events (sections 4.5, 4.6): one for each constructor of Instr. -/

namespace Sys2Proof.Machine

/-- The tick within the second passes 95,999 (R59); in reset the clock alone takes it (R166). -/
def execSecondRoll (s : State) : Host.Outcome State Fault Refusal :=
  .next (if s.powered then rollSecond s else s)

/-- The heartbeat timer reaches a nonzero period (R61). -/
def execHeartbeatExpiry (s : State) : Host.Outcome State Fault Refusal :=
  .next (whenRunning expireHeartbeat s)

end Sys2Proof.Machine
end

