-- ==== Sys2Proof/Machine/DeviceMeanings.lean ====
section
/-! DEFINITION. The meanings of the capture inputs, the serial lines and the Nonvolatile Store (chapters 6 to 9): one for each constructor of Instr. -/

namespace Sys2Proof.Machine

/-- An edge on LIGHT, ECHO or FRAME (R104, R106, R108, R109). -/
def execCaptureEdge (channel : Channel) (edge : Edge) (s : State) : Host.Outcome State Fault Refusal :=
  .next (whenRunning (takeEdge channel edge) s)

/-- A channel count reaches 96,000 (R104). -/
def execCaptureCountTimeout (channel : Channel) (s : State) : Host.Outcome State Fault Refusal :=
  .next (whenRunning (countTimeout channel) s)

/-- A FRAME count reaches four expected periods (R108, R109). -/
def execFrameSignalLoss (s : State) : Host.Outcome State Fault Refusal :=
  .next (whenRunning reachFrameLoss s)

/-- A caption message's check byte has gone out (R125). -/
def execCaptionMessageSent (s : State) : Host.Outcome State Fault Refusal :=
  .next (whenRunning captionSent s)

/-- The spacing of the caption line has passed (R125). -/
def execCaptionSpacingEnd (s : State) : Host.Outcome State Fault Refusal :=
  .next (whenRunning captionSpaced s)

/-- The write of the store queue head ends (R140, R142, R91, R144). -/
def execStoreWriteEnd (ok : Bool) (s : State) : Host.Outcome State Fault Refusal :=
  .next (whenRunning (endWrite ok) s)

/-- The start-up read of the store ends (R143, R144). -/
def execStartupReadEnd (s : State) : Host.Outcome State Fault Refusal :=
  .next (whenRunning endRead s)

/-- A booth message's check byte has gone out (R156, R157). -/
def execBoothMessageSent (s : State) : Host.Outcome State Fault Refusal :=
  .next (whenRunning boothSent s)

/-- The spacing of the booth line has passed (R156). -/
def execBoothSpacingEnd (s : State) : Host.Outcome State Fault Refusal :=
  .next (whenRunning boothSpaced s)

end Sys2Proof.Machine
end

