-- ==== Sys2Proof/Machine/LeadMeanings.lean ====
section
/-! DEFINITION. The meanings of the Lead Monitor events (chapter 3): one for each constructor of Instr. -/

namespace Sys2Proof.Machine

/-- A lead falls with P below the effective low mark (R42). -/
def execLeadFallToLowMark (lane : AvLane) (s : State) : Host.Outcome State Fault Refusal :=
  .next (whenRunning (fallToLow lane) s)

/-- The refresh timer of a HELD lane fires (R44). -/
def execHoldRefreshTimer (lane : AvLane) (s : State) : Host.Outcome State Fault Refusal :=
  .next (whenRunning (fireRefresh lane) s)

end Sys2Proof.Machine
end

