-- ==== Sys2Proof/Machine/LinkMeanings.lean ====
section
/-! DEFINITION. The meanings of the reel link commands and events (chapter 1): one for each constructor of Instr. -/

namespace Sys2Proof.Machine

/-- Signal appears on the inbound lanes (R1); the pin changes also while the part is off or in reset. -/
def execSignalDetect (s : State) : Host.Outcome State Fault Refusal :=
  .next (detectSignal s)

/-- Signal is lost on the inbound lanes (R1, R4). -/
def execSignalLoss (s : State) : Host.Outcome State Fault Refusal :=
  .next (loseSignal s)

/-- The next training attempt begins (R2). -/
def execTrainingAttemptTimer (s : State) : Host.Outcome State Fault Refusal :=
  .next (whenRunning nextAttempt s)

/-- A retrain word arrives (R1). -/
def execRetrainWordReceived (s : State) : Host.Outcome State Fault Refusal :=
  .next (whenRunning takeRetrain s)

/-- An ability word arrives (R1, R2). -/
def execAbilityWordReceived (payloadClass : Nat) (laneCounts : List Nat) (s : State) : Host.Outcome State Fault Refusal :=
  .next (whenRunning (receiveAbility payloadClass laneCounts) s)

/-- A whole inbound cell arrives (R6 to R10, R14, R22). -/
def execCellReceived (bytes : List Byte) (cut : Bool) (s : State) : Host.Outcome State Fault Refusal :=
  .next (whenRunning (receiveCell bytes cut) s)

/-- A REPORT cell has left completely (R11, R5, R162, R165). -/
def execReportSent (s : State) : Host.Outcome State Fault Refusal :=
  .next (whenRunning sendReport s)

/-- A FILL cell has left completely (R11). -/
def execFillCellSent (s : State) : Host.Outcome State Fault Refusal :=
  .next (whenRunning sendFill s)

end Sys2Proof.Machine
end

