-- ==== Sys2Proof/Machine/ManagementMeanings.lean ====
section
/-! DEFINITION. The meanings of the management commands (chapter 10): one for each constructor of Instr. -/

namespace Sys2Proof.Machine

/-- IDENTIFY (R164). -/
def execIdentify (tag : Nat) (s : State) : Host.Outcome State Fault Refusal :=
  .next (whenRunning (serveIdentify tag) s)

/-- SET_CLOCK (R60). -/
def execSetClock (tag : Nat) (time : TimeOfDay) (s : State) : Host.Outcome State Fault Refusal :=
  .next (whenRunning (serveSetClock tag time) s)

/-- SET_LIMITS (R160). -/
def execSetLimits (tag : Nat) (settings : List LimitArgs) (s : State) : Host.Outcome State Fault Refusal :=
  .next (whenRunning (serveSetLimits tag settings) s)

/-- READ_STATUS (R161). -/
def execReadStatus (tag : Nat) (s : State) : Host.Outcome State Fault Refusal :=
  .next (whenRunning (serveReadStatus tag) s)

/-- READ_COUNTERS (R163). -/
def execReadCounters (tag : Nat) (s : State) : Host.Outcome State Fault Refusal :=
  .next (whenRunning (serveReadCounters tag) s)

/-- KEEPALIVE (R164). -/
def execKeepalive (tag : Nat) (s : State) : Host.Outcome State Fault Refusal :=
  .next (whenRunning (serveKeepalive tag) s)

/-- RESTART (R165). -/
def execRestart (tag : Nat) (s : State) : Host.Outcome State Fault Refusal :=
  .next (whenRunning (serveRestart tag) s)

/-- LOAD_COMPOSITION (R53 to R57). -/
def execLoadComposition (tag : Nat) (args : List Byte) (s : State) : Host.Outcome State Fault Refusal :=
  .next (whenRunning (serveLoadComposition tag args) s)

/-- CLEAR_SLOT (R58). -/
def execClearSlot (tag : Nat) (slot : Nat) (s : State) : Host.Outcome State Fault Refusal :=
  .next (whenRunning (serveClearSlot tag slot) s)

/-- LOAD_ROUTING (R97). -/
def execLoadRouting (tag : Nat) (map : Nat) (routes : List RouteArgs) (s : State) : Host.Outcome State Fault Refusal :=
  .next (whenRunning (serveLoadRouting tag map routes) s)

/-- LOAD_ACTIONS (R150). -/
def execLoadActions (tag : Nat) (first : Nat) (entries : List ActionArgs) (s : State) : Host.Outcome State Fault Refusal :=
  .next (whenRunning (serveLoadActions tag first entries) s)

/-- SET_EVENT_MASK (R149). -/
def execSetEventMask (tag : Nat) (settings : List MaskArgs) (s : State) : Host.Outcome State Fault Refusal :=
  .next (whenRunning (serveSetEventMask tag settings) s)

/-- READ_EVENT (R164). -/
def execReadEvent (tag : Nat) (kind : Nat) (s : State) : Host.Outcome State Fault Refusal :=
  .next (whenRunning (serveReadEvent tag kind) s)

/-- LOAD_ALLOWANCE (R129). -/
def execLoadAllowance (tag : Nat) (args : AllowanceArgs) (s : State) : Host.Outcome State Fault Refusal :=
  .next (whenRunning (serveLoadAllowance tag args) s)

/-- REVOKE_ALLOWANCE (R130). -/
def execRevokeAllowance (tag : Nat) (place : Nat) (s : State) : Host.Outcome State Fault Refusal :=
  .next (whenRunning (serveRevokeAllowance tag place) s)

/-- CLEAR_ALLOWANCE (R130). -/
def execClearAllowance (tag : Nat) (place : Nat) (s : State) : Host.Outcome State Fault Refusal :=
  .next (whenRunning (serveClearAllowance tag place) s)

/-- READ_LOG (R138). -/
def execReadLog (tag : Nat) (first : Nat) (count : Nat) (s : State) : Host.Outcome State Fault Refusal :=
  .next (whenRunning (serveReadLog tag first count) s)

/-- MARK_EXPORTED (R139). -/
def execMarkExported (tag : Nat) (number : Nat) (s : State) : Host.Outcome State Fault Refusal :=
  .next (whenRunning (serveMarkExported tag number) s)

/-- SCHEDULE_ADD (R62). -/
def execScheduleAdd (tag : Nat) (entry : SchedEntry) (s : State) : Host.Outcome State Fault Refusal :=
  .next (whenRunning (serveScheduleAdd tag entry) s)

/-- SCHEDULE_CANCEL (R63). -/
def execScheduleCancel (tag : Nat) (ident : Nat) (s : State) : Host.Outcome State Fault Refusal :=
  .next (whenRunning (serveScheduleCancel tag ident) s)

/-- SCHEDULE_CLEAR (R63). -/
def execScheduleClear (tag : Nat) (s : State) : Host.Outcome State Fault Refusal :=
  .next (whenRunning (serveScheduleClear tag) s)

/-- READ_SCHEDULE (R164). -/
def execReadSchedule (tag : Nat) (s : State) : Host.Outcome State Fault Refusal :=
  .next (whenRunning (serveReadSchedule tag) s)

/-- START sent by command (R70, R71). -/
def execStart (tag : Nat) (args : StartArgs) (s : State) : Host.Outcome State Fault Refusal :=
  .next (whenRunning (serveStart tag args) s)

/-- PAUSE (R84). -/
def execPause (tag : Nat) (s : State) : Host.Outcome State Fault Refusal :=
  .next (whenRunning (servePause tag) s)

/-- RESUME (R85). -/
def execResume (tag : Nat) (s : State) : Host.Outcome State Fault Refusal :=
  .next (whenRunning (serveResume tag) s)

/-- STOP (R88). -/
def execStop (tag : Nat) (s : State) : Host.Outcome State Fault Refusal :=
  .next (whenRunning (serveStop tag) s)

/-- SET_SYNC (R100). -/
def execSetSync (tag : Nat) (delay : Int) (s : State) : Host.Outcome State Fault Refusal :=
  .next (whenRunning (serveSetSync tag delay) s)

/-- SYNC_CHECK (R105). -/
def execSyncCheck (tag : Nat) (auto : Bool) (s : State) : Host.Outcome State Fault Refusal :=
  .next (whenRunning (serveSyncCheck tag auto) s)

/-- A MANAGE cell that names none of the 28 commands, or has no readable tag (R158). -/
def execUnknownCommandCell (payload : List Byte) (s : State) : Host.Outcome State Fault Refusal :=
  .next (whenRunning (serveUnknown payload) s)

end Sys2Proof.Machine
end

