-- ==== Sys2Proof/Machine/PowerMeanings.lean ====
section
/-! DEFINITION. The meanings of power and the RESET pin (section 10.6): one for each constructor of Instr. -/

namespace Sys2Proof.Machine

/-- Power-up ends (R166, R167). -/
def execPowerOn (s : State) : Host.Outcome State Fault Refusal :=
  .next (resetTo .powerOn s)

/-- The RESET pin is asserted (R166, R167). -/
def execResetLine (s : State) : Host.Outcome State Fault Refusal :=
  .next (assertPin s)

/-- The RESET pin is released (R166). -/
def execResetPinRelease (s : State) : Host.Outcome State Fault Refusal :=
  .next (deassertPin s)

/-- Power is lost (R140, R165). -/
def execPowerLoss (s : State) : Host.Outcome State Fault Refusal :=
  .next (dropPower s)

end Sys2Proof.Machine
end

