-- ==== Sys2Proof/Machine/ShowingMeanings.lean ====
section
/-! DEFINITION. The meanings of the Timeline and Sound Router events (chapters 5 and 6): one for each constructor of Instr. -/

namespace Sys2Proof.Machine

/-- The cue timer exceeds the cue limit (R72). -/
def execCueLimitExpiry (s : State) : Host.Outcome State Fault Refusal :=
  .next (whenRunning expireCue s)

/-- P reaches the release instant at the cursor (R75 to R79, R92). -/
def execPictureReleaseInstant (s : State) : Host.Outcome State Fault Refusal :=
  .next (whenRunning reachInstant s)

/-- P reaches the end of a unit's interval (R80, R82, R84, R86). -/
def execUnitIntervalEnd (s : State) : Host.Outcome State Fault Refusal :=
  .next (whenRunning reachIntervalEnd s)

/-- P reaches the end of a rate change gap (R80, R81). -/
def execGapEnd (s : State) : Host.Outcome State Fault Refusal :=
  .next (whenRunning reachGapEnd s)

/-- P reaches the composition end (R89). -/
def execCompositionEnd (s : State) : Host.Outcome State Fault Refusal :=
  .next (whenRunning reachEnd s)

/-- The stall timer exceeds the stall limit (R83). -/
def execStallLimitExpiry (s : State) : Host.Outcome State Fault Refusal :=
  .next (whenRunning expireStall s)

/-- The intermission timer reaches 0 (R87). -/
def execIntermissionExpiry (s : State) : Host.Outcome State Fault Refusal :=
  .next (whenRunning expireIntermission s)

/-- The held picture is sent again in PAUSED or STALLED (R69, R122). -/
def execHeldPictureResend (s : State) : Host.Outcome State Fault Refusal :=
  .next (whenRunning resendPicture s)

/-- X reaches R(u) on the sound lanes (R94, R95, R98, R101 to R103). -/
def execSoundReleaseInstant (s : State) : Host.Outcome State Fault Refusal :=
  .next (whenRunning reachSound s)

end Sys2Proof.Machine
end

