-- ==== Sys2Proof/Machine/Dispatch.lean ====
section
/-! DEFINITION. The effect of each command on everything but the queue: one arm for each constructor of Instr. -/

namespace Sys2Proof.Machine

/-- The command's effect, by the rules that its meaning cites. -/
def exec (i : Instr) (s : State) : Host.Outcome State Fault Refusal :=
  match i with
  | .signalDetect => Sys2Proof.Machine.execSignalDetect s
  | .signalLoss => Sys2Proof.Machine.execSignalLoss s
  | .trainingAttemptTimer => Sys2Proof.Machine.execTrainingAttemptTimer s
  | .retrainWordReceived => Sys2Proof.Machine.execRetrainWordReceived s
  | .abilityWordReceived payloadClass laneCounts => Sys2Proof.Machine.execAbilityWordReceived payloadClass laneCounts s
  | .cellReceived bytes cut => Sys2Proof.Machine.execCellReceived bytes cut s
  | .reportSent => Sys2Proof.Machine.execReportSent s
  | .leadFallToLowMark lane => Sys2Proof.Machine.execLeadFallToLowMark lane s
  | .holdRefreshTimer lane => Sys2Proof.Machine.execHoldRefreshTimer lane s
  | .secondRoll => Sys2Proof.Machine.execSecondRoll s
  | .heartbeatExpiry => Sys2Proof.Machine.execHeartbeatExpiry s
  | .identify tag => Sys2Proof.Machine.execIdentify tag s
  | .setClock tag time => Sys2Proof.Machine.execSetClock tag time s
  | .setLimits tag settings => Sys2Proof.Machine.execSetLimits tag settings s
  | .readStatus tag => Sys2Proof.Machine.execReadStatus tag s
  | .readCounters tag => Sys2Proof.Machine.execReadCounters tag s
  | .keepalive tag => Sys2Proof.Machine.execKeepalive tag s
  | .restart tag => Sys2Proof.Machine.execRestart tag s
  | .loadComposition tag args => Sys2Proof.Machine.execLoadComposition tag args s
  | .clearSlot tag slot => Sys2Proof.Machine.execClearSlot tag slot s
  | .loadRouting tag map routes => Sys2Proof.Machine.execLoadRouting tag map routes s
  | .loadActions tag first entries => Sys2Proof.Machine.execLoadActions tag first entries s
  | .setEventMask tag settings => Sys2Proof.Machine.execSetEventMask tag settings s
  | .readEvent tag kind => Sys2Proof.Machine.execReadEvent tag kind s
  | .loadAllowance tag args => Sys2Proof.Machine.execLoadAllowance tag args s
  | .revokeAllowance tag place => Sys2Proof.Machine.execRevokeAllowance tag place s
  | .clearAllowance tag place => Sys2Proof.Machine.execClearAllowance tag place s
  | .readLog tag first count => Sys2Proof.Machine.execReadLog tag first count s
  | .markExported tag number => Sys2Proof.Machine.execMarkExported tag number s
  | .scheduleAdd tag entry => Sys2Proof.Machine.execScheduleAdd tag entry s
  | .scheduleCancel tag ident => Sys2Proof.Machine.execScheduleCancel tag ident s
  | .scheduleClear tag => Sys2Proof.Machine.execScheduleClear tag s
  | .readSchedule tag => Sys2Proof.Machine.execReadSchedule tag s
  | .start tag args => Sys2Proof.Machine.execStart tag args s
  | .pause tag => Sys2Proof.Machine.execPause tag s
  | .resume tag => Sys2Proof.Machine.execResume tag s
  | .stop tag => Sys2Proof.Machine.execStop tag s
  | .setSync tag delay => Sys2Proof.Machine.execSetSync tag delay s
  | .syncCheck tag auto => Sys2Proof.Machine.execSyncCheck tag auto s
  | .unknownCommandCell payload => Sys2Proof.Machine.execUnknownCommandCell payload s
  | .cueLimitExpiry => Sys2Proof.Machine.execCueLimitExpiry s
  | .pictureReleaseInstant => Sys2Proof.Machine.execPictureReleaseInstant s
  | .unitIntervalEnd => Sys2Proof.Machine.execUnitIntervalEnd s
  | .gapEnd => Sys2Proof.Machine.execGapEnd s
  | .compositionEnd => Sys2Proof.Machine.execCompositionEnd s
  | .stallLimitExpiry => Sys2Proof.Machine.execStallLimitExpiry s
  | .intermissionExpiry => Sys2Proof.Machine.execIntermissionExpiry s
  | .heldPictureResend => Sys2Proof.Machine.execHeldPictureResend s
  | .soundReleaseInstant => Sys2Proof.Machine.execSoundReleaseInstant s
  | .captureEdge channel edge => Sys2Proof.Machine.execCaptureEdge channel edge s
  | .captureCountTimeout channel => Sys2Proof.Machine.execCaptureCountTimeout channel s
  | .frameSignalLoss => Sys2Proof.Machine.execFrameSignalLoss s
  | .captionMessageSent => Sys2Proof.Machine.execCaptionMessageSent s
  | .captionSpacingEnd => Sys2Proof.Machine.execCaptionSpacingEnd s
  | .storeWriteEnd ok => Sys2Proof.Machine.execStoreWriteEnd ok s
  | .startupReadEnd => Sys2Proof.Machine.execStartupReadEnd s
  | .boothMessageSent => Sys2Proof.Machine.execBoothMessageSent s
  | .boothSpacingEnd => Sys2Proof.Machine.execBoothSpacingEnd s
  | .powerOn => Sys2Proof.Machine.execPowerOn s
  | .resetLine => Sys2Proof.Machine.execResetLine s
  | .resetPinRelease => Sys2Proof.Machine.execResetPinRelease s
  | .fillCellSent => Sys2Proof.Machine.execFillCellSent s
  | .powerLoss => Sys2Proof.Machine.execPowerLoss s

end Sys2Proof.Machine
end

