-- ==== Sys2Proof/Machine/Tick.lean ====
section
/-! DEFINITION. The show tick: what the part does when no command waits.  One step either serves one event that the counters have
reached or lets every counter advance by one tick (section 5 of 00_scope.md; the order among events due at one tick is a DESIGN
CHOICE). -/

namespace Sys2Proof.Machine

/-! ## Events that the counters have reached -/

/-- The first of some served events. -/
def firstDue : List (Option State) → Option State
  | [] => none
  | some s :: _ => some s
  | none :: rest => firstDue rest

/-- An event served where it is due. -/
def whenDue (due : Bool) (f : State → State) (s : State) : Option State := if due then some (f s) else none

/-- X has reached the next sound instant (R94). -/
def State.soundReached (s : State) : Bool := (s.soundTick.map (fun n => decide (n ≤ (s.timeline.p : Int)))).getD false

/-- A counter has run down. -/
def ranOut (o : Option Nat) : Bool := decide (o = some 0)

/-- The count of a channel has reached a number of ticks. -/
def CapChannel.reached (c : CapChannel) (n : Nat) : Bool :=
  decide (c.state = .counting) && (match c.count with | .ticks k => decide (n ≤ k) | .noEdge => false)

/-- The first refresh timer that has run down (R44). -/
def dueRefresh (s : State) : Option State :=
  (avLanes.find? (fun l => (s.hold l).held && ranOut (s.hold l).refresh)).map (fun l => fireRefresh l s)

/-- One event that the counters of a running part have reached, served. -/
def serveDue (s : State) : Option State :=
  let playing := decide (s.timeline.state = .playing)
  let t := s.timeline
  firstDue
    [ whenDue (decide (s.link.state = .training) && (s.link.attempt.map (fun n => decide (Config.attemptTicks ≤ n))).getD false)
        nextAttempt s,
      whenDue (playing && s.intervalOver) endInterval s,
      whenDue (playing && s.inGap && s.instantReached) endGap s,
      whenDue (playing && !s.inGap && decide (t.interval = none) && s.instantReached) takeInstant s,
      whenDue (playing && s.soundReached) reachSound s,
      whenDue (decide (t.state = .cueing) && decide (s.mgmt.limits.cueSeconds * Config.ticksPerSecond < t.cueTimer)) expireCue s,
      whenDue (decide (t.state = .stalled) &&
        (t.stallTimer.map (fun n => decide (s.mgmt.limits.stallSeconds * Config.ticksPerSecond < n))).getD false) expireStall s,
      whenDue (decide (t.state = .paused) && ranOut t.intermission) expireIntermission s,
      whenDue ((decide (t.state = .paused) || decide (t.state = .stalled)) && ranOut s.picture.resend) resendPicture s,
      dueRefresh s,
      whenDue (s.sync.light.reached Config.captureMax) (countTimeout .light) s,
      whenDue (s.sync.echo.reached Config.captureMax) (countTimeout .echo) s,
      whenDue (s.sync.frame.reached Config.captureMax) (countTimeout .frame) s,
      whenDue (!s.sync.frame.judged && s.sync.frame.reached (4 * s.expectedPeriod)) reachFrameLoss s,
      whenDue (s.cues.line.isSending && decide (s.cues.timer = 0)) captionSent s,
      whenDue (s.cues.line.isSpacing && decide (s.cues.timer = 0)) captionSpaced s,
      whenDue (s.actions.line.isSending && decide (s.actions.timer = 0)) boothSent s,
      whenDue (s.actions.line.isSpacing && decide (s.actions.timer = 0)) boothSpaced s ]

/-! ## Counters advance -/

/-- A counter that runs down by one. -/
def runDown (o : Option Nat) : Option Nat := o.map (· - 1)

/-- A capture channel in COUNTING counts a tick (R104). -/
def CapChannel.tick (c : CapChannel) : CapChannel :=
  match c.state, c.count with
  | .counting, .ticks n => { c with count := .ticks (n + 1) }
  | _, _ => c

/-- The timers of the showing count a tick (R69, R72, R83, R87). -/
def tickTimers (s : State) : State :=
  { s with
    timeline := { s.timeline with
      cueTimer := if s.timeline.state = .cueing then s.timeline.cueTimer + 1 else s.timeline.cueTimer,
      stallTimer := if s.timeline.state = .stalled then s.timeline.stallTimer.map (· + 1) else s.timeline.stallTimer,
      intermission := if s.timeline.state = .paused then runDown s.timeline.intermission else s.timeline.intermission },
    picture := { s.picture with resend := runDown s.picture.resend } }

/-- The refresh timer of a lane counts a tick (R44). -/
def LaneHold.tick (h : LaneHold) : LaneHold := { h with refresh := runDown h.refresh }

/-- The timers of the other blocks count a tick (R2, R44, R104, R125, R156). -/
def tickDevices (s : State) : State :=
  { s with
    link := { s.link with attempt := s.link.attempt.map (· + 1) },
    holds := { pic := mapVec LaneHold.tick s.holds.pic, snd := mapVec LaneHold.tick s.holds.snd },
    sync := { s.sync with light := s.sync.light.tick, echo := s.sync.echo.tick, frame := s.sync.frame.tick },
    cues := { s.cues with timer := s.cues.timer - 1 },
    actions := { s.actions with timer := s.actions.timer - 1 } }

/-- P advances by one in PLAYING (R67).  That a lane whose lead falls below its effective low mark at the tick of an instant opens before
the instant's outcome (R42, R45) is the model's choice (notes/assumptions/80.md). -/
def tickShow (s : State) : State := if s.timeline.state = .playing then reachTick (s.timeline.p + 1) s else s

/-- The day clock advances by one tick, and rolls its second past tick 95,999 (R59).  The roll belongs to the tick, before what the other
counters reach at it (notes/assumptions/71.md). -/
def tickClock (s : State) : State :=
  if s.clock.tick + 1 < Config.ticksPerSecond then { s with clock := { s.clock with tick := s.clock.tick + 1 } } else rollSecond s

/-- What the part does when no command waits: nothing without power, only the clock in reset, else one due event or one tick.
A second roll at the tick of a release instant or a timer's end is served first, inside the tick; that is the model's choice
(notes/assumptions/71.md). -/
def idle (s : State) : State :=
  if s.powered = false then s
  else if s.resetPin then tickClock s
  else
    match serveDue s with
    | some s' => s'
    | none => tickClock (tickShow (tickDevices (tickTimers s)))

end Sys2Proof.Machine
end

