-- ==== Sys2Proof/Machine/Step.lean ====
section
/-! DEFINITION. One step: the command at the front of the queue, or the show tick where none waits. -/

namespace Sys2Proof.Machine

/-- The state without the command at the front of its queue. -/
def State.popFront (s : State) : State := { s with pending := s.pending.tail }

/-- The state with a command put at the front of its queue. -/
def State.pushFront (c : Instr) (s : State) : State := { s with pending := c :: s.pending }

/-- One step of the part: the oldest waiting command is run with the queue's rest; with none waiting the part idles, which is one due
event or one show tick (DESIGN CHOICE). -/
def step (s : State) : Host.Outcome State Fault Refusal :=
  match s.pending with
  | [] => .next (idle s)
  | c :: _ => exec c s.popFront

/-- The state with the command that a word spells at the front of its queue; unchanged where the word spells none. -/
def State.withFetchWord (s : State) (nbits w : Nat) : State :=
  match decodeTableWord nbits w with
  | some c => s.pushFront c
  | none => s

end Sys2Proof.Machine
end

