-- ==== Sys2Proof/Safety.lean ====
section
/-! DEFINITION. What a safe state is and what a command may leave unchanged, in the words that the statements use. -/

namespace Sys2Proof

/-- The command code and the tag of a management command (sections 10.1 and 11.3). -/
def Instr.command : Instr → Option (Nat × Nat)
  | .identify tag => some (1, tag)
  | .setClock tag _ => some (2, tag)
  | .setLimits tag _ => some (3, tag)
  | .readStatus tag => some (4, tag)
  | .readCounters tag => some (5, tag)
  | .keepalive tag => some (6, tag)
  | .restart tag => some (7, tag)
  | .loadComposition tag _ => some (8, tag)
  | .clearSlot tag _ => some (9, tag)
  | .loadRouting tag _ _ => some (10, tag)
  | .loadActions tag _ _ => some (11, tag)
  | .setEventMask tag _ => some (12, tag)
  | .loadAllowance tag _ => some (13, tag)
  | .revokeAllowance tag _ => some (14, tag)
  | .clearAllowance tag _ => some (15, tag)
  | .readLog tag _ _ => some (16, tag)
  | .markExported tag _ => some (17, tag)
  | .scheduleAdd tag _ => some (18, tag)
  | .scheduleCancel tag _ => some (19, tag)
  | .scheduleClear tag => some (20, tag)
  | .start tag _ => some (21, tag)
  | .pause tag => some (22, tag)
  | .resume tag => some (23, tag)
  | .stop tag => some (24, tag)
  | .setSync tag _ => some (25, tag)
  | .syncCheck tag _ => some (26, tag)
  | .readEvent tag _ => some (27, tag)
  | .readSchedule tag => some (28, tag)
  | .signalDetect => none
  | .signalLoss => none
  | .trainingAttemptTimer => none
  | .retrainWordReceived => none
  | .abilityWordReceived _ _ => none
  | .cellReceived _ _ => none
  | .reportSent => none
  | .leadFallToLowMark _ => none
  | .holdRefreshTimer _ => none
  | .secondRoll => none
  | .heartbeatExpiry => none
  | .unknownCommandCell _ => none
  | .cueLimitExpiry => none
  | .pictureReleaseInstant => none
  | .unitIntervalEnd => none
  | .gapEnd => none
  | .compositionEnd => none
  | .stallLimitExpiry => none
  | .intermissionExpiry => none
  | .heldPictureResend => none
  | .soundReleaseInstant => none
  | .captureEdge _ _ => none
  | .captureCountTimeout _ => none
  | .frameSignalLoss => none
  | .captionMessageSent => none
  | .captionSpacingEnd => none
  | .storeWriteEnd _ => none
  | .startupReadEnd => none
  | .boothMessageSent => none
  | .boothSpacingEnd => none
  | .powerOn => none
  | .resetLine => none
  | .resetPinRelease => none
  | .fillCellSent => none
  | .powerLoss => none

end Sys2Proof

namespace Sys2Proof.Machine

/-- The part executes commands: it runs, start-up is COMPLETE and no RESTART is pending (R158, R166). -/
def State.serves (s : State) : Bool :=
  s.running && decide (s.counting.startup = .complete) && !s.mgmt.restartPending

/-- `t` is `u` but for what handing changes to the Event Table may do: event records, the report queue, the action queue with its
line, and the actions dropped counter (R12, R146 to R148, R154, R155). -/
def reportsFrom (u t : State) : Prop :=
  t = { u with
    link := { u.link with queue := t.link.queue }, events := t.events,
    actions := { u.actions with queue := t.actions.queue, line := t.actions.line, timer := t.actions.timer },
    counters := { u.counters with actionsDropped := t.counters.actionsDropped } }

/-- The blocks that a lane's assembly slots and queued units hold (R35). -/
def State.laneBlocks (s : State) (l : Lane) : Nat := slotBlocks (s.laneSlots l) + unitBlocks (s.queue l)

/-- Every block: those of the slots, of the queued units and of the free pool (R35). -/
def State.totalBlocks (s : State) : Nat := s.buffer.pool + (allLanes.map s.laneBlocks).foldl (· + ·) 0

/-- No two slots of a lane hold the same unit (section 2.3). -/
def State.slotsDistinct (s : State) (l : Lane) : Prop := ((s.laneSlots l).map (fun x => (x.reel, x.unit))).Nodup

/-- The invariant of the frame store: the blocks total 32,768 and a unit has one slot (R35). -/
def State.blocksConserved (s : State) : Prop := s.totalBlocks = Config.blocks ∧ ∀ l, s.slotsDistinct l

/-- The live and staged sound delays lie within ±24,000 ticks (R100). -/
def State.delaysInRange (s : State) : Prop :=
  -24000 ≤ s.sound.live ∧ s.sound.live ≤ 24000 ∧ -24000 ≤ s.sound.staged ∧ s.sound.staged ≤ 24000

/-- At most one reconciliation entry waits, and none outside the reconciliation of a running part (R144). -/
def State.reconciliationsKept (s : State) : Prop :=
  (s.counting.queue.filter (fun e => decide (e.kind = .reconciliation))).length ≤
    (if s.running = true ∧ s.counting.startup = .reconciling then 1 else 0)

/-- Used showings, plus one for an open showing bound to the allowance and not yet charged, lie within the allowed showings (R133). -/
def State.usedWithinLimits (s : State) : Prop :=
  ∀ (i : Fin 32) (a : Allowance) (n : Nat), (s.place i).record = some a → a.allowed = some n →
    a.used + (if s.counting.bound = some i ∧ s.counting.charged = false then 1 else 0) ≤ n

/-- The reports of the re-announcement: a WANT for each wanted reel, then a fresh HOLD for each HELD lane (R15). -/
def State.announcement (s : State) : List Report :=
  s.wanted.map (fun w => .want w.comp w.index w.reel.ident w.reel.entry false) ++
  (avLanes.filter (fun l => (s.hold l).held)).map (fun l => .hold l (s.holdTags l) s.mgmt.limits.holdMs)

/-- The EVENT report of a level event's deassertion, where the event is asserted and its mask calls for one (R148). -/
def State.clearReport (s : State) (k : EventKind) : List Report :=
  if s.isAsserted k = true ∧ (s.event k).onDeassert = true then [.event k.num .clear (s.event k).count (some s.stamp)] else []

/-- The FILLING slots of a lane whose stride differs from a limit (R33). -/
def State.misfits (s : State) (limit : Nat) (l : Lane) : List AsmSlot :=
  (s.laneSlots l).filter (fun x => !x.complete && decide (x.content.stride ≠ limit))

/-- A sum over the ten lanes. -/
def sumLanes (f : Lane → Nat) : Nat := (allLanes.map f).foldl (· + ·) 0

/-- The text lanes whose track in the reel in view is CLOSED (R126). -/
def State.closedInView (s : State) : List (Fin 4) :=
  match s.cues.inView.bind s.row with
  | none => []
  | some row => fours.filter (fun i => ((row.reel.textOn i).map (fun t => !t.opened)).getD false)

/-- A message line after some messages have been offered to it and all admitted: an IDLE line takes the oldest at once (R125, R156). -/
def admitted {α : Type} (idle : Bool) (line : Line α) (queue ms : List α) : Line α × List α :=
  if idle then
    match queue ++ ms with
    | [] => (line, [])
    | m :: rest => (.sending m, rest)
  else (line, queue ++ ms)

/-- The limits lie in the ranges of section 10.3. -/
def Limits.inRange (l : Limits) : Prop :=
  48000 ≤ l.startLead ∧ l.startLead ≤ 960000 ∧ 48000 ≤ l.resumeLead ∧ l.resumeLead ≤ 960000 ∧
  24000 ≤ l.lowPic ∧ l.lowPic ≤ 960000 ∧ l.lowPic + 48000 ≤ l.highPic ∧ l.highPic ≤ 2880000 ∧
  24000 ≤ l.lowSnd ∧ l.lowSnd ≤ 960000 ∧ l.lowSnd + 48000 ≤ l.highSnd ∧ l.highSnd ≤ 2880000 ∧
  10 ≤ l.holdMs ∧ l.holdMs ≤ 5000 ∧ 5 ≤ l.stallSeconds ∧ l.stallSeconds ≤ 600 ∧ 10 ≤ l.cueSeconds ∧ l.cueSeconds ≤ 900 ∧
  l.gap ≤ 96000 ∧ 1 ≤ l.coverage ∧ l.coverage ≤ 256 ∧ (l.heartbeat = 0 ∨ 5 ≤ l.heartbeat) ∧ l.heartbeat ≤ 3600 ∧
  l.lateMinutes ≤ 60 ∧ 10 ≤ l.cueAdvance ∧ l.cueAdvance ≤ 600 ∧ l.captionLead ≤ 48000 ∧ l.picturePolicy ≤ 1 ∧
  l.soundPolicy ≤ 1 ∧ l.warn ≤ 255

/-- The value that a setting gives a limit, clamped into the range of section 10.3: `lowPic` and `lowSnd` are the low marks in force. -/
def clampedLimit (lowPic lowSnd number value : Nat) : Nat :=
  match number with
  | 0 => max 48000 (min 960000 value)
  | 1 => max 48000 (min 960000 value)
  | 2 => max 24000 (min 960000 value)
  | 3 => max (lowPic + 48000) (min 2880000 value)
  | 4 => max 24000 (min 960000 value)
  | 5 => max (lowSnd + 48000) (min 2880000 value)
  | 6 => max 10 (min 5000 value)
  | 7 => max 5 (min 600 value)
  | 8 => max 10 (min 900 value)
  | 9 => min 96000 value
  | 10 => max 1 (min 256 value)
  | 11 => if value = 0 then 0 else max 5 (min 3600 value)
  | 12 => min 60 value
  | 13 => max 10 (min 600 value)
  | 14 => min 48000 value
  | 15 => min 1 value
  | 16 => min 1 value
  | _ => min 255 value

/-- Schedule entries stand in the order of their starts (R62). -/
def inStartOrder (q : List SchedEntry) : Prop := q.Pairwise (fun a b => entrySecs a ≤ entrySecs b)

end Sys2Proof.Machine
end

