-- ==== Sys2Proof/Certificates/Slice0/Obligations.lean ====
section
/-! DEFINITION. The statements for the provers, one `def Obligations.<Name> : Prop` each. -/

section

open Sys2Proof Sys2Proof.Machine

/-! ## The machine -/

/-- A command at the front of the queue is run by `exec` on the state with the queue's rest. -/
def Obligations.StepRunsFrontCommand : Prop :=
  (∀ (c : Instr) (s : State), step (s.pushFront c) = exec c s) ∧
  (∀ (c : Instr) (rest : List Instr) (s : State), s.pending = c :: rest → step s = exec c { s with pending := rest })

/-- With no command waiting a step is the model's tick (notes/assumptions/1.md): nothing without power, the clock alone in reset,
else one due event or one show tick.  The order of the events due at one tick, and what the tick itself serves, are the model's choices
(notes/assumptions/2.md, 71.md and 80.md). -/
def Obligations.EmptyQueueStepTicks : Prop :=
  ∀ s : State, s.pending = [] →
    (s.powered = false → step s = .next s) ∧
    (s.powered = true → s.resetPin = true → step s = .next (tickClock s)) ∧
    (s.running = true → ∀ t, serveDue s = some t → step s = .next t) ∧
    (s.running = true → serveDue s = none → step s = .next (tickClock (tickShow (tickDevices (tickTimers s)))))

/-! ## Resets and power -/

/-- Every kind of reset returns the volatile state to its reset values, block by block (link, wanted set, slots, lane queues, holds,
compositions, showing, pictures, sound, sync, cues, counting, events, actions, limits, counters), keeps the store but for the write in
progress, and leaves the clock as its kind says (section 10.6).  Whether the write in progress was written is a free choice
(notes/assumptions/17.md).  The empty log and allowance table before the store is read (notes/assumptions/85.md), and the message of an
empty action entry (notes/assumptions/76.md), are the model's choices. -/
def Obligations.ResetReturnsVolatileState : Prop :=
  ∀ (cause : ResetCause) (s : State),
    (resetTo cause s).timeline = Timeline.reset ∧ (resetTo cause s).picture = PictureOut.reset ∧
    (resetTo cause s).link.queue = [] ∧ (resetTo cause s).wanted = [] ∧ (resetTo cause s).schedule.queue = [] ∧
    (resetTo cause s).buffer.pool = 32768 ∧ (resetTo cause s).counters = Counters.zero ∧
    (resetTo cause s).mgmt.limits = Limits.reset ∧ (resetTo cause s).sound = Sound.reset ∧
    (resetTo cause s).pending = s.pending ∧
    (resetTo cause s).clock = (if cause = .powerOn then Clock.reset else s.clock) ∧
    ((resetTo cause s).isAsserted .clockUnset = !(resetTo cause s).clock.isSet) ∧
    (resetTo cause s).counting.startup = (if s.resetPin then .heldInReset else .reading) ∧
    ((resetTo cause s).link.state = (if s.resetPin = false ∧ s.signal = true then .training else .down)) ∧
    ((resetTo cause s).link =
      (if s.resetPin = false ∧ s.signal = true then LinkPort.reset.beginAttempt else LinkPort.reset)) ∧
    (∀ l, (resetTo cause s).laneSlots l = [] ∧ (resetTo cause s).queue l = []) ∧
    (∀ l, (resetTo cause s).hold l = LaneHold.reset) ∧ (∀ i : Fin 4, (resetTo cause s).comps[i] = .empty) ∧
    (resetTo cause s).cues = CueEngine.reset ∧ (resetTo cause s).actions = ActionUnit.reset ∧
    (resetTo cause s).sync = Sync.reset ∧ (resetTo cause s).schedule.heartbeat = 0 ∧
    (∀ k, k ≠ .clockUnset → (resetTo cause s).event k = EventRec.reset) ∧
    (resetTo cause s).event .clockUnset = (if (resetTo cause s).clock.isSet then EventRec.reset
      else { asserted := true, onAssert := true, onDeassert := true, count := 1,
             last := some { time := (resetTo cause s).clock.now, unset := true } }) ∧
    (resetTo cause s).mgmt.restartPending = false ∧ (resetTo cause s).mgmt.snapshot = none ∧
    (resetTo cause s).counting.queue = [] ∧ (resetTo cause s).counting.log = [] ∧ (resetTo cause s).counting.bound = none ∧
    (∀ i, ((resetTo cause s).place i).record = none) ∧ (resetTo cause s).powered = true ∧
    (resetTo cause s).resetPin = s.resetPin ∧ (resetTo cause s).signal = s.signal ∧
    (s.counting.queue = [] → (resetTo cause s).store = s.store) ∧
    (∀ e rest, s.counting.queue = e :: rest →
      (resetTo cause s).store = s.store ∨ (resetTo cause s).store = s.store.write e s.counting.header)

/-- The reset cause record after each kind of reset, as READ_STATUS and READ_COUNTERS return it (R167). -/
def Obligations.ResetCauseRecord : Prop :=
  ∀ s : State,
    ((resetTo .powerOn s).mgmt.cause = .powerOn ∧ (resetTo .powerOn s).mgmt.resets = 0 ∧
      (resetTo .powerOn s).mgmt.unread = true) ∧
    ((resetTo .resetLine s).mgmt.cause = .resetLine ∧ (resetTo .resetLine s).mgmt.resets = min 255 (s.mgmt.resets + 1) ∧
      (resetTo .resetLine s).mgmt.unread = true) ∧
    ((resetTo .restart s).mgmt.cause = .restart ∧ (resetTo .restart s).mgmt.resets = min 255 (s.mgmt.resets + 1) ∧
      (resetTo .restart s).mgmt.unread = true) ∧
    (s.status.cause = s.mgmt.cause ∧ s.status.resets = s.mgmt.resets ∧ s.status.unread = s.mgmt.unread ∧
      s.takeSnapshot.resets = s.mgmt.resets)

/-- POWER_ON resets in every state; RESET_LINE resets a powered part whose pin was released, and holds it; the release begins
start-up and takes a present signal; POWER_LOSS leaves only the pins, the store and the waiting commands (section 10.6).  The model's
choices in it: POWER_ON resets a powered part too, and POWER_LOSS leaves the reset values (notes/assumptions/9.md); a present signal is
taken at the pin's release (notes/assumptions/10.md). -/
def Obligations.PowerAndResetPin : Prop :=
  ∀ s : State,
    exec .powerOn s = .next (resetTo .powerOn s) ∧
    (s.powered = true → s.resetPin = false → exec .resetLine s = .next (resetTo .resetLine { s with resetPin := true })) ∧
    (s.powered = true → s.resetPin = true → s.signal = false →
      exec .resetPinRelease s = .next { s with resetPin := false, counting := { s.counting with startup := .reading } }) ∧
    (s.powered = true → s.resetPin = true → s.signal = true → s.link.state = .down →
      exec .resetPinRelease s = .next { s with
        resetPin := false, counting := { s.counting with startup := .reading }, link := s.link.beginAttempt }) ∧
    (s.powered = true → ∃ t, exec .powerLoss s = .next t ∧ t.powered = false ∧ t.resetPin = s.resetPin ∧ t.signal = s.signal ∧
      t.pending = s.pending ∧ t.timeline = Timeline.reset ∧ t.link = LinkPort.reset ∧ t.mgmt = Management.reset ∧
      (s.counting.queue = [] → t.store = s.store) ∧
      (∀ e rest, s.counting.queue = e :: rest → t.store = s.store ∨ t.store = s.store.write e s.counting.header))

/-! ## The reel link -/

/-- Signal detect in DOWN, the attempt timer in TRAINING and a retrain word in TRAINING each begin an attempt, which sends the M460's
retrain word where it left UP on its own trigger and then its ability word, 4,096 bytes on 1, 2 or 4 lanes (sections 1.1). -/
def Obligations.TrainingAttemptsBegin : Prop :=
  ∀ s : State, s.running = true →
    (s.link.state = .down → exec .signalDetect s = .next { s with signal := true, link := s.link.beginAttempt }) ∧
    (s.link.state ≠ .down → exec .signalDetect s = .next { s with signal := true }) ∧
    (s.link.state = .training → exec .trainingAttemptTimer s = .next { s with link := s.link.beginAttempt }) ∧
    (s.link.state = .training → exec .retrainWordReceived s = .next { s with link := s.link.beginAttempt }) ∧
    s.link.beginAttempt.state = .training ∧ s.link.beginAttempt.attempt = some 0 ∧ s.link.beginAttempt.decided = false ∧
    s.link.beginAttempt.ownRetrain = false ∧
    s.link.beginAttempt.out = .words (if s.link.ownRetrain then [.retrain, .ability 4096 [1, 2, 4]] else [.ability 4096 [1, 2, 4]])

/-- An ability word: the first of an attempt brings the link UP where it names a valid payload class and a lane count, with the partner's
class and its largest count, and fails the attempt otherwise; a later one and one in DOWN are ignored; in UP it is taken as a retrain
word and then by the first attempt (section 1.1).  Entry to UP fills the queue with the EVENT reports of the two deassertions and the
re-announcement, sends the first cell behind the attempt's words, and abandons the FILLING slots of another stride (sections 1.3 and
2.7; that actions and slots come after the re-announcement is the model's choice, notes/assumptions/23.md). -/
def Obligations.AbilityWordDecides : Prop :=
  ∀ (s : State) (payloadClass : Nat) (counts : List Nat), s.running = true →
    (s.link.state = .training → s.link.decided = false → payloadClass ∈ [1024, 2048, 4096] → (∃ n ∈ counts, n ∈ [1, 2, 4]) →
      ∃ t n, exec (.abilityWordReceived payloadClass counts) s = .next t ∧ t.link.state = .up ∧
        t.link.limit = some payloadClass ∧ t.link.laneCount = some n ∧ n ∈ counts ∧ n ∈ [1, 2, 4] ∧
        (∀ m ∈ counts, m ∈ [1, 2, 4] → m ≤ n) ∧ t.link.retrainRun = 0 ∧ t.isAsserted .linkFault = false ∧
        t.isAsserted .linkDown = false ∧ t.wanted = s.wanted ∧ t.timeline = s.timeline ∧ t.holds = s.holds ∧ t.comps = s.comps ∧
        t.clock = s.clock ∧ t.schedule = s.schedule ∧ t.counting = s.counting ∧ t.store = s.store ∧ t.mgmt = s.mgmt ∧
        t.sound = s.sound ∧ t.sync = s.sync ∧ t.cues = s.cues ∧ t.picture = s.picture ∧ (∀ l, t.queue l = s.queue l)) ∧
    (s.link.state = .training → s.link.decided = false → (payloadClass ∉ [1024, 2048, 4096] ∨ ∀ n ∈ counts, n ∉ [1, 2, 4]) →
      ∃ t, exec (.abilityWordReceived payloadClass counts) s = .next t ∧ t.isAsserted .linkFault = true ∧
        reportsFrom { s with link := { s.link with decided := true } } t) ∧
    (s.link.state = .down ∨ s.link.state = .training ∧ s.link.decided = true →
      exec (.abilityWordReceived payloadClass counts) s = .next s) ∧
    (s.link.state = .up → s.link.holdsRestart = false →
      ∃ u, exec .retrainWordReceived s = .next u ∧
        exec (.abilityWordReceived payloadClass counts) s = exec (.abilityWordReceived payloadClass counts) u) ∧
    (s.link.state = .training → s.link.decided = false → payloadClass ∈ [1024, 2048, 4096] → (∃ n ∈ counts, n ∈ [1, 2, 4]) →
      s.wanted.length ≤ 2 →
      ∃ t rest, exec (.abilityWordReceived payloadClass counts) s = .next t ∧
        t.link.queue = s.clearReport .linkFault ++ s.clearReport .linkDown ++ s.announcement ++ rest ∧
        (∀ r ∈ rest, r.isEvent = true) ∧ t.link.sending = (if t.link.queue = [] then .fill else .report) ∧
        (∀ ws, s.link.out = .words ws →
          t.link.out = .opening ws ((t.link.queue.head?.map reportCell).getD fillCell)) ∧
        (∀ l, t.laneSlots l = (s.laneSlots l).filter (fun x => x.complete || decide (x.content.stride = payloadClass))) ∧
        t.buffer.pool = s.buffer.pool + sumLanes (fun l => slotBlocks (s.misfits payloadClass l)) ∧
        t.counters.abandoned =
          min 4294967295 (s.counters.abandoned + sumLanes (fun l => (s.misfits payloadClass l).length)))

/-- Signal loss leaves UP for DOWN and a retrain word leaves UP for TRAINING, each with the latch set, LINK_DOWN asserted and the queue
discarded, everything else being kept; signal loss ends an attempt in TRAINING, and in DOWN both change nothing more (section 1.1).
In UP no RESTART reply waits. -/
def Obligations.LeavingUp : Prop :=
  ∀ s : State, s.running = true →
    (s.link.state = .up → s.link.holdsRestart = false →
      (∃ t, exec .signalLoss s = .next t ∧ t.link.queue = [] ∧ t.isAsserted .linkDown = true ∧
        reportsFrom { s with
          signal := false,
          link := { s.link with state := .down, lost := true, sending := .free, attempt := none, decided := false,
                                ownRetrain := false, out := .silent } } t) ∧
      (∃ t, exec .retrainWordReceived s = .next t ∧ t.link.queue = [] ∧ t.isAsserted .linkDown = true ∧
        reportsFrom { s with
          link := { s.link with state := .training, lost := true, sending := .free, attempt := some 0, decided := false,
                                ownRetrain := false, out := .words [.ability 4096 [1, 2, 4]] } } t)) ∧
    (s.link.state = .training → exec .signalLoss s = .next { s with
      signal := false, link := { s.link with state := .down, attempt := none, decided := false, out := .silent } }) ∧
    (s.link.state = .down → exec .signalLoss s = .next { s with signal := false } ∧ exec .retrainWordReceived s = .next s)

/-- Where the reply of an accepted RESTART is discarded as the link leaves UP, or has been sent, the RESTART reset takes place
(section 10.6). -/
def Obligations.RestartTakesPlace : Prop :=
  (∀ s : State, s.running = true → s.link.state = .up → s.link.holdsRestart = true →
    exec .signalLoss s = .next (resetTo .restart (leaveUp .down false { s with signal := false })) ∧
    exec .retrainWordReceived s = .next (resetTo .restart (leaveUp .training false s))) ∧
  (∀ (s : State) (tag : Nat) (rest : List Report), s.running = true → s.link.state = .up → s.link.sending = .report →
    s.link.queue = .reply 7 tag none .nothing :: rest →
    exec .reportSent s = .next (resetTo .restart { s with link := { s.link with queue := rest }.nextCell }))

/-- The reception classes of cells; and a cell too short for a header and a check word is counted as DAMAGED, ends the retrain run, adds
to the damage count, asserts CELL_DAMAGE at 17 and does nothing else.  Outside UP every cell is ignored.  A cell with a header is
disposed of by class and kind: content goes to the Cell Sorter, marked damaged where it is, and the leads are settled after it; FILL is
ignored; REPORT within the limit is WRONG_KIND; damaged MANAGE and cells beyond the limit are dropped (section 1.2).  That a cell of no
known kind counts WRONG_KIND in every class is notes/assumptions/35.md. -/
def Obligations.CellClasses : Prop :=
  (∀ (limit : Nat) (c : Cell),
    (limit < max c.lenField c.payload.length → c.checkGood = false → classOf limit (some c) = .overlongDamaged) ∧
    (limit < max c.lenField c.payload.length → c.checkGood = true → classOf limit (some c) = .overlong) ∧
    (max c.lenField c.payload.length ≤ limit → c.checkGood = false → classOf limit (some c) = .damaged) ∧
    (max c.lenField c.payload.length ≤ limit → c.checkGood = true → classOf limit (some c) = .good)) ∧
  (∀ (s : State) (bytes : List Byte) (cut : Bool), s.running = true → s.link.state = .up → bytes.length < 18 →
    ∃ t, exec (.cellReceived bytes cut) s = .next t ∧
      (16 ≤ s.link.damage → t.isAsserted .cellDamage = true) ∧
      reportsFrom { s with
        link := { s.link with retrainRun := 0, damage := min 17 (s.link.damage + 1) },
        counters := { s.counters with damaged := min 4294967295 (s.counters.damaged + 1) } } t) ∧
  (∀ (s : State) (bytes : List Byte) (cut : Bool), s.running = true → s.link.state ≠ .up →
    exec (.cellReceived bytes cut) s = .next s) ∧
  (∀ (s : State) (bytes : List Byte) (cut : Bool) (c : Cell), s.running = true → s.link.state = .up → readCell bytes cut = some c →
    let wrongs := min 4294967295 (s.counters.wrongKind + 1)
    let good : State := { s with
      link := { s.link with retrainRun := 0 }, counters := { s.counters with good := min 4294967295 (s.counters.good + 1) } }
    let bad : State := { s with
      link := { s.link with retrainRun := 0, damage := min 17 (s.link.damage + 1) },
      counters := { s.counters with damaged := min 4294967295 (s.counters.damaged + 1) } }
    (classOf (s.link.limit.getD 1024) (some c) = .good →
      (c.kind = .picture ∨ c.kind = .sound ∨ c.kind = .text →
        exec (.cellReceived bytes cut) s = .next (settleFrom good (sortCell c false good))) ∧
      (c.kind = .fill → exec (.cellReceived bytes cut) s = .next good) ∧
      (c.kind = .report ∨ c.kind = .wrong →
        exec (.cellReceived bytes cut) s = .next { good with counters := { good.counters with wrongKind := wrongs } })) ∧
    (classOf (s.link.limit.getD 1024) (some c) = .damaged →
      (c.kind = .picture ∨ c.kind = .sound ∨ c.kind = .text →
        ∃ u, reportsFrom bad u ∧ exec (.cellReceived bytes cut) s = .next (settleFrom u (sortCell c true u))) ∧
      (c.kind = .manage ∨ c.kind = .fill → ∃ t, reportsFrom bad t ∧ exec (.cellReceived bytes cut) s = .next t) ∧
      (c.kind = .report ∨ c.kind = .wrong →
        ∃ t, reportsFrom { bad with counters := { bad.counters with wrongKind := wrongs } } t ∧
          exec (.cellReceived bytes cut) s = .next t)) ∧
    (classOf (s.link.limit.getD 1024) (some c) = .overlong →
      exec (.cellReceived bytes cut) s = .next { s with
        link := { s.link with retrainRun := 0 },
        counters := { s.counters with
          overlong := min 4294967295 (s.counters.overlong + 1),
          wrongKind := if c.kind = .wrong then wrongs else s.counters.wrongKind } }) ∧
    (classOf (s.link.limit.getD 1024) (some c) = .overlongDamaged → s.link.retrainRun < 7 →
      ∃ t, exec (.cellReceived bytes cut) s = .next t ∧ reportsFrom { s with
        link := { s.link with retrainRun := s.link.retrainRun + 1, damage := min 17 (s.link.damage + 1) },
        counters := { s.counters with
          overlongDamaged := min 4294967295 (s.counters.overlongDamaged + 1),
          wrongKind := if c.kind = .wrong then wrongs else s.counters.wrongKind } } t))

/-- The eighth OVERLONG_DAMAGED cell in a row leaves UP for TRAINING, and the first attempt sends the retrain word before the ability
word (section 1.2).  No RESTART reply waits. -/
def Obligations.EighthOverlongDamagedRetrains : Prop :=
  ∀ (s : State) (bytes : List Byte) (cut : Bool) (c : Cell), s.running = true → s.link.state = .up →
    s.link.holdsRestart = false → s.link.retrainRun = 7 → readCell bytes cut = some c →
    classOf (s.link.limit.getD 1024) (some c) = .overlongDamaged →
    ∃ t, exec (.cellReceived bytes cut) s = .next t ∧ t.link.state = .training ∧ t.link.lost = true ∧ t.link.queue = [] ∧
      t.isAsserted .linkDown = true ∧ t.link.out = .words [.retrain, .ability 4096 [1, 2, 4]]

/-- A GOOD MANAGE cell is executed with 47 or fewer reports queued, and with 48 or more dropped with no effect but the "commands
dropped" counter (R14). -/
def Obligations.ManageCellAdmission : Prop :=
  (∀ (s : State) (c : Cell),
    (s.link.queue.length ≤ 47 → passManage c s = serveCell c.payload s) ∧
    (48 ≤ s.link.queue.length → passManage c s =
      { s with counters := { s.counters with commandsDropped := min 4294967295 (s.counters.commandsDropped + 1) } })) ∧
  (∀ (s : State) (bytes : List Byte) (cut : Bool) (c : Cell), s.running = true → s.link.state = .up →
    readCell bytes cut = some c → c.kind = .manage → classOf (s.link.limit.getD 1024) (some c) = .good →
    exec (.cellReceived bytes cut) s = .next (passManage c { s with
      counters := { s.counters with good := min 4294967295 (s.counters.good + 1) },
      link := { s.link with retrainRun := 0 } }))

/-- The Cell Sorter and the first tests of the Unit Assembler: what each drop counts, and that it changes nothing else (sections 2.2
and 2.3).  A cell that passes them reaches the slot of its unit or takes an EMPTY one.  There its fragment is placed with its block, its
presence and its marks, and completes the unit where it can; or it contradicts the unit and closes it as DAMAGED; or it finds no block,
and its unit is abandoned with the holds of an exhaustion (sections 2.3 and 2.4).  A fragment of a DAMAGED cell that contradicts is
dropped alone; that it takes no EMPTY slot is notes/assumptions/56.md. -/
def Obligations.ContentCellDrops : Prop :=
  (∀ (s : State) (c : Cell) (damaged : Bool), (∀ w ∈ s.wanted, w.comp ≠ c.comp ∨ w.index ≠ c.reel) →
    sortCell c damaged s = { s with counters := { s.counters with unwanted := min 4294967295 (s.counters.unwanted + 1) } }) ∧
  (∀ (s : State) (c : Cell) (damaged : Bool) (w : Wanted),
    s.wanted.find? (fun w => decide (w.comp = c.comp) && decide (w.index = c.reel)) = some w →
    w.reel.laneFor c.kind c.tag = none →
    sortCell c damaged s = { s with counters := { s.counters with unmapped := min 4294967295 (s.counters.unmapped + 1) } }) ∧
  (∀ (s : State) (l : Lane) (k u dur base : Nat) (f : Fragment), s.base k l = some base →
    (u < base →
      assemble l k u dur f s = { s with counters := { s.counters with stale := min 4294967295 (s.counters.stale + 1) } }) ∧
    (base + 3 < u →
      assemble l k u dur f s = { s with counters := { s.counters with ahead := min 4294967295 (s.counters.ahead + 1) } }) ∧
    (base ≤ u → u ≤ base + 3 → (∀ i, l ≠ .txt i) → dur ≤ u →
      assemble l k u dur f s = { s with counters := { s.counters with ahead := min 4294967295 (s.counters.ahead + 1) } }) ∧
    (base ≤ u → u ≤ base + 3 → u < dur → (∀ x ∈ s.laneSlots l, x.reel ≠ k ∨ x.unit ≠ u) → 4 ≤ (s.laneSlots l).length →
      assemble l k u dur f s = { s with counters := { s.counters with noSlot := min 4294967295 (s.counters.noSlot + 1) } }) ∧
    (base ≤ u → u ≤ base + 3 → u < dur → (∀ x ∈ s.laneSlots l, x.reel = k → x.unit = u → x.complete = true ∨ x.has f.index = true) →
      (∃ x ∈ s.laneSlots l, x.reel = k ∧ x.unit = u) →
      assemble l k u dur f s =
        { s with counters := { s.counters with duplicate := min 4294967295 (s.counters.duplicate + 1) } })) ∧
  (∀ (s : State) (l : Lane) (k u dur base : Nat) (f : Fragment), s.base k l = some base → base ≤ u → u ≤ base + 3 →
    (u < dur ∨ ∃ i, l = .txt i) →
    (∀ x, (s.laneSlots l).find? (fun x => decide (x.reel = k) && decide (x.unit = u)) = some x →
      assemble l k u dur f s = placeFragment l x f s) ∧
    ((∀ x ∈ s.laneSlots l, x.reel ≠ k ∨ x.unit ≠ u) → (s.laneSlots l).length < 4 →
      (f.damaged = false ∨ (s.freshSlot k u).contradicts l f = false →
        assemble l k u dur f s = placeFragment l (s.freshSlot k u) f
          { s.setSlots l (s.laneSlots l ++ [s.freshSlot k u]) with draws := s.draws + 1 }) ∧
      (f.damaged = true → (s.freshSlot k u).contradicts l f = true → assemble l k u dur f s =
        { s with counters := { s.counters with oversize := min 4294967295 (s.counters.oversize + 1) } }))) ∧
  (∀ (s : State) (l : Lane) (x : AsmSlot) (f : Fragment), x.complete = false → x.has f.index = false →
    let dropped : State := { s with counters := { s.counters with oversize := min 4294967295 (s.counters.oversize + 1) } }
    let region := f.index * x.content.stride / 65536
    let held := f.payload.length = 0 ∨ region ∈ x.regions
    (x.contradicts l f = true ↔ sizeLimit l < f.index * x.content.stride + f.payload.length ∨
      (∃ j, x.last = some j ∧ (j < f.index ∨ f.lastFlag = true ∧ j ≠ f.index)) ∨
      (f.lastFlag = true ∧ ∃ g ∈ x.content.frags, f.index < g.1)) ∧
    (x.contradicts l f = true → f.damaged = true → placeFragment l x f s = dropped) ∧
    (x.contradicts l f = true → f.damaged = false → placeFragment l x f s =
      updateWanted (joinLane l (putSlot l { x with damaged := true, complete := true, size := x.extent } dropped))) ∧
    (x.contradicts l f = false → ¬ held → s.buffer.pool = 0 →
      (s.laneSlots l).filter (fun y => decide (y.reel = x.reel) && decide (y.unit = x.unit)) = [x] →
      ∃ u, placeFragment l x f s = exhaustPool u ∧ reportsFrom
        { s.setSlots l ((s.laneSlots l).filter (fun y => !(decide (y.reel = x.reel) && decide (y.unit = x.unit)))) with
          buffer := { s.buffer with pool := x.regions.length },
          counters := { s.counters with abandoned := min 4294967295 (s.counters.abandoned + 1) } } u) ∧
    (x.contradicts l f = false → held ∨ 0 < s.buffer.pool →
      ∃ y : AsmSlot, (placeFragment l x f s = updateWanted (joinLane l (putSlot l y
          { s with buffer := { s.buffer with pool := if held then s.buffer.pool else s.buffer.pool - 1 } }))) ∧
        y.reel = x.reel ∧ y.unit = x.unit ∧
        y.content = { x.content with frags := x.content.frags ++ [(f.index, f.payload)] } ∧
        y.regions = (if held then x.regions else x.regions ++ [region]) ∧
        y.last = (if f.lastFlag then some f.index else x.last) ∧
        (y.complete = true ↔ ∃ j, y.last = some j ∧ ∀ i, i ≤ j → i = f.index ∨ x.has i = true) ∧
        (y.damaged = true ↔ x.damaged = true ∨ f.damaged = true ∨
          (y.last ≠ some f.index ∧ f.payload.length < x.content.stride) ∨ (y.complete = true ∧ y.size = 0)) ∧
        (∀ j g, y.complete = true → y.last = some j → y.content.frags.find? (fun g => decide (g.1 = j)) = some g →
          y.size = j * x.content.stride + g.2.length)))

/-- The joining test of a lane joins the complete base unit of a reel in turn, one after another, until there is none.  In turn are every
wanted reel on a text lane, and elsewhere the first wanted reel that has not finished on the lane.  A unit that joins leaves its slot,
is counted, moves its reel's base to the next unit number, and goes to the tail of a picture or sound lane's queue as the record of its
slot, or to the Cue Engine; the units of a reel join in rising unit number.  Every other lane, and on a picture or sound lane the
free pool, stay as they are.  A reel that leaves the wanted set has its slots emptied, and then no complete base unit whose turn has come
waits on a picture or sound lane; no other reel's slot is emptied but by joining (sections 2.1, 2.5 and 3.2). -/
def Obligations.UnitsJoinInOrder : Prop :=
  ∀ (s : State) (l : Lane),
    (joinLane l s).joiner l = none ∧
    (∀ m, m ≠ l → (joinLane l s).queue m = s.queue m ∧ (joinLane l s).laneSlots m = s.laneSlots m) ∧
    (s.joiner l = none → joinLane l s = s) ∧
    (∀ x, s.joiner l = some x → joinLane l s = joinLane l (joinUnit l x s)) ∧
    (s.joiner l = none ↔ ∀ w ∈ s.turns l, ∀ x ∈ s.laneSlots l, x.reel = w.index → w.bases.get l = some x.unit → x.complete = false) ∧
    (∀ x, s.joiner l = some x → x ∈ s.laneSlots l ∧ x.complete = true ∧
      ∃ w ∈ s.turns l, w.index = x.reel ∧ w.bases.get l = some x.unit) ∧
    (∀ i, l = .txt i → s.turns l = s.wanted.filter (fun w => (w.bases.get l).isSome)) ∧
    ((∀ i, l ≠ .txt i) → ∀ w, w ∈ s.turns l → (∃ b, w.bases.get l = some b ∧ b < w.reel.dur) ∧
      ∃ before after, s.wanted = before ++ w :: after ∧ ∀ v ∈ before, ∀ b, v.bases.get l = some b → v.reel.dur ≤ b) ∧
    ((∀ i, l ≠ .txt i) → s.turns l = [] → ∀ w ∈ s.wanted, ∀ b, w.bases.get l = some b → w.reel.dur ≤ b) ∧
    (∀ x : AsmSlot,
      (joinUnit l x s).laneSlots l = (s.laneSlots l).filter (fun y => !(decide (y.reel = x.reel) && decide (y.unit = x.unit))) ∧
      (joinUnit l x s).counters.assembled = min 4294967295 (s.counters.assembled + 1) ∧
      (∀ b, s.base x.reel l = some b → (joinUnit l x s).base x.reel l = some (x.unit + 1)) ∧
      (∀ k m, k ≠ x.reel ∨ m ≠ l → (joinUnit l x s).base k m = s.base k m) ∧
      ((∀ i, l ≠ .txt i) → (joinUnit l x s).queue l = s.queue l ++ [
          { reel := x.reel, unit := x.unit, size := x.size, regions := x.regions, damaged := x.damaged, content := x.content }] ∧
        (joinUnit l x s).buffer.pool = s.buffer.pool) ∧
      (∀ i, l = .txt i → (joinUnit l x s).queue l = s.queue l ∧ (joinUnit l x s).buffer.pool = s.buffer.pool + x.regions.length ∧
        (joinUnit l x s).cues = (takeCueBlock i x.record s).cues)) ∧
    ((∀ i, l ≠ .txt i) → ∃ joined : List AsmSlot,
      (joinLane l s).queue l = s.queue l ++ joined.map AsmSlot.record ∧ (joinLane l s).buffer.pool = s.buffer.pool ∧
      (∀ x ∈ joined, x ∈ s.laneSlots l ∧ x.complete = true ∧ x ∉ (joinLane l s).laneSlots l) ∧
      joined.Pairwise (fun x y => x.reel = y.reel → x.unit < y.unit) ∧
      (joined ≠ [] → (joinLane l s).counters.assembled = min 4294967295 (s.counters.assembled + joined.length))) ∧
    (∀ k i, l = .txt i → (removeReel k s).laneSlots l = (s.laneSlots l).filter (fun x => decide (x.reel ≠ k)) ∧
      (removeReel k s).queue l = s.queue l) ∧
    (∀ k, (∀ i, l ≠ .txt i) → (removeReel k s).joiner l = none ∧ ∃ joined : List AsmSlot,
      (removeReel k s).queue l = s.queue l ++ joined.map AsmSlot.record ∧
      (∀ x ∈ joined, x ∈ s.laneSlots l ∧ x.complete = true ∧ x.reel ≠ k) ∧
      ∀ x ∈ s.laneSlots l, x.reel ≠ k → x ∈ (removeReel k s).laneSlots l ∨
        ∃ y ∈ joined, y.reel = x.reel ∧ y.unit = x.unit)

/-- A REPORT cell that has left removes the oldest report, starts the cell of the next report or FILL, and clears the latched fields
that a READ_STATUS reply carried set; a FILL cell that has left starts the next; and no report has a payload of more than 1,024 bytes,
READ_LOG returning 16 records at most (sections 1.3, 10.4 and 11.3).  The result bytes that chapter 11 does not spell out are free, and
their bound is the model's (notes/assumptions/16.md). -/
def Obligations.OutboundCellsLeave : Prop :=
  (∀ (s : State) (r : Report) (rest : List Report), s.running = true → s.link.state = .up → s.link.sending = .report →
    s.link.queue = r :: rest → r.isRestart = false →
    ∃ t, exec .reportSent s = .next t ∧ t.link.queue = rest ∧
      t.link.sending = (if rest = [] then .fill else .report) ∧
      t.link.out = .cell ((rest.head?.map reportCell).getD fillCell) ∧
      (∀ tag st, r = .reply 4 tag none (.status st) →
        t.link.lost = (s.link.lost && !st.linkLost) ∧ t.mgmt.unread = (s.mgmt.unread && !st.unread)) ∧
      ((∀ tag st, r ≠ .reply 4 tag none (.status st)) → t.link.lost = s.link.lost ∧ t.mgmt = s.mgmt) ∧
      t.timeline = s.timeline ∧ t.events = s.events ∧ t.counting = s.counting ∧ t.counters = s.counters) ∧
  (∀ s : State, s.running = true → s.link.state = .up → s.link.sending = .fill →
    exec .fillCellSent s = .next { s with link := s.link.nextCell }) ∧
  (∀ r : Report,
    (∀ code tag refusal lo hi n records, r = .reply code tag refusal (.log lo hi n records) → records.length ≤ 16) →
    (reportPayload r).length ≤ 1024)

/-- Admission to the report queue: outside UP every report is discarded; below 64 a report joins the tail; at 64 an EVENT is discarded and
another report takes the place of the newest EVENT not in transmission, or is discarded; a HOLD replaces in place an earlier HOLD of
its lane that is not in transmission; the queue never grows beyond 64 (section 1.3).  A reel that joins the wanted set has its WANT
queued and its bases at the first unit still to come; where the only member has finished on its pictures, the next reel with an instant
still to come joins it with its WANT, or takes its place where every instant of that member has been taken (section 2.1; the case of a
next reel with no instant to come is notes/assumptions/55.md). -/
def Obligations.ReportAdmission : Prop :=
  (∀ (l : LinkPort) (r : Report),
    (l.state ≠ .up → l.offer r = l) ∧
    (l.state = .up → r.holdLane = none → l.queue.length < 64 → l.offer r = { l with queue := l.queue ++ [r] }) ∧
    (l.state = .up → r.isEvent = true → 64 ≤ l.queue.length → l.offer r = l) ∧
    (∀ before e after, l.state = .up → r.isEvent = false → r.holdLane = none → l.queue = before ++ e :: after →
      64 ≤ l.queue.length → l.inFlight ≤ before.length → e.isEvent = true → (∀ x ∈ after, x.isEvent = false) →
      l.offer r = { l with queue := before ++ after ++ [r] }) ∧
    (l.state = .up → r.isEvent = false → r.holdLane = none → 64 ≤ l.queue.length →
      (∀ x ∈ l.queue.drop l.inFlight, x.isEvent = false) → l.offer r = l) ∧
    (∀ lane before after (old : Report), l.state = .up → r.holdLane = some lane → l.queue = before ++ old :: after →
      l.inFlight ≤ before.length → old.holdLane = some lane → (∀ x ∈ before.drop l.inFlight, x.holdLane ≠ some lane) →
      l.offer r = { l with queue := before ++ r :: after }) ∧
    (∀ lane, l.state = .up → r.holdLane = some lane → (∀ x ∈ l.queue.drop l.inFlight, x.holdLane ≠ some lane) →
      l.queue.length < 64 → l.offer r = { l with queue := l.queue ++ [r] }) ∧
    (l.queue.length ≤ 64 → (l.offer r).queue.length ≤ 64)) ∧
  (∀ (s : State) (k : Nat) (row : ReelRow), s.row k = some row →
    ∃ w : Wanted, addReel k s = queueReport (.want s.boundIdent k row.reel.ident row.reel.entry false)
        { s with wanted := s.wanted ++ [w] } ∧
      w.comp = s.boundIdent ∧ w.index = k ∧ w.reel = row.reel ∧ w.finished = false ∧
      ∀ l, w.bases.get l = if l ∈ row.reel.lanes then some (s.firstBase k row.reel l) else none) ∧
  (∀ (s : State) (w : Wanted) (next : ReelRow), s.wanted = [w] → w.finished = true → s.row (w.index + 1) = some next →
    s.reelTaken (w.index + 1) next.reel = false →
    let want : Report := .want s.boundIdent (w.index + 1) next.reel.ident next.reel.entry false
    (s.instantsTaken w = false → ∃ v, updateWanted s = queueReport want { s with wanted := [w, v] } ∧
      v.comp = s.boundIdent ∧ v.index = w.index + 1 ∧ v.reel = next.reel) ∧
    (s.instantsTaken w = true → ∃ v rest, (updateWanted s).wanted = v :: rest ∧
      v.comp = s.boundIdent ∧ v.index = w.index + 1 ∧ v.reel = next.reel ∧
      (∀ l, ∀ x ∈ (updateWanted s).laneSlots l, x.reel ≠ w.index) ∧
      (s.link.state = .up → s.link.queue.length < 64 → want ∈ (updateWanted s).link.queue)))

/-! ## Lead control -/

/-- The refresh timer of a HELD lane restarts at half the hold time, and a HOLD is queued exactly where the lead and BUFFER_FULL call
for one.  An exhaustion of the pool asserts BUFFER_FULL and holds each lane at or above its effective low mark, with a HOLD for each and
the refresh timers that run going on; blocks that return to the pool deassert BUFFER_FULL where they bring it from below 2,048 to 2,048
or more, and change nothing else (sections 3.4 and 3.5; the order of an exhaustion's HOLDs is notes/assumptions/57.md). -/
def Obligations.HoldRefreshFires : Prop :=
  (∀ (s : State) (l : AvLane), s.running = true → (s.hold l).held = true →
    let s' := s.setHold l { s.hold l with refresh := some (s.mgmt.limits.holdMs * 48) }
    ((s.isAsserted .bufferFull = false ∧ s.holdMark l < (s.hold l).lead) ∨
      (s.isAsserted .bufferFull = true ∧ s.effLow l ≤ (s.hold l).lead) →
        exec (.holdRefreshTimer l) s = .next (queueHold l s.mgmt.limits.holdMs s')) ∧
    (¬ ((s.isAsserted .bufferFull = false ∧ s.holdMark l < (s.hold l).lead) ∨
      (s.isAsserted .bufferFull = true ∧ s.effLow l ≤ (s.hold l).lead)) →
        exec (.holdRefreshTimer l) s = .next s')) ∧
  (∀ s : State,
    (exhaustPool s).isAsserted .bufferFull = true ∧ reportsFrom { s with holds := (exhaustPool s).holds } (exhaustPool s) ∧
    ∀ l, ((s.hold l).lead < s.effLow l → (exhaustPool s).hold l = s.hold l) ∧
      (s.effLow l ≤ (s.hold l).lead →
        (exhaustPool s).hold l = { s.hold l with
          held := true, refresh := if (s.hold l).held then (s.hold l).refresh else some (s.mgmt.limits.holdMs * 48) } ∧
        (s.link.state = .up → s.link.queue.length ≤ 56 →
          .hold l (s.holdTags l) s.mgmt.limits.holdMs ∈ (exhaustPool s).link.queue))) ∧
  (∀ (n : Nat) (s : State),
    let s' : State := { s with buffer := { s.buffer with pool := s.buffer.pool + n } }
    (s.buffer.pool < 2048 → 2048 ≤ s.buffer.pool + n →
      (returnBlocks n s).isAsserted .bufferFull = false ∧ reportsFrom s' (returnBlocks n s)) ∧
    (2048 ≤ s.buffer.pool ∨ s.buffer.pool + n < 2048 → returnBlocks n s = s'))

/-- In PLAYING the lead of a HELD lane that falls with P below the effective low mark opens the lane and stops its refresh timer
(section 3.4).  That the command moves P forward by what the lead still has to fall, from any lead, and serves nothing that lies in
between, is the model's choice (notes/assumptions/4.md and 53.md). -/
def Obligations.LeadFallOpensLane : Prop :=
  ∀ (s : State) (l : AvLane), s.running = true → s.timeline.state = .playing → (s.hold l).held = true →
    (s.hold l).lead = s.leadNow l → 0 < s.effLow l →
    ∃ t, exec (.leadFallToLowMark l) s = .next t ∧ (t.hold l).held = false ∧ (t.hold l).refresh = none ∧
      (t.hold l).lead < t.effLow l ∧ (t.hold l).pace = (s.hold l).pace ∧ t.buffer = s.buffer ∧ t.mgmt = s.mgmt ∧
      t.slots = s.slots ∧ t.wanted = s.wanted ∧ t.comps = s.comps ∧ t.clock = s.clock ∧ t.schedule = s.schedule ∧
      t.counting = s.counting ∧ t.store = s.store ∧ t.sound = s.sound ∧ t.sync = s.sync ∧ t.cues = s.cues ∧
      t.picture = s.picture ∧ t.events = s.events ∧ t.actions = s.actions ∧ t.counters = s.counters ∧
      t.timeline = { s.timeline with p := t.timeline.p }

/-- The pace value after a lane's outcome, and the marks that it moves.  Where the leads are settled after a change, a lane whose lead lies
above the holding mark, and lay at or below it or under other marks before the change, is held with a HOLD; a HELD lane whose lead lies
below its effective low mark is opened with a HOLD of duration 0; any other lane only takes its lead.  A picture or sound instant settles
the leads with its outcomes, a HOLD carrying the tags that the wanted set still gives, before the wanted set follows the instant, and once
more after it (sections 3.4, 5.4 and 6.1; the order of the reports of one instant is notes/assumptions/70.md). -/
def Obligations.PaceFollowsOutcome : Prop :=
  ∀ (s : State) (l : AvLane),
    ((paceOutcome l true s).hold l).pace = 31 ∧ ((paceOutcome l false s).hold l).pace = (s.hold l).pace - 1 ∧
    (∀ m, m ≠ l → ∀ b, (paceOutcome l b s).hold m = s.hold m) ∧
    (paceOutcome l true s).effLow l = 2 * s.lowMark l ∧
    ((s.hold l).pace ≤ 1 → (paceOutcome l false s).effLow l = s.lowMark l) ∧
    (∀ before : State,
      let t := settleLeads before s
      let rises := s.holdMark l < s.leadNow l ∧
        ((before.hold l).lead ≤ before.holdMark l ∨ before.lowMark l ≠ s.lowMark l ∨ before.highMark l ≠ s.highMark l)
      let falls := (s.hold l).held = true ∧ s.leadNow l < s.effLow l
      t.wanted = s.wanted ∧ t.buffer = s.buffer ∧ t.timeline = s.timeline ∧
      (rises → t.hold l = { s.hold l with
          lead := s.leadNow l, held := true, refresh := some (s.mgmt.limits.holdMs * 48) } ∧
        (s.link.state = .up → s.link.queue.length ≤ 58 → .hold l (s.holdTags l) s.mgmt.limits.holdMs ∈ t.link.queue)) ∧
      (falls → t.hold l = { s.hold l with lead := s.leadNow l, held := false, refresh := none } ∧
        (s.link.state = .up → s.link.queue.length ≤ 58 → .hold l (s.holdTags l) 0 ∈ t.link.queue)) ∧
      (¬ rises → ¬ falls → t.hold l = { s.hold l with lead := s.leadNow l })) ∧
    (∀ (k u : Nat) (row : ReelRow), s.row k = some row →
      (∃ m, soundInstant k u s = settleLeads (settleLeads s m) (updateWanted (settleLeads s m)) ∧
        m.sound.cursor = s.unitAfter k u ∧ (∀ a, m.holdTags a = s.holdTags a) ∧
        ∀ a, (m.hold a).held = (s.hold a).held ∧ (m.hold a).lead = (s.hold a).lead) ∧
      (∃ m, releaseUnit k u row s = settleLeads (settleLeads s m) (updateWanted (settleLeads s m)) ∧
        m.timeline.cursor = (s.unitAfter k u).map UnitRef.cursor ∧ (∀ a, m.holdTags a = s.holdTags a) ∧
        ∀ a, (m.hold a).held = (s.hold a).held ∧ (m.hold a).lead = (s.hold a).lead))

/-! ## Clock, heartbeat and schedule -/

/-- SECOND_ROLL advances the clock by one second, wrapping after day 65,535; in reset the clock alone takes it; in a running part the
heartbeat timer and the damage count take it, a minute roll evaluates the allowances, and the head check and a READY showing follow
(section 4.5).  Their order within one roll is the model's (notes/assumptions/21.md), and so is that the command rolls the second at any
tick and sets the tick to 0 (notes/assumptions/49.md). -/
def Obligations.SecondRollServed : Prop :=
  (∀ t : TimeOfDay, timeInRange t = true →
    timeInRange (nextSecond t) = true ∧
    (t ≠ { day := 65535, hour := 23, minute := 59, second := 59 } → secsOf (nextSecond t) = secsOf t + 1) ∧
    (t = { day := 65535, hour := 23, minute := 59, second := 59 } → nextSecond t = timeZero)) ∧
  (∀ s : State, s.powered = true →
    (s.resetPin = true → exec .secondRoll s = .next { s with
      clock := { s.clock with now := nextSecond s.clock.now, tick := 0 } }) ∧
    (s.resetPin = false → ∃ t, exec .secondRoll s = .next (checkStart (checkHead t)) ∧
      t.clock = { s.clock with now := nextSecond s.clock.now, tick := 0 } ∧
      (checkStart (checkHead t)).clock = t.clock ∧
      t.link.damage = 0 ∧ t.schedule = { s.schedule with heartbeat := min 3600 (s.schedule.heartbeat + 1) } ∧
      t.timeline = s.timeline ∧ t.comps = s.comps ∧ t.store = s.store ∧ t.mgmt = s.mgmt ∧ t.buffer = s.buffer ∧
      (s.clock.now.second < 59 → t.counting = s.counting) ∧
      (59 ≤ s.clock.now.second → ∀ i, t.place i =
        { s.place i with state := deriveState { s with clock := t.clock } (s.place i).record }) ∧
      (s.mgmt.limits.heartbeat ≠ 0 → s.mgmt.limits.heartbeat ≤ min 3600 (s.schedule.heartbeat + 1) →
        t.isAsserted .heartbeatLost = true) ∧
      (s.link.damage = 0 → t.isAsserted .cellDamage = false) ∧
      (s.schedule.queue = [] → s.timeline.state ≠ .ready → checkStart (checkHead t) = t)))

/-- The head check: late heads are missed, heads not due or held back wait, and a due head is started or follows its refusal.  A missed
head leaves the queue and SCHEDULE_MISSED occurs.  Where the log has room and the store queue holds fewer than 5 entries, a MISSED record
with the reason, the entry's identities, allowance and start minute takes the next record number, in a free place or in that of the
first exported record, which leaves the log; its creation entry is queued, and the two log events follow the unexported records; otherwise no
record is created and nothing else changes (sections 4.7 and 8.3; that the log events come before SCHEDULE_MISSED is notes/assumptions/81.md, and their own order 93.md). -/
def Obligations.ScheduleHeadCheck : Prop :=
  (∀ (s : State) (e : SchedEntry) (rest : List SchedEntry), s.schedule.queue = e :: rest →
    (entrySecs e + s.mgmt.limits.lateMinutes * 60 < s.nowSecs → checkHead s = missHead e .late s) ∧
    (s.nowSecs ≤ entrySecs e + s.mgmt.limits.lateMinutes * 60 →
      (s.nowSecs + s.mgmt.limits.cueAdvance < entrySecs e → checkHead s = s) ∧
      (entrySecs e ≤ s.nowSecs + s.mgmt.limits.cueAdvance →
        (s.timeline.state ≠ .idle ∨ s.isAsserted .heartbeatLost = true → checkHead s = s) ∧
        (s.timeline.state = .idle → s.isAsserted .heartbeatLost = false →
          (∀ i c b, startTests (s.headCall e) s = .ok (i, c, b) →
            checkHead s = acceptStart i c b (s.headCall e) { s with schedule := { s.schedule with queue := rest } }) ∧
          (startTests (s.headCall e) s = .error .notFound → checkHead s = missHead e .notFound s) ∧
          (startTests (s.headCall e) s = .error .noAllowance → checkHead s = missHead e .noAllowance s) ∧
          (∀ r, startTests (s.headCall e) s = .error r → r ≠ .notFound → r ≠ .noAllowance → checkHead s = s))))) ∧
  (∀ (s : State) (e : SchedEntry) (rest : List SchedEntry) (why : MissReason), s.schedule.queue = e :: rest →
    let t := missHead e why s
    (t.event .scheduleMissed).count = min 65535 ((s.event .scheduleMissed).count + 1) ∧
    reportsFrom { s with schedule := { s.schedule with queue := rest }, counting := t.counting } t ∧
    (s.logRoom = false ∨ 5 ≤ s.counting.queue.length → t.counting = s.counting) ∧
    (s.logRoom = true → s.counting.queue.length < 5 → ∃ (r : LogRecord) (kept : List LogRecord),
      t.counting = { s.counting with
        log := kept ++ [r], next := s.counting.next + 1, header := t.counting.header,
        queue := s.counting.queue ++ [{ kind := .creation, record := some r, place := none, marks := [], owed := none }] } ∧
      r = { place := r.place, number := s.counting.next, comp := e.comp, slot := none, allowance := e.allowance,
            serialAtOpen := none, usedAtOpen := none, sched := some e.ident,
            start := { day := e.day, hour := e.minute / 60, minute := e.minute % 60, second := 0 },
            ended := some s.clock.now, endUnset := !s.clock.isSet, presented := 0, repeated := 0, stalls := 0,
            outcome := .missed, miss := some why, charged := false, exported := false } ∧
      (s.counting.log.length < 512 → kept = s.counting.log ∧ r.place < 512 ∧ ∀ x ∈ kept, x.place ≠ r.place) ∧
      (512 ≤ s.counting.log.length → ∃ old, s.counting.log.find? LogRecord.exported = some old ∧ r.place = old.place ∧
        kept = s.counting.log.filter (fun x => decide (x.number ≠ old.number))) ∧
      (t.isAsserted .logNearlyFull = true ↔ 480 ≤ t.unexported) ∧
      (t.isAsserted .logFull = true ↔ 512 ≤ t.unexported ∨ 4294967295 < t.counting.next)))

/-- Every command taken for execution restarts the heartbeat timer and deasserts HEARTBEAT_LOST, and that alone; the timer's reaching a
nonzero period asserts HEARTBEAT_LOST, and a period of 0 asserts nothing (section 4.6).  HEARTBEAT_EXPIRY taking the timer to the period
where it is below it is the model's choice (notes/assumptions/4.md and 36.md); the command changes nothing besides.  That a command's
restart of the timer comes before its own effects is the model's choice too (notes/assumptions/90.md). -/
def Obligations.HeartbeatTimer : Prop :=
  ∀ s : State,
    ((acceptCommand s).schedule.heartbeat = 0 ∧ (acceptCommand s).isAsserted .heartbeatLost = false ∧
      reportsFrom { s with schedule := { s.schedule with heartbeat := 0 } } (acceptCommand s)) ∧
    (s.running = true → s.mgmt.limits.heartbeat ≠ 0 →
      ∃ t, exec .heartbeatExpiry s = .next t ∧ t.isAsserted .heartbeatLost = true ∧
        reportsFrom { s with schedule := { s.schedule with
          heartbeat := max s.schedule.heartbeat s.mgmt.limits.heartbeat } } t) ∧
    (s.running = true → s.mgmt.limits.heartbeat = 0 → exec .heartbeatExpiry s = .next s)

/-! ## Management commands -/

/-- Each of the 28 commands is refused STARTING before start-up is COMPLETE, and BUSY while a RESTART is pending; it restarts the
heartbeat timer all the same.  A cell that names none of the 28 is refused UNKNOWN_COMMAND under its own tag, and one with no readable
tag under the tag 0 (section 10.1). -/
def Obligations.GeneralRefusals : Prop :=
  (∀ (c : Instr) (code tag : Nat) (s : State), c.command = some (code, tag) → s.running = true →
    (s.counting.startup ≠ .complete → exec c s = .next (refuse code tag .starting (acceptCommand s))) ∧
    (s.counting.startup = .complete → s.mgmt.restartPending = true →
      exec c s = .next (refuse code tag .busy (acceptCommand s)))) ∧
  (∀ s : State, s.serves = true →
    (∀ (code t0 t1 : Byte) (args : List Byte),
      exec (.unknownCommandCell (code :: t0 :: t1 :: args)) s =
        .next (refuse code.toNat (t0.toNat + 256 * t1.toNat) .unknownCommand (acceptCommand s)) ∧
      (code.toNat = 0 ∨ 28 < code.toNat →
        serveCell (code :: t0 :: t1 :: args) s =
          refuse code.toNat (t0.toNat + 256 * t1.toNat) .unknownCommand (acceptCommand s))) ∧
    (∀ payload : List Byte, payload.length < 3 →
      ∃ code, exec (.unknownCommandCell payload) s = .next (refuse code 0 .unknownCommand (acceptCommand s)) ∧
        serveCell payload s = refuse code 0 .unknownCommand (acceptCommand s)))

/-- IDENTIFY, READ_STATUS, READ_COUNTERS, KEEPALIVE, READ_SCHEDULE, READ_EVENT and READ_LOG reply at once with what they read and change
nothing else but the counter snapshot (sections 8.3, 10.4 and 10.5).  That READ_LOG of an empty log carries no lowest and no highest
number is the model's choice (notes/assumptions/40.md), and so is that every value is taken after the command's own heartbeat restart
(notes/assumptions/90.md and 94.md). -/
def Obligations.ReadingCommandsReply : Prop :=
  ∀ (tag : Nat) (s : State), s.serves = true →
    exec (.identify tag) s = .next (reply 1 tag (.identity 0x0C71 0x0460 2 32768 10) (acceptCommand s)) ∧
    exec (.readStatus tag) s = .next (reply 4 tag (.status (acceptCommand s).status) (acceptCommand s)) ∧
    exec (.readCounters tag) s = .next (reply 5 tag (.counters (acceptCommand s).takeSnapshot)
      { acceptCommand s with mgmt := { s.mgmt with snapshot := some (acceptCommand s).takeSnapshot } }) ∧
    exec (.keepalive tag) s = .next
      (reply 6 tag (.heartbeat s.mgmt.limits.heartbeat s.schedule.heartbeat) (acceptCommand s)) ∧
    exec (.readSchedule tag) s = .next (reply 28 tag (.schedule s.schedule.queue) (acceptCommand s)) ∧
    (∀ kind : Fin 26, exec (.readEvent tag kind.val) s =
      .next (reply 27 tag (.events [(kind.val, (acceptCommand s).events[kind])]) (acceptCommand s))) ∧
    (∀ first count, 1 ≤ count → count ≤ 16 → exec (.readLog tag first count) s = .next (reply 16 tag
      (.log ((s.counting.log.head?).map LogRecord.number) ((s.counting.log.getLast?).map LogRecord.number)
        (s.counting.log.filter (fun r => !r.exported)).length
        ((s.counting.log.filter (fun r => decide (first ≤ r.number))).take count)) (acceptCommand s))) ∧
    (∀ kind, 26 ≤ kind → exec (.readEvent tag kind) s = .next (refuse 27 tag .badArgument (acceptCommand s))) ∧
    (∀ first count, count = 0 ∨ 16 < count →
      exec (.readLog tag first count) s = .next (refuse 16 tag .badArgument (acceptCommand s)))

/-- RESTART sets restart pending and queues its reply behind the reports that wait; the rest of the part goes on.  Outside UP
the reply is discarded and the RESTART reset takes place at once (section 10.6). -/
def Obligations.RestartWaitsForReply : Prop :=
  ∀ (tag : Nat) (s : State), s.serves = true →
    (s.link.state = .up → (acceptCommand s).link.queue.length < 64 → exec (.restart tag) s = .next { acceptCommand s with
      mgmt := { s.mgmt with restartPending := true },
      link := { (acceptCommand s).link with queue := (acceptCommand s).link.queue ++ [.reply 7 tag none .nothing] } }) ∧
    (s.link.state ≠ .up → s.link.holdsRestart = false →
      exec (.restart tag) s = .next (resetTo .restart { acceptCommand s with mgmt := { s.mgmt with restartPending := true } }))

/-- SET_CLOCK in range sets the clock with tick 0, deasserts CLOCK_UNSET and makes a second roll and a minute roll, the heartbeat timer
finding 0 or 1; out of range it is refused and the clock stands (section 4.5; the timer and the roll are notes/assumptions/18.md, and CLOCK_UNSET's place before the roll
88.md). -/
def Obligations.SetClockSets : Prop :=
  ∀ (tag : Nat) (time : TimeOfDay) (s : State), s.serves = true →
    (timeInRange time = true → ∃ t n, exec (.setClock tag time) s =
        .next (reply 2 tag (.clock s.clock.now time) (serveRoll true t)) ∧
      t.clock = { isSet := true, now := time, tick := 0 } ∧ (serveRoll true t).clock = t.clock ∧ t.isAsserted .clockUnset = false ∧ n ≤ 1 ∧
      t.schedule = { queue := s.schedule.queue, heartbeat := n } ∧ t.timeline = s.timeline) ∧
    (timeInRange time = false → exec (.setClock tag time) s = .next (refuse 2 tag .badArgument (acceptCommand s)))

/-- SET_LIMITS with well-formed settings installs the clamped limits, has the owning blocks take them, and replies with all 18 values; a
malformed list is refused and no limit changes.  A named limit takes its value clamped into its range, a high mark against the low mark
of its class as the command leaves it; an unnamed one stays, but for a high mark that its low mark raises.  The clamped mark of a reply
stands where a named limit differs from its given value or an unnamed one from what it was.  Whatever is named, limits in their ranges
stay in them, each high mark 48,000 or more above its low mark, and the reset values are in range (section 10.3).  The owning blocks take
new limits: the leads are settled against the new marks; a CUEING showing follows the start lead, and else is abandoned where its cue timer
exceeds the cue limit, as is a READY one that falls back to CUEING; a STALLED one follows the resume lead, and else is abandoned where its
stall timer exceeds the stall limit; in every other state the showing stands.  Where the warn threshold changes, the two warnings follow
the allowances.  Pins, compositions, clock, schedule, store and P stay (sections 3.4, 5.3, 5.7 and 8.6; the order of the effects is
notes/assumptions/22.md). -/
def Obligations.SetLimitsInstalls : Prop :=
  (∀ (tag : Nat) (settings : List LimitArgs) (s : State), s.serves = true →
    (settings = [] ∨ 18 < settings.length ∨ (∃ a ∈ settings, 17 < a.number) ∨ ¬ (settings.map LimitArgs.number).Nodup →
      exec (.setLimits tag settings) s = .next (refuse 3 tag .badArgument (acceptCommand s))) ∧
    (settings ≠ [] → settings.length ≤ 18 → (∀ a ∈ settings, a.number ≤ 17) → (settings.map LimitArgs.number).Nodup →
      exec (.setLimits tag settings) s = .next (reply 3 tag
        (.limits (limitReply s.mgmt.limits (s.mgmt.limits.apply settings) settings))
        (applyLimits (s.mgmt.limits.apply settings) (acceptCommand s))) ∧
      (applyLimits (s.mgmt.limits.apply settings) (acceptCommand s)).mgmt =
        { s.mgmt with limits := s.mgmt.limits.apply settings })) ∧
  (∀ (new : Limits) (s : State),
    let u := settleLeads s { s with mgmt := { s.mgmt with limits := new } }
    let t := applyLimits new s
    let cueOver := new.cueSeconds * 96000 < s.timeline.cueTimer
    let stallOver := ∃ n, s.timeline.stallTimer = some n ∧ new.stallSeconds * 96000 < n
    let abandoned := t.timeline.state = .closing ∧ t.timeline.outcome = some .abandoned ∧ t.wanted = [] ∧
      t.counting.places = s.counting.places
    u = { s with mgmt := { s.mgmt with limits := new }, holds := u.holds, link := { s.link with queue := u.link.queue } } ∧
    t.mgmt = { s.mgmt with limits := new } ∧ t.link = { s.link with queue := t.link.queue } ∧ t.powered = s.powered ∧
    t.resetPin = s.resetPin ∧ t.signal = s.signal ∧ t.comps = s.comps ∧ t.clock = s.clock ∧ t.schedule = s.schedule ∧
    t.store = s.store ∧ t.pending = s.pending ∧ t.timeline.p = s.timeline.p ∧
    (s.timeline.state ≠ .cueing → s.timeline.state ≠ .ready → s.timeline.state ≠ .stalled → reportsFrom u t ∧
      (new.warn = s.mgmt.limits.warn → t = u)) ∧
    (s.timeline.state = .cueing →
      (u.startMet = true → s.startReached = false → t.timeline = { s.timeline with state := .ready }) ∧
      (u.startMet = true → s.startReached = true → t.timeline.state = .playing) ∧
      (u.startMet = false → ¬ cueOver → reportsFrom u t) ∧ (u.startMet = false → cueOver → abandoned)) ∧
    (s.timeline.state = .ready →
      (u.startMet = true → reportsFrom u t) ∧
      (u.startMet = false → ¬ cueOver → t.timeline = { s.timeline with state := .cueing } ∧
        reportsFrom { u with timeline := t.timeline, sync := t.sync } t) ∧
      (u.startMet = false → cueOver → abandoned)) ∧
    (s.timeline.state = .stalled →
      (u.resumeMet = true → t.timeline.state = .playing ∧ t.timeline.stallTimer = none) ∧
      (u.resumeMet = false → ¬ stallOver → reportsFrom u t) ∧ (u.resumeMet = false → stallOver → abandoned)) ∧
    (new.warn ≠ s.mgmt.limits.warn →
      (t.isAsserted .allowanceLow = true ↔ ∃ (i : Fin 32) (a : Allowance) (n : Nat), (t.place i).state = .opened ∧
        (t.place i).record = some a ∧ a.allowed = some n ∧ n ≤ a.used + new.warn) ∧
      (t.isAsserted .allowanceExpiring = true ↔ ∃ (i : Fin 32) (a : Allowance), (t.place i).state = .opened ∧
        (t.place i).record = some a ∧ minuteSecs a.untilDay a.untilMinute ≤ s.nowSecs + 86400))) ∧
  (∀ (l : Limits) (settings : List LimitArgs), (∀ a ∈ settings, a.number ≤ 17) → (settings.map LimitArgs.number).Nodup →
    let m := l.apply settings
    (∀ a ∈ settings, m.values[a.number]? = some (clampedLimit m.lowPic m.lowSnd a.number a.value)) ∧
    (∀ n, n ≠ 3 → n ≠ 5 → (∀ a ∈ settings, a.number ≠ n) → m.values[n]? = l.values[n]?) ∧
    ((∀ a ∈ settings, a.number ≠ 3) → m.highPic = clampedLimit m.lowPic m.lowSnd 3 l.highPic) ∧
    ((∀ a ∈ settings, a.number ≠ 5) → m.highSnd = clampedLimit m.lowPic m.lowSnd 5 l.highSnd) ∧
    (limitReply l m settings).length = 18 ∧
    (∀ a ∈ settings, ∀ v, m.values[a.number]? = some v → (limitReply l m settings)[a.number]? = some (v, decide (v ≠ a.value))) ∧
    (∀ n v w, (∀ a ∈ settings, a.number ≠ n) → m.values[n]? = some v → l.values[n]? = some w →
      (limitReply l m settings)[n]? = some (v, decide (v ≠ w)))) ∧
  Limits.reset.inRange ∧ ∀ (l : Limits) (settings : List LimitArgs), l.inRange → (l.apply settings).inRange

/-- A composition record that passes every test is installed in its slot as LOADED with its class and feature span derived from its
reels, and the reply names them with the reel entries in use and the identity replaced.  Otherwise the first failing test refuses it: a
payload without a slot, a slot outside 0 to 3, a payload that lacks bytes its counts call for, a slot IN_USE, a record out of range, a
reel that fails, an identity held elsewhere, and a full store.  The class is FEATURE where a reel is a FEATURE reel, and the span is the
sum of the FEATURE reels' durations less their entry points (sections 4.2 and 4.4). -/
def Obligations.LoadCompositionInstalls : Prop :=
  (∀ (tag : Nat) (args : List Byte) (s : State), s.serves = true →
    (takeNat 1 args = none → exec (.loadComposition tag args) s = .next (refuse 8 tag .tooLarge (acceptCommand s))) ∧
    ∀ (slot : Nat) (rest : List Byte), takeNat 1 args = some (slot, rest) →
      (3 < slot → exec (.loadComposition tag args) s = .next (refuse 8 tag .badArgument (acceptCommand s))) ∧
      (slot ≤ 3 → takeComposition rest = none →
        exec (.loadComposition tag args) s = .next (refuse 8 tag .tooLarge (acceptCommand s))) ∧
      (∀ (i : Fin 4) (raw : RawComposition), slot = i.val → takeComposition rest = some raw →
        (s.slotInUse i = true → exec (.loadComposition tag args) s = .next (refuse 8 tag .busy (acceptCommand s))) ∧
        (s.slotInUse i = false → raw.inRange = false →
          exec (.loadComposition tag args) s = .next (refuse 8 tag .badArgument (acceptCommand s))) ∧
        (∀ reason k, s.slotInUse i = false → raw.inRange = true → reelsOf 0 raw.reels = .error (reason, k) →
          exec (.loadComposition tag args) s = .next (refuseAt 8 tag reason k (acceptCommand s))) ∧
        (∀ reels : List Reel, s.slotInUse i = false → raw.inRange = true → reelsOf 0 raw.reels = .ok reels →
          let c := compositionOf raw.ident raw.title reels
          (s.heldElsewhere i raw.ident = true →
            exec (.loadComposition tag args) s = .next (refuse 8 tag .duplicate (acceptCommand s))) ∧
          (s.heldElsewhere i raw.ident = false → 128 < s.entriesOutside i + reels.length →
            exec (.loadComposition tag args) s = .next (refuse 8 tag .noRoom (acceptCommand s))) ∧
          (s.heldElsewhere i raw.ident = false → s.entriesOutside i + reels.length ≤ 128 →
            exec (.loadComposition tag args) s = .next (reply 8 tag
              (.composition i.val c.feature c.span (s.entriesOutside i + reels.length)
                ((s.comps[i].comp).map Composition.ident))
              { acceptCommand s with comps := s.comps.set i (.loaded c) }))))) ∧
  (∀ (ident : Nat) (title : List Byte) (reels : List Reel),
    let c := compositionOf ident title reels
    c.ident = ident ∧ c.title = title ∧ c.reels = reels ∧ (c.feature = true ↔ ∃ r ∈ reels, r.kind = .feature) ∧
    c.span = ((reels.filter (fun r => decide (r.kind = .feature))).map (fun r => r.dur - r.entry)).sum)

/-- CLEAR_SLOT: a slot outside 0 to 3 is refused BAD_ARGUMENT, an EMPTY one NOT_FOUND, an IN_USE one BUSY, and a LOADED one becomes EMPTY
and is answered with what it held and the entries in use after it (R58). -/
def Obligations.ClearSlotEmpties : Prop :=
  ∀ (tag : Nat) (s : State), s.serves = true →
    (∀ slot, 3 < slot → exec (.clearSlot tag slot) s = .next (refuse 9 tag .badArgument (acceptCommand s))) ∧
    (∀ i : Fin 4, s.comps[i] = .empty → exec (.clearSlot tag i.val) s = .next (refuse 9 tag .notFound (acceptCommand s))) ∧
    (∀ (i : Fin 4) (c : Composition), s.comps[i] = .inUse c →
      exec (.clearSlot tag i.val) s = .next (refuse 9 tag .busy (acceptCommand s))) ∧
    (∀ (i : Fin 4) (c : Composition), s.comps[i] = .loaded c →
      (exec (.clearSlot tag i.val) s = .next (reply 9 tag
          (.slotCleared c.ident c.title ({ s with comps := s.comps.set i .empty } : State).entriesInUse)
          { acceptCommand s with comps := s.comps.set i .empty })) ∧
      ({ s with comps := s.comps.set i .empty } : State).entriesInUse = s.entriesInUse - c.reels.length ∧
      ((∀ j : Fin 4, j ≠ i → (s.comps[j].comp).map Composition.ident ≠ some c.ident) →
        ({ s with comps := s.comps.set i .empty } : State).slotOf c.ident = none))

/-- LOAD_ROUTING, LOAD_ACTIONS and SET_EVENT_MASK that pass their tests replace the whole map, the named entries and the named flags, and
reply DONE; those that fail are refused and change nothing (sections 6.2, 9.3 and 9.4).  A routing fails with more than 64 triples or
with one pair of lane and channel twice.  That a bad first index or count of LOAD_ACTIONS is refused without an index, and that an entry
whose trigger is absent has its address tested, are the model's choice (notes/assumptions/39.md). -/
def Obligations.TableCommandsInstall : Prop :=
  (∀ (tag : Nat) (map : Fin 8) (routes : List RouteArgs) (l : List (Fin 4 × Nat × Option Nat)) (s : State), s.serves = true →
    allOf routeOf routes = some l → routes.length ≤ 64 → (l.map (fun x => x.1.val * 16 + x.2.1)).Nodup →
    exec (.loadRouting tag map.val routes) s = .next (reply 10 tag (.routing map.val (routedPairs l).length)
      { acceptCommand s with sound := { s.sound with maps := s.sound.maps.set map (routedPairs l) } })) ∧
  (∀ (tag map : Nat) (routes : List RouteArgs) (s : State), s.serves = true →
    7 < map ∨ allOf routeOf routes = none ∨ 64 < routes.length ∨
      (∃ l, allOf routeOf routes = some l ∧ ¬ (l.map (fun x => (x.1, x.2.1))).Nodup) →
    exec (.loadRouting tag map routes) s = .next (refuse 10 tag .badArgument (acceptCommand s))) ∧
  (∀ (tag first : Nat) (entries : List ActionArgs) (s : State), s.serves = true →
    (entries = [] ∨ 64 < first + entries.length →
      exec (.loadActions tag first entries) s = .next (refuse 11 tag .badArgument (acceptCommand s))) ∧
    (∀ before bad after, entries = before ++ bad :: after → first + entries.length ≤ 64 →
      (∀ a ∈ before, (entryOf a).isSome = true) → entryOf bad = none →
      exec (.loadActions tag first entries) s =
        .next (refuseAt 11 tag .badArgument (first + before.length) (acceptCommand s)))) ∧
  (∀ (tag first : Nat) (entries : List ActionArgs) (s : State), s.serves = true →
    entries ≠ [] → first + entries.length ≤ 64 → (∀ a ∈ entries, (entryOf a).isSome = true) →
    ∃ t, exec (.loadActions tag first entries) s = .next (reply 11 tag (.actions first entries.length) t) ∧
      t = { acceptCommand s with actions := { (acceptCommand s).actions with table := t.actions.table } } ∧
      (∀ (j : Nat) (h : j < 64), t.actions.table[j] =
        (if j < first then s.actions.table[j] else ((entries[j - first]?).bind entryOf).getD s.actions.table[j]))) ∧
  (∀ (tag : Nat) (settings : List MaskArgs) (s : State), s.serves = true →
    settings = [] ∨ (∃ a ∈ settings, 25 < a.kind) ∨ ¬ (settings.map MaskArgs.kind).Nodup →
    exec (.setEventMask tag settings) s = .next (refuse 12 tag .badArgument (acceptCommand s))) ∧
  (∀ (tag : Nat) (settings : List MaskArgs) (s : State), s.serves = true →
    settings ≠ [] → (∀ a ∈ settings, a.kind ≤ 25) → (settings.map MaskArgs.kind).Nodup →
    ∃ t, exec (.setEventMask tag settings) s =
        .next (reply 12 tag (.events (t.eventRecords (settings.map MaskArgs.kind))) t) ∧
      t = { acceptCommand s with events := t.events } ∧
      (∀ a ∈ settings, ∀ h : a.kind < 26,
        t.events[a.kind] = { (acceptCommand s).events[a.kind] with onAssert := a.onAssert, onDeassert := a.onDeassert }) ∧
      (∀ (k : Nat) (h : k < 26), (∀ a ∈ settings, a.kind ≠ k) → t.events[k] = (acceptCommand s).events[k]))

/-- An allowance command that passes its tests changes its place, queues one store entry at the tail and owes its reply to the end of
the write; one that fails a test is refused and changes nothing (sections 8.1, 8.2 and 8.4).  The absent write result of a reply without
an entry, and the derived state of acceptance in the owed reply of LOAD_ALLOWANCE, are the model's choice (notes/assumptions/40.md).  So is
that LOAD_ALLOWANCE with any index of 32 or more is refused, whatever presence byte its limit has (notes/assumptions/78.md). -/
def Obligations.AllowanceCommandsQueueWrite : Prop :=
  ∀ (tag : Nat) (s : State), s.serves = true →
    (∀ n, 32 ≤ n →
      exec (.revokeAllowance tag n) s = .next (refuse 14 tag .badArgument (acceptCommand s)) ∧
      exec (.clearAllowance tag n) s = .next (refuse 15 tag .badArgument (acceptCommand s))) ∧
    (∀ a : AllowanceArgs, 32 ≤ a.index ∨ allowanceInRange a = false →
      exec (.loadAllowance tag a) s = .next (refuse 13 tag .badArgument (acceptCommand s))) ∧
    (∀ i : Fin 32, (s.place i).record = none →
      exec (.revokeAllowance tag i.val) s = .next (refuse 14 tag .notFound (acceptCommand s)) ∧
      exec (.clearAllowance tag i.val) s = .next (refuse 15 tag .notFound (acceptCommand s))) ∧
    (∀ (i : Fin 32) (a : AllowanceArgs), a.index = i.val → allowanceInRange a = true →
      s.counting.bound = some i ∨ s.reserves i = false →
      exec (.loadAllowance tag a) s = .next (refuse 13 tag .busy (acceptCommand s))) ∧
    (∀ (i : Fin 32) (a : Allowance), (s.place i).record = some a → a.revoked = true →
      exec (.revokeAllowance tag i.val) s = .next (reply 14 tag (.allowanceWas i.val (s.place i) none) (acceptCommand s))) ∧
    (∀ (i : Fin 32) (a : Allowance), (s.place i).record = some a → a.revoked = false → s.reserves i = false →
      exec (.revokeAllowance tag i.val) s = .next (refuse 14 tag .busy (acceptCommand s))) ∧
    (∀ i : Fin 32, (s.place i).record ≠ none → s.counting.bound = some i ∨ s.reserves i = false →
      exec (.clearAllowance tag i.val) s = .next (refuse 15 tag .busy (acceptCommand s))) ∧
    (∀ (i : Fin 32) (a : AllowanceArgs), s.reserves i = true → a.index = i.val → allowanceInRange a = true →
      s.counting.bound ≠ some i →
      ∃ t e, exec (.loadAllowance tag a) s = .next t ∧ t.counting.queue = s.counting.queue ++ [e] ∧ e.kind = .allowance ∧
        e.place = some (i, { record := some (allowanceOf a), serial := nextSerial (s.place i).serial }) ∧ e.record = none ∧
        e.owed = some {
          code := 13, tag := tag, results := .allowanceLoaded i.val (deriveState s (some (allowanceOf a))) (nextSerial (s.place i).serial) none } ∧
        t.place i = { record := some (allowanceOf a), serial := nextSerial (s.place i).serial,
                      state := deriveState s (some (allowanceOf a)) } ∧
        (∀ j, j ≠ i → t.place j = s.place j) ∧
        reportsFrom { s with schedule := { s.schedule with heartbeat := 0 }, counting := { s.counting with
          places := t.counting.places, queue := t.counting.queue, header := t.counting.header } } t) ∧
    (∀ (i : Fin 32) (a : Allowance), s.reserves i = true → (s.place i).record = some a → a.revoked = false →
      ∃ t e, exec (.revokeAllowance tag i.val) s = .next t ∧ t.counting.queue = s.counting.queue ++ [e] ∧ e.kind = .allowance ∧
        e.place = some (i, { record := some { a with revoked := true }, serial := (s.place i).serial }) ∧ e.record = none ∧
        e.owed = some { code := 14, tag := tag, results := .allowanceWas i.val (s.place i) none } ∧
        t.place i = { record := some { a with revoked := true }, serial := (s.place i).serial, state := .revoked } ∧
        (∀ j, j ≠ i → t.place j = s.place j) ∧
        reportsFrom { s with schedule := { s.schedule with heartbeat := 0 }, counting := { s.counting with
          places := t.counting.places, queue := t.counting.queue, header := t.counting.header } } t) ∧
    (∀ i : Fin 32, s.reserves i = true → (s.place i).record ≠ none → s.counting.bound ≠ some i →
      ∃ t e, exec (.clearAllowance tag i.val) s = .next t ∧ t.counting.queue = s.counting.queue ++ [e] ∧ e.kind = .allowance ∧
        e.place = some (i, { record := none, serial := (s.place i).serial }) ∧ e.record = none ∧
        e.owed = some { code := 15, tag := tag, results := .allowanceWas i.val (s.place i) none } ∧
        t.place i = { record := none, serial := (s.place i).serial, state := .empty } ∧
        (∀ j, j ≠ i → t.place j = s.place j) ∧
        reportsFrom { s with schedule := { s.schedule with heartbeat := 0 }, counting := { s.counting with
          places := t.counting.places, queue := t.counting.queue, header := t.counting.header } } t)

/-- MARK_EXPORTED marks every closed record up to its number at once and queues one export entry that covers them; where no record would
change it is answered at once with no entry, and with an absent write result, which is the model's choice (section 8.3;
notes/assumptions/40.md). -/
def Obligations.MarkExportedMarks : Prop :=
  ∀ (tag n : Nat) (s : State), s.serves = true →
    (n = 0 → exec (.markExported tag n) s = .next (refuse 17 tag .badArgument (acceptCommand s))) ∧
    (n ≠ 0 → (∃ r ∈ s.counting.log, r.marks n = true) → s.reservesExport = false →
      exec (.markExported tag n) s = .next (refuse 17 tag .busy (acceptCommand s))) ∧
    (n ≠ 0 → (∀ r ∈ s.counting.log, r.marks n = false) →
      exec (.markExported tag n) s = .next (reply 17 tag (.exported 0 none) (acceptCommand s))) ∧
    (n ≠ 0 → (∃ r ∈ s.counting.log, r.marks n = true) → s.reservesExport = true →
      ∃ t e, exec (.markExported tag n) s = .next t ∧ t.counting.queue = s.counting.queue ++ [e] ∧ e.kind = .marking ∧
        e.marks = (s.counting.log.filter (fun r => r.marks n)).map LogRecord.number ∧
        t.counting.log = s.counting.log.map (fun r => if r.marks n then { r with exported := true } else r) ∧
        e.owed = some {
          code := 17, tag := tag, results := .exported (s.counting.log.filter (fun r => r.marks n)).length none } ∧
        reportsFrom { s with schedule := { s.schedule with heartbeat := 0 }, counting := { s.counting with
          log := t.counting.log, queue := t.counting.queue, header := t.counting.header } } t)

/-- SCHEDULE_ADD that passes its tests puts its entry into the queue at the place its start gives, after the entries with an equal start,
and the queue stays in start order; otherwise the first failing test refuses it (section 4.7). -/
def Obligations.ScheduleAddKeepsOrder : Prop :=
  ∀ (tag : Nat) (e : SchedEntry) (s : State), s.serves = true →
    (schedInRange e = false → exec (.scheduleAdd tag e) s = .next (refuse 18 tag .badArgument (acceptCommand s))) ∧
    (schedInRange e = true → s.clock.isSet = false →
      exec (.scheduleAdd tag e) s = .next (refuse 18 tag .clockUnset (acceptCommand s))) ∧
    (schedInRange e = true → s.clock.isSet = true →
      ((∃ x ∈ s.schedule.queue, x.ident = e.ident) →
        exec (.scheduleAdd tag e) s = .next (refuse 18 tag .duplicate (acceptCommand s))) ∧
      ((∀ x ∈ s.schedule.queue, x.ident ≠ e.ident) →
        (entrySecs e + s.mgmt.limits.lateMinutes * 60 < s.nowSecs →
          exec (.scheduleAdd tag e) s = .next (refuse 18 tag .tooLate (acceptCommand s))) ∧
        (s.nowSecs ≤ entrySecs e + s.mgmt.limits.lateMinutes * 60 → 16 ≤ s.schedule.queue.length →
          exec (.scheduleAdd tag e) s = .next (refuse 18 tag .noRoom (acceptCommand s))) ∧
        (s.nowSecs ≤ entrySecs e + s.mgmt.limits.lateMinutes * 60 → s.schedule.queue.length < 16 → inStartOrder s.schedule.queue →
          ∃ before after, s.schedule.queue = before ++ after ∧ (∀ x ∈ before, entrySecs x ≤ entrySecs e) ∧
            (∀ x ∈ after, entrySecs e < entrySecs x) ∧ inStartOrder (before ++ e :: after) ∧
            exec (.scheduleAdd tag e) s = .next (reply 18 tag (.queued before.length (s.schedule.queue.length + 1))
              { acceptCommand s with schedule := { queue := before ++ e :: after, heartbeat := 0 } }))))

/-- SCHEDULE_CANCEL removes the one entry of its identity, or is refused NOT_FOUND; SCHEDULE_CLEAR removes every entry and replies with
their number; no log record and no event follows (R63). -/
def Obligations.ScheduleCancelAndClear : Prop :=
  ∀ (tag : Nat) (s : State), s.serves = true →
    (∀ ident, (∃ x ∈ s.schedule.queue, x.ident = ident) →
      exec (.scheduleCancel tag ident) s = .next (reply 19 tag .nothing { acceptCommand s with schedule :=
        { queue := s.schedule.queue.filter (fun x => decide (x.ident ≠ ident)), heartbeat := 0 } })) ∧
    (∀ ident, (∀ x ∈ s.schedule.queue, x.ident ≠ ident) →
      exec (.scheduleCancel tag ident) s = .next (refuse 19 tag .notFound (acceptCommand s))) ∧
    exec (.scheduleClear tag) s = .next (reply 20 tag (.schedCleared s.schedule.queue.length)
      { acceptCommand s with schedule := { queue := [], heartbeat := 0 } })

/-! ## Showings -/

/-- START's eight tests name the first that fails: start-up, an open showing, an argument out of range, an unset clock, STORE_FAULT, no
room in the log, no LOADED composition in the slot, and, for a FEATURE composition, no OPEN allowance.  A passed START names its slot,
composition and allowance, and an accepted START by command opens the showing and replies (sections 5.3, 8.2 and 8.3).  The opened showing
then has its leads measured.  Where the start lead is met on every lane of the current reel, a CUEING showing becomes READY, and PLAYING in
the same event where its start moment has come; a READY one whose start lead is lost returns to CUEING with its cue timer; and a READY one
enters PLAYING at the roll that reaches its start second.  At entry to PLAYING P stays as the opening put it, a staged delay becomes live,
X starts at -A, and the first picture instant is taken.  A STALLED showing whose resume lead is met enters PLAYING, with the instant that
P stands at, or the gap that begins there.  In any other state the leads alone are taken (sections 5.3, 5.7, 3.3 and 6.1; sound coming
before picture is notes/assumptions/61.md, the rate that gives A 30.md). -/
def Obligations.StartTestedInOrder : Prop :=
  (∀ (a : StartCall) (s : State),
    (s.counting.startup ≠ .complete → startTests a s = .error .starting) ∧
    (s.counting.startup = .complete → s.timeline.state ≠ .idle → startTests a s = .error .busy) ∧
    (s.counting.startup = .complete → s.timeline.state = .idle → a.inRange = false → startTests a s = .error .badArgument) ∧
    (s.counting.startup = .complete → s.timeline.state = .idle → a.inRange = true → s.clock.isSet = false →
      startTests a s = .error .clockUnset) ∧
    (∀ i c b, startTests a s = .ok (i, c, b) → s.comps[i] = .loaded c ∧ s.logRoom = true ∧ s.isAsserted .storeFault = false ∧
      (c.feature = true → ∃ n, b = some n ∧ s.matchesAt c.ident n = true) ∧ (c.feature = false → b = none)) ∧
    (s.counting.startup = .complete → s.timeline.state = .idle → a.inRange = true → s.clock.isSet = true →
      (s.isAsserted .storeFault = true → startTests a s = .error .storeFault) ∧
      (s.isAsserted .storeFault = false → s.logRoom = false → startTests a s = .error .logFull) ∧
      (s.isAsserted .storeFault = false → s.logRoom = true →
        ((∀ i : Fin 4, a.slot = some i.val → ∀ c, s.comps[i] ≠ .loaded c) → startTests a s = .error .notFound) ∧
        (∀ (i : Fin 4) c, a.slot = some i.val → s.comps[i] = .loaded c →
          (c.feature = true → s.matchAllowance c.ident a.allowance = none → startTests a s = .error .noAllowance) ∧
          (∀ n, c.feature = true → s.matchAllowance c.ident a.allowance = some n → startTests a s = .ok (i, c, some n)) ∧
          (c.feature = false → startTests a s = .ok (i, c, none))))) ∧
    (s.logRoom = true ↔ s.isAsserted .storeFault = false ∧ s.counting.next ≤ 4294967295 ∧
      (s.counting.log.length < 512 ∨ ∃ r ∈ s.counting.log, r.exported = true))) ∧
  (∀ (tag : Nat) (a : StartArgs) (s : State), s.serves = true →
    (∀ r, startTests (startCallOf a) (acceptCommand s) = .error r →
      exec (.start tag a) s = .next (refuse 21 tag r (acceptCommand s))) ∧
    (∀ i c b, startTests (startCallOf a) (acceptCommand s) = .ok (i, c, b) →
      exec (.start tag a) s = .next (reply 21 tag .nothing (acceptStart i c b (startCallOf a) (acceptCommand s))))) ∧
  (∀ (i : Fin 4) (c : Composition) (b : Option (Fin 32)) (a : StartCall) (s : State),
    let o := openShowing i c b a s
    acceptStart i c b a s = settleFrom o o ∧ (acceptStart i c b a s).timeline.p = 0) ∧
  (∀ (s : State) (need : Nat),
    (s.leadMet need = true ↔ ∃ (c : Cursor) (row : ReelRow), s.timeline.cursor = some c ∧ s.row c.reel = some row ∧
      ∀ l, avToLane l ∈ row.reel.lanes → need ≤ (s.hold l).lead ∨ s.runReaches l c.reel row.reel.dur = true) ∧
    s.startMet = s.leadMet s.mgmt.limits.startLead ∧ s.resumeMet = s.leadMet s.mgmt.limits.resumeLead ∧
    (s.startReached = false ↔ ∃ time, s.timeline.mode = some (.atTime time) ∧ s.nowSecs < secsOf time)) ∧
  (∀ before s : State,
    let plays (t : State) : Prop :=
      let live := if s.sound.pending then s.sound.staged else s.sound.live
      t.timeline.state = .playing ∧ t.timeline.p = s.timeline.p ∧ t.sound.live = live ∧ t.sound.pending = false ∧
      t.sound.staged = s.sound.staged ∧
      (∀ (c : Cursor) (row : ReelRow), s.timeline.cursor = some c → s.row c.reel = some row →
        t.timeline.interval = some { reel := c.reel, unit := c.unit } ∧
        t.timeline.cursor = (s.unitAfter c.reel c.unit).map UnitRef.cursor ∧ t.picture.shown = t.picture.last ∧
        (t.timeline.missing = 0 ∧ t.timeline.repeated = s.timeline.repeated ∨
          t.timeline.missing = min 12 (s.timeline.missing + 1) ∧
            t.timeline.repeated = min 4294967295 (s.timeline.repeated + 1))) ∧
      (∀ first : ReelRow, s.row 0 = some first →
        let A : Int := shiftSamples live first.reel.sampleTicks * first.reel.sampleTicks
        (0 ≤ A → t.sound.offset = A ∧ t.sound.cursor = s.sound.cursor ∧ t.sound.plays = s.sound.plays) ∧
        (∀ u n : Nat, A < 0 → n < 64 → s.sound.cursor = some { reel := 0, unit := u } → first.reel.entry ≤ u →
          u + n < first.reel.dur → (first.instant (u + n) : Int) ≤ -A →
          -A < (first.instant (u + n) : Int) + first.reel.ticks →
            t.sound.offset = A ∧ t.sound.cursor = s.unitAfter 0 (u + n)))
    let u := settleLeads before s
    let t := settleFrom before s
    t.timeline.p = s.timeline.p ∧
    (s.timeline.state = .cueing →
      (u.startMet = false → t = u) ∧
      (u.startMet = true → s.startReached = false → t.timeline = { s.timeline with state := .ready } ∧
        reportsFrom { u with timeline := t.timeline, sync := t.sync } t) ∧
      (u.startMet = true → s.startReached = true → plays t)) ∧
    (s.timeline.state = .ready →
      (u.startMet = true → t = u) ∧
      (u.startMet = false → t.timeline = { s.timeline with state := .cueing } ∧
        reportsFrom { u with timeline := t.timeline, sync := t.sync } t) ∧
      (s.startReached = true → plays (checkStart s)) ∧ (s.startReached = false → checkStart s = s)) ∧
    (s.timeline.state ≠ .ready → checkStart s = s) ∧
    (s.timeline.state = .stalled →
      (u.resumeMet = false → t = u) ∧
      (u.resumeMet = true → t.timeline.state = .playing ∧ t.timeline.stallTimer = none ∧ t.timeline.missing ≤ 1 ∧
        t.isAsserted .stall = false ∧
        (∀ (c : Cursor) (row : ReelRow), s.timeline.cursor = some c → s.row c.reel = some row → row.reel.entry < c.unit →
          (row.instant c.unit = s.timeline.p → t.timeline.interval = some { reel := c.reel, unit := c.unit } ∧
            t.timeline.cursor = (s.unitAfter c.reel c.unit).map UnitRef.cursor) ∧
          (row.instant c.unit ≠ s.timeline.p → t.timeline = { s.timeline with
            state := .playing, missing := 0, stallTimer := none, intermission := none, pauseReason := none })) ∧
        (∀ (c : Cursor) (row next : ReelRow), s.timeline.cursor = some c → 0 < c.reel → s.row (c.reel - 1) = some row →
          s.row c.reel = some next → c.unit = next.reel.entry → row.endTick = s.timeline.p → 0 < next.gap →
          t.timeline.cursor = some { c with inGap := true } ∧ t.picture.shown = none))) ∧
    (s.timeline.state ≠ .cueing → s.timeline.state ≠ .ready → s.timeline.state ≠ .stalled → t = u))

/-- An opening showing: the slot is IN_USE, the allowance bound with Q, one OPEN record and its store entry made, P 0, the reel start
table built and the state CUEING.  With no reel wanted, reel 0 is wanted from its entry point on every lane it names, its WANT is queued
where the report queue has room, and the cursor stands at its entry point.  Each action entry has its fired mark cleared, and the
resolved tick of an enabled POSITION entry is its reel's start or end tick with its offset, none below 0 and absent without such a reel;
every other entry has none (sections 5.3, 2.1 and 9.4). -/
def Obligations.ShowingOpens : Prop :=
  ∀ (i : Fin 4) (c : Composition) (b : Option (Fin 32)) (a : StartCall) (s : State),
    ∃ t r, openShowing i c b a s = t ∧ t.timeline.state = .cueing ∧ t.timeline.p = 0 ∧ t.timeline.slot = some i ∧
      t.timeline.mode = a.mode ∧ t.timeline.sched = a.sched ∧ t.timeline.table = reelTable s.mgmt.limits.gap c.reels ∧
      t.timeline.presented = 0 ∧ t.timeline.cueTimer = 0 ∧ t.comps[i] = .inUse c ∧ t.counting.bound = b ∧
      t.counting.charged = false ∧ (b = none → t.counting.point = none) ∧
      (∀ n, b = some n → t.counting.point = some (countPoint s.mgmt.limits.coverage c.span)) ∧
      r ∈ t.counting.log ∧ r.outcome = .opened ∧ r.number = s.counting.next ∧ r.comp = c.ident ∧ r.slot = some i.val ∧
      r.allowance = b.map Fin.val ∧ r.sched = a.sched ∧ r.start = s.clock.now ∧ r.charged = false ∧
      t.counting.next = s.counting.next + 1 ∧
      (∃ e, e.kind = .creation ∧ e.record = some r ∧ t.counting.queue = s.counting.queue ++ [e]) ∧
      (∀ first rest, s.wanted = [] → c.reels = first :: rest → first.entry < first.dur → first.pics ≠ [] →
        t.timeline.cursor = some { reel := 0, unit := first.entry, inGap := false } ∧
        (∃ w, t.wanted = [w] ∧ w.comp = c.ident ∧ w.index = 0 ∧ w.reel = first ∧ w.finished = false ∧
          ∀ l, w.bases.get l = if l ∈ first.lanes then some first.entry else none) ∧
        (s.link.state = .up → s.link.queue.length ≤ 40 → .want c.ident 0 first.ident first.entry false ∈ t.link.queue)) ∧
      (∀ (j : Nat) (h : j < 64), ∃ tick, t.actions.table[j] = { s.actions.table[j] with fired := false, resolved := tick } ∧
        (∀ sel atEnd offset, s.actions.table[j].enabled = true →
          s.actions.table[j].trigger = some (.position sel atEnd offset) →
          tick = (sel.find t.timeline.table).map (fun row =>
            (((if atEnd then row.endTick else row.start : Nat) : Int) + offset).toNat)) ∧
        (s.actions.table[j].enabled = false ∨
          (∀ sel atEnd offset, s.actions.table[j].trigger ≠ some (.position sel atEnd offset)) → tick = none))

/-- The derived state of an allowance place.  The allowance match takes the named allowance where it is OPEN for the identity, or the
OPEN one at the lowest index; the count point Q = ceil(θ × F ÷ 256) lies between 1 and F, equals F at θ = 256, and a HOUSE showing has
none.  A presented feature unit is counted, and the one that makes Q of an uncharged showing bound to an allowance takes the charge: the
used showings rise by one, the place is evaluated, the OPEN record takes the counts and the charged mark, one charge entry with both joins
the store queue, and SHOWING_COUNTED occurs (sections 8.1 to 8.3). -/
def Obligations.AllowanceMatchAndCountPoint : Prop :=
  (∀ (s : State) (comp : Nat),
    (∀ i : Fin 32, s.matchAllowance comp (some i.val) = if s.matchesAt comp i then some i else none) ∧
    (∀ i : Fin 32, s.matchAllowance comp none = some i ↔ s.matchesAt comp i = true ∧ ∀ j < i, s.matchesAt comp j = false) ∧
    (s.matchAllowance comp none = none ↔ ∀ i, s.matchesAt comp i = false)) ∧
  (∀ coverage span : Nat, 256 * (countPoint coverage span - 1) < coverage * span ∨ coverage * span = 0) ∧
  (∀ coverage span : Nat, coverage * span ≤ 256 * countPoint coverage span) ∧
  (∀ coverage span : Nat, 1 ≤ coverage → coverage ≤ 256 → 1 ≤ span →
    1 ≤ countPoint coverage span ∧ countPoint coverage span ≤ span) ∧
  (∀ span : Nat, countPoint 256 span = span) ∧
  (∀ (i : Fin 4) (c : Composition) (b : Option (Fin 32)) (s : State),
    (bindShowing i c b s).counting.point = b.map (fun _ => countPoint s.mgmt.limits.coverage c.span)) ∧
  (∀ (ident : Nat) (title : List Byte) (reels : List Reel), (∀ r ∈ reels, r.entry < r.dur) →
    (compositionOf ident title reels).feature = true → 1 ≤ (compositionOf ident title reels).span) ∧
  (∀ (s : State) (a : Allowance),
    let begins := a.fromDay * 86400 + a.fromMinute * 60
    let ends := a.untilDay * 86400 + a.untilMinute * 60
    deriveState s none = .empty ∧ (a.revoked = true → deriveState s (some a) = .revoked) ∧
    (∀ n, a.revoked = false → a.allowed = some n → n ≤ a.used → deriveState s (some a) = .spent) ∧
    (a.revoked = false → (∀ n, a.allowed = some n → a.used < n) →
      (s.clock.isSet = false → deriveState s (some a) = .pending) ∧
      (s.clock.isSet = true → ends ≤ s.nowSecs → deriveState s (some a) = .expired) ∧
      (s.clock.isSet = true → s.nowSecs < ends → s.nowSecs < begins → deriveState s (some a) = .pending) ∧
      (s.clock.isSet = true → s.nowSecs < ends → begins ≤ s.nowSecs → deriveState s (some a) = .opened))) ∧
  (∀ s : State,
    let n := s.timeline.presented + 1
    let s' : State := { s with timeline := { s.timeline with presented := n } }
    (∀ i, s.counting.bound = some i → s.counting.charged = false → s.counting.point = some n → countFeature s = takeCharge i s') ∧
    (s.counting.bound = none ∨ s.counting.charged = true ∨ s.counting.point ≠ some n → countFeature s = s')) ∧
  (∀ (i : Fin 32) (a : Allowance) (r : LogRecord) (s : State), (s.place i).record = some a → s.openRecord = some r →
    let t := takeCharge i s
    let b := { a with used := min 65535 (a.used + 1) }
    let r' := { r with
      presented := s.timeline.presented, repeated := s.timeline.repeated, stalls := s.timeline.stalls, charged := true }
    t.counting.charged = true ∧ t.place i = { record := some b, serial := (s.place i).serial, state := deriveState s (some b) } ∧
    (∀ j, j ≠ i → t.place j = s.place j) ∧ t.counting.log = s.counting.log.map (fun x => if x.number = r.number then r' else x) ∧
    t.counting.queue = s.counting.queue ++ [{
      kind := .charge, record := some r', place := some (i, { record := some b, serial := (s.place i).serial }), marks := [],
      owed := none }] ∧
    (t.event .showingCounted).count = min 65535 ((s.event .showingCounted).count + 1) ∧
    t.timeline = s.timeline ∧ t.counting.bound = s.counting.bound ∧ t.counting.point = s.counting.point ∧ t.store = s.store)

/-- PAUSE in PLAYING sets the pending flag and nothing else; in STALLED it pauses at once; elsewhere it is refused.  At the tick of a
release instant whose preceding interval is still to be ended, that end is taken first, so that the pause falls at the end of the interval
which this instant begins: inside a reel, at a boundary without a gap, and at the end of a gap (section 5.8; notes/assumptions/69.md). -/
def Obligations.PauseRules : Prop :=
  ∀ (tag : Nat) (s : State), s.serves = true →
    (s.timeline.state = .playing → s.instantDue = false → exec (.pause tag) s = .next (reply 22 tag .nothing
      { acceptCommand s with timeline := { s.timeline with pausePending := true } })) ∧
    (∀ (u : UnitRef) (row : ReelRow), s.timeline.state = .playing → s.timeline.interval = some u → s.row u.reel = some row →
      u.unit + 1 < row.reel.dur → row.reel.entry ≤ u.unit → s.timeline.cursor = some { reel := u.reel, unit := u.unit + 1, inGap := false } →
      s.timeline.p = row.instant u.unit + row.reel.ticks → s.timeline.pausePending = false → s.timeline.missing < 12 →
      exec (.pause tag) s = .next (reply 22 tag .nothing
        { acceptCommand s with timeline := { s.timeline with pausePending := true, interval := none } })) ∧
    (∀ (u : UnitRef) (c : Cursor) (row next : ReelRow), s.timeline.state = .playing → s.timeline.interval = some u →
      s.row u.reel = some row → row.reel.dur ≤ u.unit + 1 → row.reel.kind ≠ .intermission → s.timeline.cursor = some c →
      c.inGap = false → s.row c.reel = some next → next.gap = 0 → s.timeline.p = row.instant u.unit + row.reel.ticks →
      next.instant c.unit ≤ s.timeline.p → s.timeline.pausePending = false → s.timeline.missing < 12 →
      ∃ t, exec (.pause tag) s = .next (reply 22 tag .nothing t) ∧ t.timeline.state = .playing ∧ t.timeline.pausePending = true ∧
        t.timeline.interval = some { reel := c.reel, unit := c.unit } ∧
        t.timeline.cursor = (s.unitAfter c.reel c.unit).map UnitRef.cursor ∧ t.timeline.p = s.timeline.p) ∧
    (∀ (c : Cursor) (row : ReelRow), s.timeline.state = .playing → s.timeline.cursor = some c → c.inGap = true →
      s.row c.reel = some row → c.unit = row.reel.entry → s.timeline.p = row.start → s.timeline.pausePending = false →
      ∃ t, exec (.pause tag) s = .next (reply 22 tag .nothing t) ∧ t.timeline.state = .playing ∧ t.timeline.pausePending = true ∧
        t.timeline.interval = some { reel := c.reel, unit := c.unit } ∧
        t.timeline.cursor = (s.unitAfter c.reel c.unit).map UnitRef.cursor ∧ t.timeline.p = s.timeline.p) ∧
    (s.timeline.state = .stalled → ∃ t, exec (.pause tag) s = .next t ∧ t.timeline.state = .paused ∧
      t.timeline.pauseReason = some .operator ∧ t.timeline.stallTimer = none ∧ t.timeline.p = s.timeline.p ∧
      t.timeline.cursor = s.timeline.cursor ∧ t.isAsserted .stall = false ∧
      reportsFrom { s with
        schedule := { s.schedule with heartbeat := 0 }, timeline := t.timeline, picture := t.picture, sync := t.sync } t) ∧
    (s.timeline.state ≠ .playing → s.timeline.state ≠ .stalled →
      exec (.pause tag) s = .next (refuse 22 tag .badState (acceptCommand s)))

/-- RESUME and the intermission's expiry leave PAUSED for PLAYING with the resume lead, and for STALLED without it; RESUME elsewhere is
refused (section 5.8). -/
def Obligations.ResumeFollowsLead : Prop :=
  ∀ (tag : Nat) (s : State),
    (s.serves = true → s.timeline.state ≠ .paused → exec (.resume tag) s = .next (refuse 23 tag .badState (acceptCommand s))) ∧
    (s.timeline.state = .paused → s.resumeMet = false →
      (s.serves = true → ∃ t, exec (.resume tag) s = .next (reply 23 tag .nothing t) ∧ t.timeline.state = .stalled ∧
        t.timeline.stalls = min 65535 (s.timeline.stalls + 1) ∧ t.timeline.stallTimer = some 0 ∧
        t.timeline.intermission = none ∧ t.timeline.p = s.timeline.p ∧ t.timeline.cursor = s.timeline.cursor ∧
        t.isAsserted .stall = true ∧ reportsFrom { s with
          schedule := { s.schedule with heartbeat := 0 }, timeline := t.timeline, picture := t.picture, sync := t.sync } t) ∧
      (s.running = true → s.timeline.intermission.isSome = true →
        ∃ t, exec .intermissionExpiry s = .next t ∧ t.timeline.state = .stalled ∧
          t.timeline.stalls = min 65535 (s.timeline.stalls + 1) ∧ t.timeline.intermission = none ∧
          t.timeline.p = s.timeline.p ∧ t.timeline.cursor = s.timeline.cursor ∧ t.isAsserted .stall = true ∧
          reportsFrom { s with timeline := t.timeline, picture := t.picture, sync := t.sync } t)) ∧
    (s.timeline.state = .paused → s.resumeMet = true →
      (s.serves = true → ∃ t, exec (.resume tag) s = .next (reply 23 tag .nothing t) ∧ t.timeline.state = .playing ∧
        t.timeline.intermission = none ∧ t.timeline.pauseReason = none ∧ t.timeline.p = s.timeline.p ∧
        t.comps = s.comps ∧ t.clock = s.clock ∧ t.store = s.store ∧ t.mgmt = s.mgmt ∧ t.sound = s.sound) ∧
      (s.running = true → s.timeline.intermission.isSome = true →
        ∃ t, exec .intermissionExpiry s = .next t ∧ t.timeline.state = .playing ∧ t.timeline.intermission = none ∧
          t.timeline.pauseReason = none ∧ t.timeline.p = s.timeline.p ∧
          t.comps = s.comps ∧ t.clock = s.clock ∧ t.store = s.store ∧ t.mgmt = s.mgmt ∧ t.sound = s.sound))

/-- What entry to CLOSING leaves: black and silent outputs without an overlay list, no cursor, no wanted reel, empty slots and queues, open lanes, empty cue
tables, no resolved tick, and one close entry at the tail of the store queue.  Where the report queue has room for them, the cancel WANTs
of the wanted set and the release HOLDs of the HELD lanes are queued, in an order that is free (notes/assumptions/19.md).  The waiting
caption messages are discarded, and a CLEAR_ALL is sent for each lane whose track in the reel in view was CLOSED (sections 5.9, 2.1, 3.6, 7.4
and 7.6; the order of the effects is notes/assumptions/20.md). -/
def Obligations.ClosingLeaves : Prop :=
  ∀ (outcome : ShowOutcome) (s : State),
    ∃ t, enterClosing outcome s = t ∧ t.timeline.state = .closing ∧ t.timeline.outcome = some outcome ∧
      t.timeline.cursor = none ∧ t.timeline.pausePending = false ∧ t.timeline.stallTimer = none ∧
      t.timeline.intermission = none ∧ t.timeline.missing = 0 ∧ t.timeline.cleanRun = 0 ∧ t.timeline.p = s.timeline.p ∧
      t.timeline.presented = s.timeline.presented ∧ t.isAsserted .stall = false ∧
      t.picture = { last := none, shown := none, overlay := none, resend := none } ∧
      t.sound.routing = Vector.replicate 4 none ∧ t.wanted = [] ∧ (∀ l, t.laneSlots l = []) ∧ (∀ l, t.queue l = []) ∧
      t.buffer.pool = s.totalBlocks ∧ t.holds = AvLanes.all LaneHold.reset ∧ t.cues.tables = Vector.replicate 4 [] ∧
      t.cues.overlay = none ∧ t.sync.armed = false ∧
      (∀ (j : Nat) (h : j < 64), t.actions.table[j].resolved = none ∧ t.actions.table[j].fired = s.actions.table[j].fired) ∧
      t.counting.charged = s.counting.charged ∧ t.counting.log = s.counting.log ∧ t.counting.places = s.counting.places ∧
      t.counting.bound = s.counting.bound ∧ t.comps = s.comps ∧ t.clock = s.clock ∧ t.store = s.store ∧ t.mgmt = s.mgmt ∧
      t.schedule = s.schedule ∧ t.pending = s.pending ∧
      (s.link.state = .up → s.link.queue.length ≤ 40 → s.wanted.length ≤ 2 →
        (∀ w ∈ s.wanted, .want w.comp w.index w.reel.ident w.reel.entry true ∈ t.link.queue) ∧
        (∀ l, (s.hold l).held = true → .hold l (s.holdTags l) 0 ∈ t.link.queue)) ∧
      (t.cues.line, t.cues.queue) =
        admitted (decide (s.cues.line = .idle)) s.cues.line [] (s.closedInView.map CaptionMsg.clearAll) ∧
      t.isAsserted .captionOverflow = false ∧
      ∃ e, e.kind = .close ∧ t.counting.queue = s.counting.queue ++ [e] ∧
        e.record = s.openRecord.map (fun r => { r with
          presented := s.timeline.presented, repeated := s.timeline.repeated, stalls := s.timeline.stalls,
          ended := some s.clock.now, endUnset := !s.clock.isSet, outcome := logOutcome outcome })

/-- STOP is accepted in the five states of an open showing before CLOSING and refused in IDLE and CLOSING; the outcome is STOPPED and
the state CLOSING at once, a pending pause is cleared, the charge stands as it was, and the reply is queued on acceptance (R88). -/
def Obligations.StopClosesAtOnce : Prop :=
  ∀ (tag : Nat) (s : State), s.serves = true →
    (s.timeline.state = .idle ∨ s.timeline.state = .closing →
      exec (.stop tag) s = .next (refuse 24 tag .badState (acceptCommand s))) ∧
    (s.timeline.state ≠ .idle → s.timeline.state ≠ .closing →
      ∃ t, exec (.stop tag) s = .next (reply 24 tag .nothing t) ∧ t = enterClosing .stopped (acceptCommand s) ∧
        t.timeline.state = .closing ∧ t.timeline.outcome = some .stopped ∧ t.timeline.pausePending = false ∧
        t.timeline.p = s.timeline.p ∧ t.counting.charged = s.counting.charged)

/-- The cue limit in CUEING, the stall limit in STALLED and the composition end in PLAYING close the showing with their outcomes
(sections 5.3, 5.7 and 5.9).  That each command takes the cue timer or P to the value at which its event falls is the model's choice
(notes/assumptions/4.md), that it changes nothing outside its state too (notes/assumptions/5.md), and the absent cursor after the last
unit's instant is read from the manual by inference (notes/assumptions/25.md). -/
def Obligations.LimitsAndEndClose : Prop :=
  ∀ s : State, s.running = true →
    (s.timeline.state = .cueing → ∃ n, s.timeline.cueTimer ≤ n ∧ s.mgmt.limits.cueSeconds * 96000 < n ∧
      exec .cueLimitExpiry s = .next (enterClosing .abandoned { s with timeline := { s.timeline with cueTimer := n } })) ∧
    (s.timeline.state ≠ .cueing → exec .cueLimitExpiry s = .next s) ∧
    (s.timeline.state = .stalled → exec .stallLimitExpiry s = .next (enterClosing .abandoned s)) ∧
    (s.timeline.state ≠ .stalled → exec .stallLimitExpiry s = .next s) ∧
    (∀ outcome, (enterClosing outcome s).timeline.state = .closing ∧
      (enterClosing outcome s).timeline.outcome = some outcome) ∧
    (∀ u row, s.timeline.state = .playing → s.timeline.cursor = none → s.timeline.interval = some u →
      s.row u.reel = some row → s.timeline.p ≤ row.instant u.unit + row.reel.ticks →
      ∃ t, exec .compositionEnd s = .next t ∧ t.timeline.state = .closing ∧ t.timeline.outcome = some .completed ∧
        t.timeline.p = row.instant u.unit + row.reel.ticks ∧ t.wanted = [])

/-- The unit due on a lane: the head where it is that unit, which leaves and returns its blocks; missing where the head comes after it or
the queue is empty; heads that come before it leave and are counted.  A deadline for a unit below the base of its reel on the lane, or
where the reel has no base there, changes nothing; one at or above the base empties the slots from the base up to the unit, counts them,
returns their blocks, moves the base past the unit, and lets the lane join (sections 3.2 and 2.6). -/
def Obligations.UnitDueAnswers : Prop :=
  ∀ (s : State) (l : Lane) (k u : Nat),
    (s.queue l = [] → (unitDue l k u s).1 = none ∧ (unitDue l k u s).2.queue l = [] ∧
      (unitDue l k u s).2.buffer.pool = s.buffer.pool) ∧
    (∀ q rest, s.queue l = q :: rest → q.reel = k → q.unit = u →
      (unitDue l k u s).1 = some q ∧ (unitDue l k u s).2.queue l = rest ∧
      (unitDue l k u s).2.buffer.pool = s.buffer.pool + q.regions.length) ∧
    (∀ q rest, s.queue l = q :: rest → k < q.reel ∨ q.reel = k ∧ u < q.unit →
      (unitDue l k u s).1 = none ∧ (unitDue l k u s).2.queue l = s.queue l ∧
      (unitDue l k u s).2.buffer.pool = s.buffer.pool) ∧
    (∀ before q rest, s.queue l = before ++ q :: rest → (∀ b ∈ before, b.reel < k ∨ b.reel = k ∧ b.unit < u) →
      q.reel = k → q.unit = u →
      (unitDue l k u s).1 = some q ∧ (unitDue l k u s).2.queue l = rest ∧
      (unitDue l k u s).2.buffer.pool = s.buffer.pool + unitBlocks before + q.regions.length ∧
      (unitDue l k u s).2.counters.discarded = min 4294967295 (s.counters.discarded + before.length)) ∧
    (∀ m, m ≠ l → (unitDue l k u s).2.queue m = s.queue m) ∧ (unitDue l k u s).2.slots = s.slots ∧
    (s.base k l = none → deadline l k u s = s) ∧
    (∀ b, s.base k l = some b → u < b → deadline l k u s = s) ∧
    (∀ b, s.base k l = some b → b ≤ u →
      let goes : AsmSlot → Bool := fun x => decide (x.reel = k) && decide (b ≤ x.unit) && decide (x.unit ≤ u)
      ∃ t, deadline l k u s = joinLane l t ∧ t.base k l = some (u + 1) ∧
        (∀ j m, j ≠ k ∨ m ≠ l → t.base j m = s.base j m) ∧
        t.laneSlots l = (s.laneSlots l).filter (fun x => !goes x) ∧ (∀ m, m ≠ l → t.laneSlots m = s.laneSlots m) ∧
        t.counters.discarded = min 4294967295 (s.counters.discarded + ((s.laneSlots l).filter goes).length) ∧
        t.buffer = { s.buffer with pool := s.buffer.pool + slotBlocks ((s.laneSlots l).filter goes) })

/-- A picture release instant in PLAYING, with no interval running before it: the picture goes out where each picture lane of the reel
hands over a unit that the policy lets pass, and is repeated otherwise; counts, cursor, interval and the paces of the reel's picture
lanes follow, and so does the charge at Q.  The reel is in view, its cues that have ended leave, and the POSITION entries whose tick is
reached have fired; the frame's overlay list goes with the picture, and FRAME waits for a fresh first edge where the next unit's reel has
another expected period (sections 5.4, 5.5, 5.10, 3.4, 6.5, 8.2, 7.4 and 9.5; for FRAME notes/assumptions/58.md).  That the command takes P to the instant from any
earlier value, and serves nothing that lies in between, is the model's choice (notes/assumptions/4.md and 53.md). -/
def Obligations.PictureInstantDecides : Prop :=
  ∀ (s : State) (c : Cursor) (row : ReelRow), s.running = true → s.timeline.state = .playing → s.timeline.cursor = some c →
    c.inGap = false → s.row c.reel = some row → s.timeline.interval = none → s.timeline.p ≤ row.instant c.unit →
    let s' := reachTick (row.instant c.unit) s
    let left := (pictureDue 0 c.reel c.unit s').1
    let right := (pictureDue 1 c.reel c.unit (pictureDue 0 c.reel c.unit s').2).1
    ∃ t, exec .pictureReleaseInstant s = .next t ∧ t.timeline.state = .playing ∧ t.timeline.p = row.instant c.unit ∧
      t.timeline.interval = some { reel := c.reel, unit := c.unit } ∧
      t.timeline.cursor = (s.unitAfter c.reel c.unit).map UnitRef.cursor ∧
      t.picture.shown = t.picture.last ∧ t.timeline.stalls = s.timeline.stalls ∧
      t.picture.overlay = t.cues.overlay ∧ t.cues.overlay ≠ none ∧
      t.sync.frame = (if t.expectedPeriod = row.reel.framePeriod then s.sync.frame
        else { mode := .period, state := .waitFirst, count := .ticks 0, judged := false }) ∧
      t.comps = s.comps ∧ t.clock = s.clock ∧ t.store = s.store ∧ t.mgmt = s.mgmt ∧ t.sound = s.sound ∧ t.schedule = s.schedule ∧
      (∀ q, left = some q → (q.damaged = false ∨ s.mgmt.limits.picturePolicy = 1) →
        (row.reel.stereo = false ∨ s.passes right = true) →
        t.picture.last = some {
          reel := c.reel, unit := c.unit, left := q.content,
          right := if row.reel.stereo then right.map UnitRec.content else none } ∧
        t.timeline.missing = 0 ∧ t.timeline.cleanRun = min 96 (s.timeline.cleanRun + 1) ∧
        t.timeline.repeated = s.timeline.repeated ∧ t.counters.repeats = s.counters.repeats ∧
        t.timeline.presented = s.timeline.presented + (if row.reel.kind = .feature then 1 else 0)) ∧
      ((s.passes left = false ∨ row.reel.stereo = true ∧ s.passes right = false) →
        t.picture.last = s.picture.last ∧ t.timeline.missing = min 12 (s.timeline.missing + 1) ∧ t.timeline.cleanRun = 0 ∧
        t.timeline.repeated = min 4294967295 (s.timeline.repeated + 1) ∧
        t.counters.repeats = min 4294967295 (s.counters.repeats + 1) ∧ t.timeline.presented = s.timeline.presented) ∧
      (t.hold (.pic 0)).pace = (if s.passes left then (s.hold (.pic 0)).pace - 1 else 31) ∧
      (t.hold (.pic 1)).pace = (if row.reel.stereo then (if s.passes right then (s.hold (.pic 1)).pace - 1 else 31)
        else (s.hold (.pic 1)).pace) ∧
      (∀ i a, s.passes left = true → (row.reel.stereo = true → s.passes right = true) → row.reel.kind = .feature →
        s.counting.bound = some i → s.counting.charged = false → s.counting.point = some (s.timeline.presented + 1) →
        (s.place i).record = some a →
        t.counting.charged = true ∧ (t.place i).record = some { a with used := min 65535 (a.used + 1) } ∧
        (t.event .showingCounted).count = min 65535 ((s.event .showingCounted).count + 1)) ∧
      ((s.passes left = false ∨ row.reel.stereo = true ∧ s.passes right = false) ∨ row.reel.kind ≠ .feature ∨
        s.counting.bound = none ∨ s.counting.charged = true ∨ s.counting.point ≠ some (s.timeline.presented + 1) →
        t.counting = s.counting) ∧
      t.cues.inView = some c.reel ∧ (∀ i, ∀ e ∈ t.cueTable i, e.reel = c.reel → (row.instant c.unit : Int) < e.tout) ∧
      (∀ (j : Nat) (h : j < 64), t.actions.table[j] = { s.actions.table[j] with
        fired := s.actions.table[j].fired || (s.actions.table[j].enabled &&
          (s.actions.table[j].resolved.map (fun n => decide (n ≤ row.instant c.unit))).getD false) })

/-- The end of a unit's interval in PLAYING that is not a reel's last: a pending pause is taken, the 12th consecutive missing release
stalls the showing where the resume lead is not met, and where it is met PLAYING is entered again in the same event with the next unit's
instant; otherwise the showing plays on (sections 5.7 and 5.8).  That the command takes P to the interval's end from any earlier value,
and serves nothing that lies in between, is the model's choice (notes/assumptions/4.md and 53.md). -/
def Obligations.UnitIntervalEnds : Prop :=
  ∀ (s : State) (u : UnitRef) (c : Cursor) (row : ReelRow), s.running = true → s.timeline.state = .playing →
    s.timeline.interval = some u → s.timeline.cursor = some c → s.row u.reel = some row → u.unit + 1 < row.reel.dur →
    s.timeline.p ≤ row.instant u.unit + row.reel.ticks →
    let s' := reachTick (row.instant u.unit + row.reel.ticks) s
    (s.timeline.pausePending = true → ∃ t, exec .unitIntervalEnd s = .next t ∧ t.timeline.state = .paused ∧
      t.timeline.pauseReason = some .operator ∧ t.timeline.pausePending = false ∧ t.timeline.interval = none ∧
      t.timeline.cursor = some c ∧ t.timeline.p = row.instant u.unit + row.reel.ticks ∧
      reportsFrom { s' with timeline := t.timeline, sync := t.sync, picture := t.picture } t) ∧
    (s.timeline.pausePending = false → 12 ≤ s.timeline.missing → s'.resumeMet = false →
      ∃ t, exec .unitIntervalEnd s = .next t ∧ t.timeline.state = .stalled ∧ t.timeline.stallTimer = some 0 ∧
      t.timeline.stalls = min 65535 (s.timeline.stalls + 1) ∧ t.isAsserted .stall = true ∧ t.timeline.interval = none ∧
      t.timeline.cursor = some c ∧ t.timeline.p = row.instant u.unit + row.reel.ticks ∧
      reportsFrom { s' with timeline := t.timeline, sync := t.sync, picture := t.picture } t) ∧
    (s.timeline.pausePending = false → 12 ≤ s.timeline.missing → s'.resumeMet = true → row.reel.entry ≤ u.unit →
      c = { reel := u.reel, unit := u.unit + 1, inGap := false } →
      ∃ t, exec .unitIntervalEnd s = .next t ∧ t.timeline.state = .playing ∧ t.timeline.stallTimer = none ∧
      t.timeline.stalls = min 65535 (s.timeline.stalls + 1) ∧ t.isAsserted .stall = false ∧
      t.timeline.interval = some { reel := u.reel, unit := u.unit + 1 } ∧
      t.timeline.p = row.instant u.unit + row.reel.ticks) ∧
    (s.timeline.pausePending = false → s.timeline.missing < 12 →
      exec .unitIntervalEnd s = .next { s' with timeline := { s'.timeline with interval := none } })

/-- The end of a reel's last interval: an INTERMISSION reel pauses the showing for its hold, a gap begins where the next reel has one, and
where it has none its first instant is taken at once, with FRAME waiting for a fresh first edge where the expected period changes at the
boundary, or at that instant where it is the reel's only one (notes/assumptions/58.md); the
gap's end takes a pending pause or the next reel's first instant (sections 5.6, 5.8 and 6.5).  That the commands take P to the end of the
reel or of the gap from any earlier value, and serve nothing that lies in between, is the model's choice (notes/assumptions/4.md and
53.md). -/
def Obligations.ReelBoundaries : Prop :=
  (∀ (s : State) (u : UnitRef) (c : Cursor) (row next : ReelRow), s.running = true → s.timeline.state = .playing →
    s.timeline.interval = some u → s.timeline.cursor = some c → s.row u.reel = some row → s.row c.reel = some next →
    row.reel.dur ≤ u.unit + 1 → s.timeline.p ≤ row.instant u.unit + row.reel.ticks →
    (row.reel.kind = .intermission → ∃ t, exec .unitIntervalEnd s = .next t ∧ t.timeline.state = .paused ∧
      t.timeline.cursor = some c ∧ t.timeline.pausePending = false ∧ t.timeline.p = row.instant u.unit + row.reel.ticks ∧
      t.timeline.pauseReason = some (if s.timeline.pausePending then .operator else .intermission) ∧
      t.timeline.intermission =
        (if s.timeline.pausePending = false ∧ row.reel.hold ≠ 0 then some (row.reel.hold * 96000) else none)) ∧
    (row.reel.kind ≠ .intermission → s.timeline.pausePending = false → s.timeline.missing < 12 → 0 < next.gap →
      ∃ t, exec .unitIntervalEnd s = .next t ∧ t.timeline.state = .playing ∧ t.timeline.cursor = some { c with inGap := true } ∧
        t.timeline.p = row.instant u.unit + row.reel.ticks ∧ t.picture.shown = none ∧ t.picture.overlay = some [] ∧
        t.cues.overlay = none ∧ t.sync.frame.mode = .off ∧ (formatsDiffer row.reel next.reel = true → t.picture.last = none)) ∧
    (row.reel.kind ≠ .intermission → s.timeline.pausePending = false → s.timeline.missing < 12 → next.gap = 0 → c.inGap = false →
      ∃ t, exec .unitIntervalEnd s = .next t ∧ t.timeline.state = .playing ∧
        t.timeline.interval = some { reel := c.reel, unit := c.unit } ∧
        t.timeline.cursor = (s.unitAfter c.reel c.unit).map UnitRef.cursor ∧
        t.timeline.p = row.instant u.unit + row.reel.ticks ∧
        t.sync.frame = (if row.reel.framePeriod = next.reel.framePeriod ∧ t.expectedPeriod = next.reel.framePeriod then s.sync.frame
          else { mode := .period, state := .waitFirst, count := .ticks 0, judged := false }))) ∧
  (∀ (s : State) (c : Cursor) (row : ReelRow), s.running = true → s.timeline.state = .playing → s.timeline.cursor = some c →
    c.inGap = true → s.row c.reel = some row → s.timeline.p ≤ row.start →
    (s.timeline.pausePending = true → ∃ t, exec .gapEnd s = .next t ∧ t.timeline.state = .paused ∧
      t.timeline.pauseReason = some .operator ∧ t.timeline.pausePending = false ∧
      t.timeline.cursor = some { c with inGap := false } ∧ t.timeline.p = row.start) ∧
    (s.timeline.pausePending = false → ∃ t, exec .gapEnd s = .next t ∧ t.timeline.state = .playing ∧
      t.timeline.interval = some { reel := c.reel, unit := c.unit } ∧
      t.timeline.cursor = (s.unitAfter c.reel c.unit).map UnitRef.cursor ∧ t.timeline.p = row.start))

/-- In PAUSED and STALLED the held picture is sent again with the frozen overlay, whose texts are absent, and nothing else changes
(sections 5.2 and 7.4).  That the frozen list is empty where the last overlay list is absent is the model's choice
(notes/assumptions/66.md). -/
def Obligations.HeldPictureSentAgain : Prop :=
  ∀ (s : State) (row : ReelRow), s.running = true → s.timeline.state = .paused ∨ s.timeline.state = .stalled →
    s.currentRow = some row →
    exec .heldPictureResend s = .next { s with picture := { s.picture with
      shown := s.picture.last, overlay := some ((s.cues.overlay.getD []).map (fun e => { e with text := none })),
      resend := some row.reel.ticks } }

/-! ## Sound and sync -/

/-- A sound instant in PLAYING.  It falls at R(u) + A, A being that of the live delay at the reel's own rate at a reel with sound groups
that has not begun to sound (the model's choice where the rate changes, notes/assumptions/89.md).  At a reel without sound groups A and the sound reel in play stay as they are, which is read by inference
(notes/assumptions/31.md).  With no staged delay to apply the sound cursor passes the unit, each lane of the reel takes it, another lane's
queue gains at most complete units whose turn comes as a reel leaves, and at a new reel the routings named by its groups come into force.
At a boundary outside a gap the staged delay becomes live: a change of 0 samples takes the instant, a positive one moves X back and leaves
the unit to come, and a negative one passes the units before the new X, with one deadline on each lane for the last of them that the lane
has (notes/assumptions/68.md), and begins the unit that contains it.  A lane sounds its unit where that is
GOOD with its group's size, or is handed over under PASS, and is silent otherwise, with the silence counted, SOUND_SILENCE and its pace.
An output carries the saturated sum of the lanes' samples that feed it, and 0 outside PLAYING, in a gap, and where every lane is silent
(sections 6.1 to 6.3).  That the command takes P to the instant from any earlier value, and serves nothing in between, is the model's
choice (notes/assumptions/4.md and 53.md); that the unit which contains X plays from the position X is read by inference
(notes/assumptions/52.md). -/
def Obligations.SoundInstantTaken : Prop :=
  (∀ (s : State) (c : UnitRef) (row : ReelRow), s.running = true → s.timeline.state = .playing → s.sound.cursor = some c →
    s.row c.reel = some row →
    let A : Int := if s.sound.reel = some c.reel ∨ row.reel.sounds = [] then s.sound.offset
      else shiftSamples s.sound.live row.reel.sampleTicks * row.reel.sampleTicks
    let tick := ((row.instant c.unit : Int) + A).toNat
    (s.sound.pending = false ∨ s.inGap = true →
      ∃ t, exec .soundReleaseInstant s = .next t ∧ t.sound.cursor = s.unitAfter c.reel c.unit ∧ t.sound.live = s.sound.live ∧
        t.sound.staged = s.sound.staged ∧ t.sound.pending = s.sound.pending ∧ t.sound.offset = A ∧
        t.timeline.p = max s.timeline.p tick ∧ t.timeline.cursor = s.timeline.cursor ∧ t.picture = s.picture ∧
        t.mgmt = s.mgmt ∧ t.store = s.store ∧
        (row.reel.sounds ≠ [] → t.sound.reel = some c.reel) ∧
        (∀ i, (∀ g ∈ row.reel.sounds, g.lane ≠ .snd i) → t.sound.plays[i] = none ∧ ∃ joined : List AsmSlot,
          t.queue (.snd i) = s.queue (.snd i) ++ joined.map AsmSlot.record ∧
          ∀ x ∈ joined, x ∈ s.laneSlots (.snd i) ∧ x.complete = true) ∧
        (s.sound.reel = some c.reel → t.sound.routing = s.sound.routing) ∧
        ((row.reel.sounds.map SoundGroup.lane).Nodup → ∀ g ∈ row.reel.sounds, ∀ i, g.lane = .snd i →
          (∃ p, t.sound.plays[i] = some p ∧ p.reel = c.reel ∧ p.unit = c.unit ∧ p.channels = g.channels) ∧
          (s.sound.reel ≠ some c.reel → t.sound.routing[i] = s.sound.maps[g.map]? ∧ t.sound.hiRate = row.reel.hi))) ∧
    (s.sound.pending = true → s.inGap = false →
      let per := s.sampleTicksAt c.reel
      let delta := shiftSamples s.sound.staged per - shiftSamples s.sound.live per
      ∃ t, exec .soundReleaseInstant s = .next t ∧ t.sound.live = s.sound.staged ∧ t.sound.staged = s.sound.staged ∧
        t.sound.pending = false ∧ t.timeline.p = max s.timeline.p tick ∧ t.timeline.cursor = s.timeline.cursor ∧
        (0 < delta → t.sound.cursor = some c ∧ t.sound.offset = s.sound.offset + delta * per ∧
          t.sound.plays = Vector.replicate 4 none) ∧
        (delta = 0 → t.sound.cursor = s.unitAfter c.reel c.unit) ∧
        (∀ n : Nat, delta < 0 → n < 64 → row.reel.entry ≤ c.unit → c.unit + n < row.reel.dur → s.sound.reel = some c.reel →
          (row.instant (c.unit + n) : Int) ≤ (row.instant c.unit : Int) - delta * per →
          (row.instant c.unit : Int) - delta * per < (row.instant (c.unit + n) : Int) + row.reel.ticks →
          t.sound.cursor = s.unitAfter c.reel (c.unit + n) ∧ t.sound.offset = s.sound.offset + delta * per))) ∧
  (∀ (s : State) (i : Fin 4) (passed : List UnitRef),
    (s.lastOn i passed = none → passLane passed s i = s) ∧
    (∀ u, s.lastOn i passed = some u →
      passLane passed s i = dropStaleHeads (.snd i) u.reel (u.unit + 1) (deadline (.snd i) u.reel u.unit s) ∧
      ∃ before after row, passed = before ++ u :: after ∧ s.row u.reel = some row ∧ .snd i ∈ row.reel.lanes ∧
        ∀ v ∈ after, ∀ r, s.row v.reel = some r → .snd i ∉ r.reel.lanes)) ∧
  (∀ (k u : Nat) (r : Reel) (s : State) (g : SoundGroup) (i : Fin 4), g.lane = .snd i →
    let due := unitDue (.snd i) k u (deadline (.snd i) k u s)
    let sounding := ∃ q, due.1 = some q ∧ (q.damaged = false ∧ q.size = groupBytes r g ∨ s.mgmt.limits.soundPolicy = 1)
    let t := takeGroup k u r s g
    t.queue (.snd i) = due.2.queue (.snd i) ∧
    (∃ p, t.sound.plays[i] = some p ∧ p.reel = k ∧ p.unit = u ∧ p.channels = g.channels ∧ (p.silent = false ↔ sounding) ∧
      ∀ q, due.1 = some q → p.size = q.size ∧ p.content = q.content) ∧
    (sounding → t.counters.silences = s.counters.silences ∧ t.sound.cleanRun = min 96 (s.sound.cleanRun + 1) ∧
      (t.hold (.snd i)).pace = (s.hold (.snd i)).pace - 1 ∧ (95 ≤ s.sound.cleanRun → t.isAsserted .soundSilence = false)) ∧
    (¬ sounding → t.counters.silences = min 4294967295 (s.counters.silences + 1) ∧ t.sound.cleanRun = 0 ∧
      (t.hold (.snd i)).pace = 31 ∧ t.isAsserted .soundSilence = true)) ∧
  (∀ (s : State) (output : Nat),
    (s.timeline.state ≠ .playing ∨ s.inGap = true → s.soundOutput output = 0) ∧
    (s.timeline.state = .playing → s.inGap = false → s.soundOutput output = max (-8388608) (min 8388607
      (s.laneFeed 0 output + s.laneFeed 1 output + s.laneFeed 2 output + s.laneFeed 3 output))) ∧
    ((∀ (i : Fin 4) (p : SoundPlay), s.sound.plays[i] = some p → p.silent = true) → s.soundOutput output = 0) ∧
    (∀ i : Fin 4, s.sound.plays[i] = none ∨ s.sound.routing[i] = none → s.laneFeed i output = 0) ∧
    (∀ (i : Fin 4) (p : SoundPlay) (row : ReelRow) (channel : Nat), s.sound.plays[i] = some p → s.row p.reel = some row →
      s.sound.routing[i] = some [{ lane := i, channel := channel, output := output }] → channel < p.channels →
      let into := (s.timeline.p : Int) - s.sound.offset - (row.instant p.unit : Int)
      0 ≤ into → into < row.reel.ticks → s.lastCut row p.unit into = false →
      s.laneFeed i output = p.sample (into.toNat / row.reel.sampleTicks) channel))

/-- SET_SYNC writes the staged delay clamped to ±24,000, with SYNC_LIMIT occurring for a clamp, and leaves the live delay; SYNC_CHECK arms
a check on its target reel, and is refused BUSY or BAD_STATE.  The release of a sync mark of the target reel opens a pair record, MISSING
where the release was missing, puts LIGHT and ECHO into MARK_DELAY, and makes the record before it OVERRUN where its count still ran.  A
change of the live delay makes every opened record STALE_DELAY.  A check finishes at the target reel's end or, with a MARK_DELAY count
running, when that ends; and at CLOSING, where a record with such a count becomes NO_EDGE.  Finishing turns the check, LIGHT and ECHO OFF,
makes SYNC_RESULT occur and leaves the result: with three or more VALID records the correction is the mean of Lp - Ls to nearest, ties
toward zero, the proposed delay is the live one plus it, clamped with SYNC_LIMIT, and auto-apply stages it; with fewer it is INCONCLUSIVE
(sections 6.3 and 6.4; a record that is STALE_DELAY or MISSING already is notes/assumptions/73.md, and a width count at CLOSING 84.md). -/
def Obligations.SyncCommands : Prop :=
  (∀ (tag : Nat) (s : State), s.serves = true →
    (∀ delay : Int, ∃ t, exec (.setSync tag delay) s = .next (reply 25 tag (.sync (max (-24000) (min 24000 delay)) s.sound.live) t) ∧
      reportsFrom { s with
        schedule := { s.schedule with heartbeat := 0 },
        sound := { s.sound with staged := max (-24000) (min 24000 delay), pending := true } } t ∧
      (-24000 ≤ delay → delay ≤ 24000 → t.event .syncLimit = s.event .syncLimit) ∧
      (delay < -24000 ∨ 24000 < delay → (t.event .syncLimit).count = min 65535 ((s.event .syncLimit).count + 1))) ∧
    (∀ auto : Bool,
      (s.sync.armed = true → exec (.syncCheck tag auto) s = .next (refuse 26 tag .busy (acceptCommand s))) ∧
      (s.sync.armed = false → s.timeline.state = .idle ∨ s.timeline.state = .closing →
        exec (.syncCheck tag auto) s = .next (refuse 26 tag .badState (acceptCommand s))) ∧
      (s.sync.armed = false → s.checkTarget = none →
        exec (.syncCheck tag auto) s = .next (refuse 26 tag .badState (acceptCommand s))) ∧
      (∀ k, s.sync.armed = false → s.timeline.state ≠ .idle → s.timeline.state ≠ .closing → s.checkTarget = some k →
        exec (.syncCheck tag auto) s = .next (reply 26 tag .nothing { acceptCommand s with
          sync := { s.sync with armed := true, auto := auto, target := some k, finishDue := false, pairs := [] } })))) ∧
  (∀ (s : State) (k u : Nat) (missing : Bool),
    let counts (c : CapChannel) : Prop := c.mode = .markDelay ∧ c.state = .counting
    let begun : CapChannel := { mode := .markDelay, state := .counting, count := .ticks 0, judged := false }
    let isMark := s.sync.armed = true ∧ s.sync.target = some k ∧
      ∃ row, s.row k = some row ∧ row.reel.kind = .test ∧ row.reel.marks.contains u = true
    (s.sync.marking = true ↔ counts s.sync.light ∨ counts s.sync.echo) ∧
    (¬ isMark → markRelease k u missing s = s) ∧
    (isMark → ∃ earlier : List PairRec,
      markRelease k u missing s = { s with sync := { s.sync with light := begun, echo := begun, pairs := earlier ++ [{
        mark := u, light := none, echo := none, flashWidth := none, echoWidth := none, delay := s.sound.live,
        validity := if missing then some .missing else none }] } } ∧
      (s.sync.marking = false → earlier = s.sync.pairs) ∧
      (∀ before p, s.sync.marking = true → s.sync.pairs = before ++ [p] →
        (p.validity = none → earlier = before ++ [{ p with validity := some .overrun }]) ∧
        (p.validity ≠ none → earlier = before ++ [p])))) ∧
  (∀ s : State,
    makeLive s = { s with
      sound := { s.sound with live := s.sound.staged, pending := false },
      sync := if s.sound.staged ≠ s.sound.live ∧ s.sync.armed = true then
          { s.sync with pairs := s.sync.pairs.map (fun p => { p with validity := some .staleDelay }) }
        else s.sync }) ∧
  (∀ (s : State) (k : Nat),
    (s.sync.armed = false ∨ s.sync.target ≠ some k → checkReelEnd k s = s) ∧
    (s.sync.armed = true → s.sync.target = some k →
      (s.sync.marking = false → checkReelEnd k s = finishCheck s) ∧
      (s.sync.marking = true → checkReelEnd k s = { s with sync := { s.sync with finishDue := true } })) ∧
    (s.sync.armed = false → checkClosing s = s) ∧
    (s.sync.armed = true → s.sync.marking = false → checkClosing s = finishCheck s) ∧
    (∀ before p, s.sync.armed = true → s.sync.marking = true → s.sync.pairs = before ++ [p] →
      (p.validity = none → checkClosing s = finishCheck { s with
        sync := { s.sync with pairs := before ++ [{ p with validity := some .noEdge }] } }) ∧
      (p.validity ≠ none → checkClosing s = finishCheck s))) ∧
  (∀ (p : PairRec) (d : Int), p.difference = some d ↔
    p.validity = some .valid ∧ ∃ a b : Nat, p.light = some (.ticks a) ∧ p.echo = some (.ticks b) ∧ d = (a : Int) - b) ∧
  (∀ s : State,
    let diffs := s.sync.pairs.filterMap PairRec.difference
    let n := diffs.length
    let t := finishCheck s
    let off : CapChannel := { mode := .off, state := .idle, count := .ticks 0, judged := false }
    ∃ r : SyncResult,
      t.sync = { s.sync with armed := false, target := none, finishDue := false, light := off, echo := off, last := some r } ∧
      r.reel = s.sync.target.getD 0 ∧ r.comp = s.boundIdent ∧ r.records = s.sync.pairs.length ∧ r.valid = n ∧
      r.pairs = s.sync.pairs ∧ r.finished = s.clock.now ∧ (r.conclusive = true ↔ 3 ≤ n) ∧
      reportsFrom { s with sync := t.sync, sound := t.sound } t ∧
      (t.event .syncResult).count = min 65535 ((s.event .syncResult).count + 1) ∧
      (n < 3 → r.correction = none ∧ r.proposed = none ∧ r.clamped = false ∧ r.staged = false ∧ t.sound = s.sound ∧
        t.event .syncLimit = s.event .syncLimit) ∧
      (3 ≤ n → ∃ m : Int, r.correction = some m ∧ 2 * (diffs.sum - m * n).natAbs ≤ n ∧
        (2 * (diffs.sum - m * n).natAbs = n → (m * n).natAbs ≤ diffs.sum.natAbs) ∧
        let proposed := max (-24000) (min 24000 (s.sound.live + m))
        r.proposed = some proposed ∧ (r.clamped = true ↔ proposed ≠ s.sound.live + m) ∧ r.staged = s.sync.auto ∧
        t.sound = (if s.sync.auto then { s.sound with staged := proposed, pending := true } else s.sound) ∧
        (proposed = s.sound.live + m → t.event .syncLimit = s.event .syncLimit) ∧
        (proposed ≠ s.sound.live + m →
          (t.event .syncLimit).count = min 65535 ((s.event .syncLimit).count + 1))))

/-- Capture channels: a rising edge ends a MARK_DELAY count of LIGHT or ECHO and begins its width; a count of 96,000 ends as NO_EDGE; a
rising edge on FRAME ends FRAME_SIGNAL_LOST; a FRAME count of four periods asserts it, with one bad measurement in PERIOD.  A rising
edge in PERIOD ends the count and begins the next: within a 64th of the expected period it is a good measurement, and otherwise a bad
one; the 4th bad one in a row asserts PROJECTOR_SLIP, and the 16th good one in a row deasserts it (sections 6.4 and 6.5).  The expected
period is that of the reel of the next picture unit to release, and with none left that of the reel whose interval runs
(notes/assumptions/58.md), and a record with a validity keeps it when a count ends (for a
STALE_DELAY one notes/assumptions/73.md). -/
def Obligations.CaptureChannels : Prop :=
  ∀ s : State, s.running = true →
    (∀ n, s.sync.light = { mode := .markDelay, state := .counting, count := .ticks n, judged := false } → s.sync.finishDue = false →
      exec (.captureEdge .light .rising) s = .next { s with sync := { s.sync with
        light := { mode := .highWidth, state := .counting, count := .ticks 0, judged := false },
        pairs := editLast (fun p => ({ p with light := some (.ticks n) } : PairRec).settle) s.sync.pairs } }) ∧
    (∀ n, s.sync.echo = { mode := .markDelay, state := .counting, count := .ticks n, judged := false } → s.sync.finishDue = false →
      exec (.captureEdge .echo .rising) s = .next { s with sync := { s.sync with
        echo := { mode := .highWidth, state := .counting, count := .ticks 0, judged := false },
        pairs := editLast (fun p => ({ p with echo := some (.ticks n) } : PairRec).settle) s.sync.pairs } }) ∧
    (s.sync.light.mode = .markDelay → s.sync.light.state = .counting → s.sync.finishDue = false →
      ∃ t, exec (.captureCountTimeout .light) s = .next t ∧
        t.sync.pairs = editLast (fun p => ({ p with light := some .noEdge } : PairRec).settle) s.sync.pairs ∧
        t.sync.light.state ≠ .counting ∧ t = { s with sync := t.sync }) ∧
    (s.sync.frame.state = .counting → ∃ t, exec (.captureCountTimeout .frame) s = .next t ∧
      t.sync.frame.state = .waitFirst ∧ t.sync.frame.count = .noEdge ∧
      (s.sync.frame.judged = false → t.isAsserted .frameSignalLost = true)) ∧
    (∃ t, exec (.captureEdge .frame .rising) s = .next t ∧ t.isAsserted .frameSignalLost = false ∧ t.timeline = s.timeline ∧
      t.picture = s.picture) ∧
    (s.sync.frame.state = .counting → s.sync.frame.judged = false → ∃ t, exec .frameSignalLoss s = .next t ∧
      t.isAsserted .frameSignalLost = true ∧ t.sync.frame.judged = true ∧ t.timeline = s.timeline ∧ t.picture = s.picture ∧
      (s.sync.frame.mode = .period → t.sync.bad = min 4 (s.sync.bad + 1) ∧ t.sync.good = 0) ∧
      (s.sync.frame.mode ≠ .period → t.sync.bad = s.sync.bad ∧ t.sync.good = s.sync.good)) ∧
    (∀ n, s.sync.frame = { mode := .period, state := .counting, count := .ticks n, judged := false } →
      let e := s.expectedPeriod
      let near := n ≤ e + e / 64 ∧ e ≤ n + e / 64
      ∃ t, exec (.captureEdge .frame .rising) s = .next t ∧
        t.sync.frame = { mode := .period, state := .counting, count := .ticks 0, judged := false } ∧
        (near → t.sync.good = min 16 (s.sync.good + 1) ∧ t.sync.bad = 0 ∧
          (15 ≤ s.sync.good → t.isAsserted .projectorSlip = false)) ∧
        (¬ near → t.sync.bad = min 4 (s.sync.bad + 1) ∧ t.sync.good = 0 ∧
          (3 ≤ s.sync.bad → t.isAsserted .projectorSlip = true)) ∧
        (near ∧ s.sync.good < 15 ∨ ¬ near ∧ s.sync.bad < 3 → t.isAsserted .projectorSlip = s.isAsserted .projectorSlip)) ∧
    (∀ c row, s.timeline.cursor = some c → s.row c.reel = some row →
      s.expectedPeriod = if row.reel.stereo then row.reel.ticks / 2 else row.reel.ticks) ∧
    (∀ u row, s.timeline.cursor = none → s.timeline.interval = some u → s.row u.reel = some row →
      s.expectedPeriod = if row.reel.stereo then row.reel.ticks / 2 else row.reel.ticks)

/-! ## Lines, store and events -/

/-- The two serial lines: a message that has gone out is counted and spaced; after the spacing the oldest message leaves the queue, or
the line rests; the overflow event is deasserted when the queue becomes empty (sections 7.5 and 9.6). -/
def Obligations.SerialLinesProceed : Prop :=
  ∀ s : State, s.running = true →
    (∀ m, s.cues.line = .sending m → exec .captionMessageSent s = .next { s with
      cues := { s.cues with line := .spacing, timer := 40 },
      counters := { s.counters with captionsSent := min 4294967295 (s.counters.captionsSent + 1) } }) ∧
    (s.cues.line = .spacing → s.cues.queue = [] → exec .captionSpacingEnd s = .next { s with
      cues := { s.cues with line := .idle, timer := 0 } }) ∧
    (∀ m rest, s.cues.line = .spacing → s.cues.queue = m :: rest → ∃ t, exec .captionSpacingEnd s = .next t ∧
      reportsFrom { s with cues := { s.cues with queue := rest, line := .sending m, timer := 20 * (captionBytes m).length } } t ∧
      (rest ≠ [] → t.events = s.events) ∧ (rest = [] → t.isAsserted .captionOverflow = false)) ∧
    (∀ m, s.actions.line = .sending m → exec .boothMessageSent s = .next { s with
      actions := { s.actions with line := .spacing, timer := 200 },
      counters := { s.counters with actionsSent := min 4294967295 (s.counters.actionsSent + 1) } }) ∧
    (s.actions.line = .spacing → s.actions.queue = [] → exec .boothSpacingEnd s = .next { s with
      actions := { s.actions with line := .idle, timer := 0 } }) ∧
    (∀ m rest, s.actions.line = .spacing → s.actions.queue = m :: rest → rest ≠ [] ∨ s.isAsserted .actionOverflow = false →
      exec .boothSpacingEnd s = .next { s with
        actions := { s.actions with queue := rest, line := .sending m, timer := 200 } }) ∧
    (∀ m, s.actions.line = .spacing → s.actions.queue = [m] → s.isAsserted .actionOverflow = true →
      (s.actions.triggered (.event EventKind.actionOverflow.num false)).length ≤ 16 →
      ∃ t, exec .boothSpacingEnd s = .next t ∧ t.isAsserted .actionOverflow = false ∧ t.actions.line = .sending m ∧
        t.actions.queue = s.actions.triggered (.event EventKind.actionOverflow.num false))

/-- The write of the store queue's head: completed, it puts what the entry covers and the header into the store and clears STORE_FAULT;
failed, it leaves the store and asserts STORE_FAULT; the entry leaves the queue and its source is told, a reconciliation going on with
the next OPEN record (sections 8.4 and 8.5).  That STORE_FAULT changes before the source is told is the model's choice
(notes/assumptions/67.md). -/
def Obligations.StoreWriteEnds : Prop :=
  ∀ (ok : Bool) (s : State) (e : StoreEntry) (rest : List StoreEntry), s.running = true → s.counting.queue = e :: rest →
    ∃ t, exec (.storeWriteEnd ok) s = .next (reportWrite e ok t) ∧ t.counting.queue = rest ∧
      t.store = (if ok then s.store.write e s.counting.header else s.store) ∧ t.isAsserted .storeFault = !ok ∧
      reportsFrom { s with store := t.store, counting := { s.counting with queue := rest, header := s.counting.next } } t ∧
      (e.kind = .creation ∨ e.kind = .charge → e.owed = none → reportWrite e ok t = t) ∧
      (e.kind = .allowance ∨ e.kind = .marking → ∀ o, e.owed = some o →
        reportWrite e ok t = reply o.code o.tag (o.results.withWrite ok) t) ∧
      (e.kind = .reconciliation → reportWrite e ok t = reconcileNext t) ∧
      (e.kind = .close → ∀ (r : LogRecord) (i : Fin 4) (c : Composition), e.record = some r → s.timeline.slot = some i →
        s.comps[i] = .inUse c →
        (reportWrite e ok t).timeline = Timeline.reset ∧ (reportWrite e ok t).comps[i] = .loaded c ∧
        (reportWrite e ok t).counting.bound = none ∧
        (reportWrite e ok t).counting.log = s.counting.log.map (fun x => if x.number = r.number then r else x) ∧
        ((reportWrite e ok t).event .showingEnded).count = min 65535 ((s.event .showingEnded).count + 1))

/-- What a completed store write leaves in the store: the record in its place with every other record, the allowance in its place with
every other allowance, the exported marks, the header, and the fresh mark cleared (section 8.4). -/
def Obligations.StoreWriteContents : Prop :=
  ∀ (n : NvStore) (e : StoreEntry) (header : Nat),
    (n.write e header).next = header ∧ (n.write e header).fresh = false ∧
    (∀ i p, e.place = some (i, p) → (n.write e header).allowances[i] = p) ∧
    (∀ j : Fin 32, (∀ i p, e.place = some (i, p) → i ≠ j) → (n.write e header).allowances[j] = n.allowances[j]) ∧
    (e.marks = [] → ∀ r, e.record = some r →
      ∀ x, x ∈ (n.write e header).log ↔ x = r ∨ (x ∈ n.log ∧ x.place ≠ r.place)) ∧
    (e.marks = [] → e.record = none → (n.write e header).log = n.log) ∧
    (e.record = none → (n.write e header).log =
      n.log.map (fun r => if e.marks.contains r.number then { r with exported := true } else r))

/-- The end of the start-up read takes the store's allowances and log and the next record number of its header; with no OPEN record
start-up is COMPLETE, and otherwise the first OPEN record becomes INTERRUPTED and one reconciliation entry is queued.  So it goes on after
each entry.  A record not yet charged, whose composition, load serial and used showings agree with the stored place of its allowance,
leaves that allowance with one used showing more than its stored place has, and its entry covers the place; any other record leaves every
place (section 8.5; that the volatile place becomes the stored one so raised is notes/assumptions/33.md). -/
def Obligations.StartupReadEnds : Prop :=
  (∀ s : State, s.running = true → s.counting.startup = .reading →
    ∃ t, exec .startupReadEnd s = .next t ∧
      t.counting.next = (if s.store.fresh then 1 else min 4294967304 (s.store.next + 8)) ∧ t.store = s.store ∧
      t.timeline = s.timeline ∧ t.mgmt = s.mgmt ∧
      ((∀ r ∈ s.store.log, r.outcome ≠ .opened) → t.counting.startup = .complete ∧ t.counting.log = s.store.log ∧
        t.counting.queue = s.counting.queue ∧
        ∀ i : Fin 32, (t.place i).record = s.store.allowances[i].record ∧ (t.place i).serial = s.store.allowances[i].serial ∧
          (t.place i).state = deriveState s s.store.allowances[i].record) ∧
      (∀ r, s.store.log.find? (fun x => decide (x.outcome = .opened)) = some r →
        t.counting.startup = .reconciling ∧
        ∃ e, e.kind = .reconciliation ∧ t.counting.queue = s.counting.queue ++ [e] ∧
          e.record = some { r with
            outcome := .interrupted, ended := some s.clock.now, endUnset := !s.clock.isSet,
            charged := r.charged || r.allowance.isSome })) ∧
  (∀ s : State, (∀ r ∈ s.counting.log, r.outcome ≠ .opened) →
    reconcileNext s = { s with counting := { s.counting with startup := .complete } }) ∧
  (∀ (s : State) (r : LogRecord), s.openRecord = some r →
    let r' := { r with
      outcome := .interrupted, ended := some s.clock.now, endUnset := !s.clock.isSet, charged := r.charged || r.allowance.isSome }
    let agrees (i : Fin 32) (a : Allowance) : Prop :=
      r.charged = false ∧ r.allowance = some i.val ∧ s.store.allowances[i].record = some a ∧ a.comp = r.comp ∧
      r.serialAtOpen = some s.store.allowances[i].serial ∧ r.usedAtOpen = some a.used
    ∃ t e, reconcileNext s = t ∧ e.kind = .reconciliation ∧ e.record = some r' ∧ e.marks = [] ∧ e.owed = none ∧
      t.counting.queue = s.counting.queue ++ [e] ∧
      t.counting.log = s.counting.log.map (fun x => if x.number = r.number then r' else x) ∧
      t.counting.startup = s.counting.startup ∧ t.store = s.store ∧ t.timeline = s.timeline ∧
      (∀ i a, agrees i a →
        let a' := { a with used := min 65535 (a.used + 1) }
        let serial := s.store.allowances[i].serial
        t.place i = { record := some a', serial := serial, state := deriveState s (some a') } ∧
        e.place = some (i, { record := some a', serial := serial }) ∧ ∀ j, j ≠ i → t.place j = s.place j) ∧
      ((∀ i a, ¬ agrees i a) → e.place = none ∧ t.counting.places = s.counting.places))

/-- An assertion changes a CLEAR record, with its count and its stamp, and an ASSERTED one not at all; a deassertion changes an ASSERTED
record, and a CLEAR one not at all; every occurrence of a momentary kind counts.  An EVENT report of the change is offered where the
record's flag calls for it, and then the messages of the enabled entries with that trigger, in index order: an idle line takes the oldest
at once, the rest wait, and messages that find the queue full are dropped and counted, with ACTION_OVERFLOW asserted.  Entry to a showing
state fires its STATE triggers, and a POSITION entry fires where it is enabled, has not fired and its tick is reached
(sections 9.2 to 9.6; that the report comes before the messages is notes/assumptions/24.md). -/
def Obligations.EventRecordsFollow : Prop :=
  (∀ (k : EventKind) (s : State),
    (s.isAsserted k = true → assertEvent k s = s) ∧ (s.isAsserted k = false → deassertEvent k s = s) ∧
    (s.isAsserted k = false → reportsFrom s (assertEvent k s) ∧ (assertEvent k s).event k =
      { s.event k with asserted := true, count := min 65535 ((s.event k).count + 1), last := some s.stamp }) ∧
    (s.isAsserted k = true → k ≠ .actionOverflow → reportsFrom s (deassertEvent k s) ∧
      (deassertEvent k s).event k = { s.event k with asserted := false, last := some s.stamp }) ∧
    (k ≠ .actionOverflow → reportsFrom s (occur k s) ∧ (occur k s).event k =
      { s.event k with asserted := false, count := min 65535 ((s.event k).count + 1), last := some s.stamp }) ∧
    (∀ j, j ≠ k → j ≠ .actionOverflow → (assertEvent k s).event j = s.event j ∧ (deassertEvent k s).event j = s.event j ∧
      (occur k s).event j = s.event j)) ∧
  (∀ (k : EventKind) (s : State),
    let n := min 65535 ((s.event k).count + 1)
    let report (flag : Bool) (news : EventNews) (count : Nat) (u : State) : State :=
      if flag then queueReport (.event k.num news count (some s.stamp)) u else u
    (s.isAsserted k = false → assertEvent k s = fireTrigger (.event k.num true) (report (s.event k).onAssert .asserted n
      (s.setEvent k { s.event k with asserted := true, count := n, last := some s.stamp }))) ∧
    (s.isAsserted k = true → deassertEvent k s = fireTrigger (.event k.num false) (report (s.event k).onDeassert .clear (s.event k).count
      (s.setEvent k { s.event k with asserted := false, last := some s.stamp }))) ∧
    occur k s = fireTrigger (.event k.num true) (report (s.event k).onAssert .occurred n
      (s.setEvent k { s.event k with asserted := false, count := n, last := some s.stamp }))) ∧
  (∀ (trigger : Trigger) (s : State),
    let ms := (s.actions.table.toList.filter (fun e => e.enabled && decide (e.trigger = some trigger))).map ActionEntry.message
    (s.actions.queue.length + ms.length ≤ 16 → (s.actions.line = .idle → s.actions.queue = []) →
      ((fireTrigger trigger s).actions.line, (fireTrigger trigger s).actions.queue) =
        admitted (decide (s.actions.line = .idle)) s.actions.line s.actions.queue ms ∧
      (fireTrigger trigger s).actions.table = s.actions.table ∧ (fireTrigger trigger s).link = s.link ∧
      (fireTrigger trigger s).events = s.events) ∧
    (16 ≤ s.actions.queue.length → ms ≠ [] →
      (fireTrigger trigger s).actions = s.actions ∧ (fireTrigger trigger s).isAsserted .actionOverflow = true ∧
      (fireTrigger trigger s).counters.actionsDropped = min 4294967295 (s.counters.actionsDropped + ms.length +
        (if s.isAsserted .actionOverflow then 0 else (s.actions.triggered (.event EventKind.actionOverflow.num true)).length)))) ∧
  (∀ (st : ShowState) (s : State), ∃ u, enterState st s = fireTrigger (.state st) u ∧
    u = { s with timeline := { s.timeline with state := st }, sync := { s.sync with frame := u.sync.frame } }) ∧
  (∀ (reached : Nat → Bool) (s : State),
    let fires (e : ActionEntry) : Bool := e.enabled && !e.fired && (e.resolved.map reached).getD false
    let ms := (s.actions.table.toList.filter fires).map ActionEntry.message
    (∀ (j : Nat) (h : j < 64), (firePositions reached s).actions.table[j] =
      { s.actions.table[j] with fired := s.actions.table[j].fired || fires s.actions.table[j] }) ∧
    (s.actions.queue.length + ms.length ≤ 16 → (s.actions.line = .idle → s.actions.queue = []) →
      ((firePositions reached s).actions.line, (firePositions reached s).actions.queue) =
        admitted (decide (s.actions.line = .idle)) s.actions.line s.actions.queue ms))

/-- A converted cue that is inserted or dropped leaves its table within 384 cues and 65,536 bytes of text, and a frame shows at most six
cues of an OPEN lane, the cue numbers of one reel being distinct.  After a frame start its reel is in view and no cue of the reel that has
ended stays.  On a CLOSED lane a frame sends, where the caption queue has room, TRACK on the reel's first frame, a CLEAR for each cue that
left with its SHOW attempted, and a SHOW for each cue that is announced, which then counts as attempted (sections 7.3 to 7.5; TRACK's
place is notes/assumptions/64.md, and a cue without a frame start 65.md).  A block's records are read in order: a MALFORMED, INVERTED or
OUTSIDE_REEL one is counted, one of an ended reel is dropped for lateness, and any other is converted.  A converted cue is dropped as
DUPLICATE_CUE, as LATE, or as OVERFLOW where its table or text store lacks room, the last two with their events; any other one takes its
place in the table by reel, A_in and number and is counted, with CUE_LATE where it is late (sections 7.2 and 7.3). -/
def Obligations.CueTablesBounded : Prop :=
  (∀ (i j : Fin 4) (e : CueEntry) (s : State), (s.cueTable j).length ≤ 384 → textInUse (s.cueTable j) ≤ 65536 →
    ((acceptCue i e s).cueTable j).length ≤ 384 ∧ textInUse ((acceptCue i e s).cueTable j) ≤ 65536) ∧
  (∀ (i : Fin 4) (e : CueEntry) (s : State),
    let t := acceptCue i e s
    let table := s.cueTable i
    let held := ∃ x ∈ table, x.reel = e.reel ∧ x.number = e.number
    let late := e.reel ∈ s.cues.begun ∧ e.tin ≤ s.timeline.p
    let passed := late ∧ e.tout ≤ s.timeline.p
    let full := 384 ≤ table.length ∨ 65536 < textInUse table + e.text.length
    (held → t = { s with counters := { s.counters with duplicateCue := min 4294967295 (s.counters.duplicateCue + 1) } }) ∧
    (¬ held → passed → (t.event .cueLate).count = min 65535 ((s.event .cueLate).count + 1) ∧
      reportsFrom { s with counters := { s.counters with late := min 4294967295 (s.counters.late + 1) } } t) ∧
    (¬ held → ¬ passed → full → (t.event .cueOverflow).count = min 65535 ((s.event .cueOverflow).count + 1) ∧
      reportsFrom { s with counters := { s.counters with overflow := min 4294967295 (s.counters.overflow + 1) } } t) ∧
    (¬ held → ¬ passed → ¬ full → ∃ before after, table = before ++ after ∧ t.cueTable i = before ++ e :: after ∧
      (∀ x ∈ before, cueBefore e x = false) ∧ (∀ x ∈ after.head?, cueBefore e x = true) ∧
      (∀ j, j ≠ i → t.cueTable j = s.cueTable j) ∧
      (late → (t.event .cueLate).count = min 65535 ((s.event .cueLate).count + 1)) ∧
      (¬ late → t.events = s.events ∧ t.link = s.link) ∧
      reportsFrom { s with
        cues := { s.cues with tables := t.cues.tables },
        counters := { s.counters with cuesAccepted := min 4294967295 (s.counters.cuesAccepted + 1) } } t)) ∧
  (∀ a b : CueEntry, cueBefore a b = true ↔
    a.reel < b.reel ∨ a.reel = b.reel ∧ (a.tin < b.tin ∨ a.tin = b.tin ∧ a.number < b.number)) ∧
  (∀ (i : Fin 4) (k : Nat) (row : ReelRow) (track : TextTrack) (c : RawCue) (s : State),
    let t := readCue i k row track c s
    let per := 96000 / track.cueRate
    let place (time : Nat) : Int := (row.start : Int) + time * per - row.reel.entry * row.reel.ticks
    let malformed := c.number = 0 ∨ 480 < c.text.length
    let outside := place c.timeOut ≤ row.start ∨ (row.endTick : Int) ≤ place c.timeIn
    (malformed → t = { s with counters := { s.counters with malformed := min 4294967295 (s.counters.malformed + 1) } }) ∧
    (¬ malformed → c.timeOut ≤ c.timeIn →
      t = { s with counters := { s.counters with inverted := min 4294967295 (s.counters.inverted + 1) } }) ∧
    (¬ malformed → c.timeIn < c.timeOut → outside →
      t = { s with counters := { s.counters with outsideReel := min 4294967295 (s.counters.outsideReel + 1) } }) ∧
    (¬ malformed → c.timeIn < c.timeOut → ¬ outside → k ∈ s.cues.ended →
      (t.event .cueLate).count = min 65535 ((s.event .cueLate).count + 1) ∧
      reportsFrom { s with counters := { s.counters with late := min 4294967295 (s.counters.late + 1) } } t) ∧
    (¬ malformed → c.timeIn < c.timeOut → ¬ outside → k ∉ s.cues.ended → t = acceptCue i
      { reel := k, opened := track.opened, number := c.number, tin := place c.timeIn, tout := place c.timeOut,
        fadeIn := c.fadeIn * per, fadeOut := c.fadeOut * per, region := min c.region 7, lines := max 1 (min c.lines 4),
        text := c.text, textSent := false, conflict := false, held := false, attempted := false } s)) ∧
  (∀ (i : Fin 4) (u : UnitRec) (row : ReelRow) (track : TextTrack) (n : Nat) (bs : List Byte) (s : State),
    (u.damaged = true → takeCueBlock i u s =
      { s with counters := { s.counters with damagedBlocks := min 4294967295 (s.counters.damagedBlocks + 1) } }) ∧
    (u.damaged = false → s.row u.reel = some row → row.reel.textOn i = some track → takeNat 2 u.content.bytes = some (n, bs) →
      takeCueBlock i u s = readCues i u.reel row track n bs s) ∧
    readCues i u.reel row track 0 bs s = s ∧
    (takeCue bs = none → readCues i u.reel row track (n + 1) bs s =
      { s with counters := { s.counters with malformed := min 4294967295 (s.counters.malformed + (n + 1)) } }) ∧
    (∀ c rest, takeCue bs = some (c, rest) →
      readCues i u.reel row track (n + 1) bs s = readCues i u.reel row track n rest (readCue i u.reel row track c s))) ∧
  (∀ (i : Fin 4) (k f ticks : Nat) (s : State), (((s.cueTable i).filter (fun e => decide (e.reel = k))).map CueEntry.number).Nodup →
    (openFrame i k f ticks s).2.length ≤ 6) ∧
  (∀ (k f : Nat) (row : ReelRow) (s : State), s.row k = some row →
    (frameStart k f s).cues.inView = some k ∧ (f = row.start → k ∈ (frameStart k f s).cues.begun) ∧
    (frameStart k f s).cues.ended = s.cues.ended ∧ (frameStart k f s).cues.overlay ≠ none ∧
    ∀ i, ∀ e ∈ (frameStart k f s).cueTable i, e.reel = k → (f : Int) < e.tout) ∧
  (∀ (i : Fin 4) (k f : Nat) (first : Bool) (t : TextTrack) (left : List CueEntry) (s : State),
    let due (e : CueEntry) : Bool := decide (e.reel = k) && !e.opened && !e.attempted &&
      decide (e.tin - s.mgmt.limits.captionLead ≤ f) && decide ((f : Int) < e.tout)
    let shows := (s.cueTable i).filter due
    let ms : List CaptionMsg := (if first then [.track i t.language] else []) ++
      (left.filter (fun e => !e.opened && e.attempted)).map (fun e => .clear i e.number) ++
      shows.map (fun e => .showCue i e.number e.text)
    let u := closedFrame i k f first t left s
    s.cues.queue.length + ms.length ≤ 32 → (s.cues.line = .idle → s.cues.queue = []) →
      (u.cues.line, u.cues.queue) = admitted (decide (s.cues.line = .idle)) s.cues.line s.cues.queue ms ∧
      u.cueTable i = (s.cueTable i).map (fun e => if due e then { e with attempted := true } else e) ∧
      (s.counters.cuesShown + shows.length ≤ 4294967295 → u.counters.cuesShown = s.counters.cuesShown + shows.length) ∧
      u.link = s.link ∧ u.events = s.events)

/-! ## Invariants -/

/-- The reset state satisfies the invariants below: the frame store's blocks total 32,768 with one slot for each unit, the sound delays are
in range, no reconciliation entry waits, and no allowance has more used showings than it allows. -/
def Obligations.InvariantsAtReset : Prop :=
  State.reset.blocksConserved ∧ State.reset.delaysInRange ∧ State.reset.reconciliationsKept ∧ State.reset.usedWithinLimits

/-- Every step keeps the total of the blocks in the slots, in the queued units and in the free pool at 32,768 (section 3.1). -/
def Obligations.BlocksConservedByStep : Prop :=
  ∀ s t : State, s.blocksConserved → step s = .next t → t.blocksConserved

/-- Every step keeps the live and the staged sound delay within ±24,000 ticks (section 6.3). -/
def Obligations.DelaysStayInRange : Prop :=
  ∀ s t : State, s.delaysInRange → step s = .next t → t.delaysInRange

/-- No allowance with a limit comes to more used showings than it allows, one being counted for an open showing bound to it and not yet
charged: every step that leaves start-up COMPLETE keeps this.  The premise that no reconciliation entry waits in a part that has
started up is itself kept by every step (sections 8.2 and 8.5). -/
def Obligations.UsedShowingsWithinLimits : Prop :=
  (∀ s t : State, s.reconciliationsKept → step s = .next t → t.reconciliationsKept) ∧
  (∀ s t : State, s.reconciliationsKept → s.usedWithinLimits → s.counting.startup = .complete → step s = .next t →
    t.counting.startup = .complete → t.usedWithinLimits)

end
end

