-- ==== Sys2Proof/Laws/State.lean ====
section
/-! SUPPORT. One lemma for each field of State after each named update of it, each true by unfolding the update. -/

namespace Sys2Proof.Machine

variable (s : State)

/-! ## After `State.count` -/

@[simp] theorem count_powered (f : Counters → Counters) : (s.count f).powered = s.powered := rfl
@[simp] theorem count_resetPin (f : Counters → Counters) : (s.count f).resetPin = s.resetPin := rfl
@[simp] theorem count_signal (f : Counters → Counters) : (s.count f).signal = s.signal := rfl
@[simp] theorem count_link (f : Counters → Counters) : (s.count f).link = s.link := rfl
@[simp] theorem count_wanted (f : Counters → Counters) : (s.count f).wanted = s.wanted := rfl
@[simp] theorem count_slots (f : Counters → Counters) : (s.count f).slots = s.slots := rfl
@[simp] theorem count_buffer (f : Counters → Counters) : (s.count f).buffer = s.buffer := rfl
@[simp] theorem count_holds (f : Counters → Counters) : (s.count f).holds = s.holds := rfl
@[simp] theorem count_comps (f : Counters → Counters) : (s.count f).comps = s.comps := rfl
@[simp] theorem count_clock (f : Counters → Counters) : (s.count f).clock = s.clock := rfl
@[simp] theorem count_schedule (f : Counters → Counters) : (s.count f).schedule = s.schedule := rfl
@[simp] theorem count_timeline (f : Counters → Counters) : (s.count f).timeline = s.timeline := rfl
@[simp] theorem count_picture (f : Counters → Counters) : (s.count f).picture = s.picture := rfl
@[simp] theorem count_sound (f : Counters → Counters) : (s.count f).sound = s.sound := rfl
@[simp] theorem count_sync (f : Counters → Counters) : (s.count f).sync = s.sync := rfl
@[simp] theorem count_cues (f : Counters → Counters) : (s.count f).cues = s.cues := rfl
@[simp] theorem count_counting (f : Counters → Counters) : (s.count f).counting = s.counting := rfl
@[simp] theorem count_store (f : Counters → Counters) : (s.count f).store = s.store := rfl
@[simp] theorem count_events (f : Counters → Counters) : (s.count f).events = s.events := rfl
@[simp] theorem count_actions (f : Counters → Counters) : (s.count f).actions = s.actions := rfl
@[simp] theorem count_mgmt (f : Counters → Counters) : (s.count f).mgmt = s.mgmt := rfl
@[simp] theorem count_counters (f : Counters → Counters) : (s.count f).counters = f s.counters := rfl
@[simp] theorem count_draws (f : Counters → Counters) : (s.count f).draws = s.draws := rfl
@[simp] theorem count_pending (f : Counters → Counters) : (s.count f).pending = s.pending := rfl

/-! ## After `State.setEvent` -/

@[simp] theorem setEvent_powered (k : EventKind) (r : EventRec) : (s.setEvent k r).powered = s.powered := rfl
@[simp] theorem setEvent_resetPin (k : EventKind) (r : EventRec) : (s.setEvent k r).resetPin = s.resetPin := rfl
@[simp] theorem setEvent_signal (k : EventKind) (r : EventRec) : (s.setEvent k r).signal = s.signal := rfl
@[simp] theorem setEvent_link (k : EventKind) (r : EventRec) : (s.setEvent k r).link = s.link := rfl
@[simp] theorem setEvent_wanted (k : EventKind) (r : EventRec) : (s.setEvent k r).wanted = s.wanted := rfl
@[simp] theorem setEvent_slots (k : EventKind) (r : EventRec) : (s.setEvent k r).slots = s.slots := rfl
@[simp] theorem setEvent_buffer (k : EventKind) (r : EventRec) : (s.setEvent k r).buffer = s.buffer := rfl
@[simp] theorem setEvent_holds (k : EventKind) (r : EventRec) : (s.setEvent k r).holds = s.holds := rfl
@[simp] theorem setEvent_comps (k : EventKind) (r : EventRec) : (s.setEvent k r).comps = s.comps := rfl
@[simp] theorem setEvent_clock (k : EventKind) (r : EventRec) : (s.setEvent k r).clock = s.clock := rfl
@[simp] theorem setEvent_schedule (k : EventKind) (r : EventRec) : (s.setEvent k r).schedule = s.schedule := rfl
@[simp] theorem setEvent_timeline (k : EventKind) (r : EventRec) : (s.setEvent k r).timeline = s.timeline := rfl
@[simp] theorem setEvent_picture (k : EventKind) (r : EventRec) : (s.setEvent k r).picture = s.picture := rfl
@[simp] theorem setEvent_sound (k : EventKind) (r : EventRec) : (s.setEvent k r).sound = s.sound := rfl
@[simp] theorem setEvent_sync (k : EventKind) (r : EventRec) : (s.setEvent k r).sync = s.sync := rfl
@[simp] theorem setEvent_cues (k : EventKind) (r : EventRec) : (s.setEvent k r).cues = s.cues := rfl
@[simp] theorem setEvent_counting (k : EventKind) (r : EventRec) : (s.setEvent k r).counting = s.counting := rfl
@[simp] theorem setEvent_store (k : EventKind) (r : EventRec) : (s.setEvent k r).store = s.store := rfl
@[simp] theorem setEvent_events (k : EventKind) (r : EventRec) : (s.setEvent k r).events = s.events.set k.num r := rfl
@[simp] theorem setEvent_actions (k : EventKind) (r : EventRec) : (s.setEvent k r).actions = s.actions := rfl
@[simp] theorem setEvent_mgmt (k : EventKind) (r : EventRec) : (s.setEvent k r).mgmt = s.mgmt := rfl
@[simp] theorem setEvent_counters (k : EventKind) (r : EventRec) : (s.setEvent k r).counters = s.counters := rfl
@[simp] theorem setEvent_draws (k : EventKind) (r : EventRec) : (s.setEvent k r).draws = s.draws := rfl
@[simp] theorem setEvent_pending (k : EventKind) (r : EventRec) : (s.setEvent k r).pending = s.pending := rfl

/-! ## After `State.setSlots` -/

@[simp] theorem setSlots_powered (l : Lane) (v : List AsmSlot) : (s.setSlots l v).powered = s.powered := rfl
@[simp] theorem setSlots_resetPin (l : Lane) (v : List AsmSlot) : (s.setSlots l v).resetPin = s.resetPin := rfl
@[simp] theorem setSlots_signal (l : Lane) (v : List AsmSlot) : (s.setSlots l v).signal = s.signal := rfl
@[simp] theorem setSlots_link (l : Lane) (v : List AsmSlot) : (s.setSlots l v).link = s.link := rfl
@[simp] theorem setSlots_wanted (l : Lane) (v : List AsmSlot) : (s.setSlots l v).wanted = s.wanted := rfl
@[simp] theorem setSlots_slots (l : Lane) (v : List AsmSlot) : (s.setSlots l v).slots = s.slots.set l v := rfl
@[simp] theorem setSlots_buffer (l : Lane) (v : List AsmSlot) : (s.setSlots l v).buffer = s.buffer := rfl
@[simp] theorem setSlots_holds (l : Lane) (v : List AsmSlot) : (s.setSlots l v).holds = s.holds := rfl
@[simp] theorem setSlots_comps (l : Lane) (v : List AsmSlot) : (s.setSlots l v).comps = s.comps := rfl
@[simp] theorem setSlots_clock (l : Lane) (v : List AsmSlot) : (s.setSlots l v).clock = s.clock := rfl
@[simp] theorem setSlots_schedule (l : Lane) (v : List AsmSlot) : (s.setSlots l v).schedule = s.schedule := rfl
@[simp] theorem setSlots_timeline (l : Lane) (v : List AsmSlot) : (s.setSlots l v).timeline = s.timeline := rfl
@[simp] theorem setSlots_picture (l : Lane) (v : List AsmSlot) : (s.setSlots l v).picture = s.picture := rfl
@[simp] theorem setSlots_sound (l : Lane) (v : List AsmSlot) : (s.setSlots l v).sound = s.sound := rfl
@[simp] theorem setSlots_sync (l : Lane) (v : List AsmSlot) : (s.setSlots l v).sync = s.sync := rfl
@[simp] theorem setSlots_cues (l : Lane) (v : List AsmSlot) : (s.setSlots l v).cues = s.cues := rfl
@[simp] theorem setSlots_counting (l : Lane) (v : List AsmSlot) : (s.setSlots l v).counting = s.counting := rfl
@[simp] theorem setSlots_store (l : Lane) (v : List AsmSlot) : (s.setSlots l v).store = s.store := rfl
@[simp] theorem setSlots_events (l : Lane) (v : List AsmSlot) : (s.setSlots l v).events = s.events := rfl
@[simp] theorem setSlots_actions (l : Lane) (v : List AsmSlot) : (s.setSlots l v).actions = s.actions := rfl
@[simp] theorem setSlots_mgmt (l : Lane) (v : List AsmSlot) : (s.setSlots l v).mgmt = s.mgmt := rfl
@[simp] theorem setSlots_counters (l : Lane) (v : List AsmSlot) : (s.setSlots l v).counters = s.counters := rfl
@[simp] theorem setSlots_draws (l : Lane) (v : List AsmSlot) : (s.setSlots l v).draws = s.draws := rfl
@[simp] theorem setSlots_pending (l : Lane) (v : List AsmSlot) : (s.setSlots l v).pending = s.pending := rfl

/-! ## After `State.setQueue` -/

@[simp] theorem setQueue_powered (l : Lane) (v : List UnitRec) : (s.setQueue l v).powered = s.powered := rfl
@[simp] theorem setQueue_resetPin (l : Lane) (v : List UnitRec) : (s.setQueue l v).resetPin = s.resetPin := rfl
@[simp] theorem setQueue_signal (l : Lane) (v : List UnitRec) : (s.setQueue l v).signal = s.signal := rfl
@[simp] theorem setQueue_link (l : Lane) (v : List UnitRec) : (s.setQueue l v).link = s.link := rfl
@[simp] theorem setQueue_wanted (l : Lane) (v : List UnitRec) : (s.setQueue l v).wanted = s.wanted := rfl
@[simp] theorem setQueue_slots (l : Lane) (v : List UnitRec) : (s.setQueue l v).slots = s.slots := rfl
@[simp] theorem setQueue_buffer (l : Lane) (v : List UnitRec) : (s.setQueue l v).buffer = { s.buffer with queues := s.buffer.queues.set l v } := rfl
@[simp] theorem setQueue_holds (l : Lane) (v : List UnitRec) : (s.setQueue l v).holds = s.holds := rfl
@[simp] theorem setQueue_comps (l : Lane) (v : List UnitRec) : (s.setQueue l v).comps = s.comps := rfl
@[simp] theorem setQueue_clock (l : Lane) (v : List UnitRec) : (s.setQueue l v).clock = s.clock := rfl
@[simp] theorem setQueue_schedule (l : Lane) (v : List UnitRec) : (s.setQueue l v).schedule = s.schedule := rfl
@[simp] theorem setQueue_timeline (l : Lane) (v : List UnitRec) : (s.setQueue l v).timeline = s.timeline := rfl
@[simp] theorem setQueue_picture (l : Lane) (v : List UnitRec) : (s.setQueue l v).picture = s.picture := rfl
@[simp] theorem setQueue_sound (l : Lane) (v : List UnitRec) : (s.setQueue l v).sound = s.sound := rfl
@[simp] theorem setQueue_sync (l : Lane) (v : List UnitRec) : (s.setQueue l v).sync = s.sync := rfl
@[simp] theorem setQueue_cues (l : Lane) (v : List UnitRec) : (s.setQueue l v).cues = s.cues := rfl
@[simp] theorem setQueue_counting (l : Lane) (v : List UnitRec) : (s.setQueue l v).counting = s.counting := rfl
@[simp] theorem setQueue_store (l : Lane) (v : List UnitRec) : (s.setQueue l v).store = s.store := rfl
@[simp] theorem setQueue_events (l : Lane) (v : List UnitRec) : (s.setQueue l v).events = s.events := rfl
@[simp] theorem setQueue_actions (l : Lane) (v : List UnitRec) : (s.setQueue l v).actions = s.actions := rfl
@[simp] theorem setQueue_mgmt (l : Lane) (v : List UnitRec) : (s.setQueue l v).mgmt = s.mgmt := rfl
@[simp] theorem setQueue_counters (l : Lane) (v : List UnitRec) : (s.setQueue l v).counters = s.counters := rfl
@[simp] theorem setQueue_draws (l : Lane) (v : List UnitRec) : (s.setQueue l v).draws = s.draws := rfl
@[simp] theorem setQueue_pending (l : Lane) (v : List UnitRec) : (s.setQueue l v).pending = s.pending := rfl

/-! ## After `State.setHold` -/

@[simp] theorem setHold_powered (l : AvLane) (h : LaneHold) : (s.setHold l h).powered = s.powered := rfl
@[simp] theorem setHold_resetPin (l : AvLane) (h : LaneHold) : (s.setHold l h).resetPin = s.resetPin := rfl
@[simp] theorem setHold_signal (l : AvLane) (h : LaneHold) : (s.setHold l h).signal = s.signal := rfl
@[simp] theorem setHold_link (l : AvLane) (h : LaneHold) : (s.setHold l h).link = s.link := rfl
@[simp] theorem setHold_wanted (l : AvLane) (h : LaneHold) : (s.setHold l h).wanted = s.wanted := rfl
@[simp] theorem setHold_slots (l : AvLane) (h : LaneHold) : (s.setHold l h).slots = s.slots := rfl
@[simp] theorem setHold_buffer (l : AvLane) (h : LaneHold) : (s.setHold l h).buffer = s.buffer := rfl
@[simp] theorem setHold_holds (l : AvLane) (h : LaneHold) : (s.setHold l h).holds = s.holds.set l h := rfl
@[simp] theorem setHold_comps (l : AvLane) (h : LaneHold) : (s.setHold l h).comps = s.comps := rfl
@[simp] theorem setHold_clock (l : AvLane) (h : LaneHold) : (s.setHold l h).clock = s.clock := rfl
@[simp] theorem setHold_schedule (l : AvLane) (h : LaneHold) : (s.setHold l h).schedule = s.schedule := rfl
@[simp] theorem setHold_timeline (l : AvLane) (h : LaneHold) : (s.setHold l h).timeline = s.timeline := rfl
@[simp] theorem setHold_picture (l : AvLane) (h : LaneHold) : (s.setHold l h).picture = s.picture := rfl
@[simp] theorem setHold_sound (l : AvLane) (h : LaneHold) : (s.setHold l h).sound = s.sound := rfl
@[simp] theorem setHold_sync (l : AvLane) (h : LaneHold) : (s.setHold l h).sync = s.sync := rfl
@[simp] theorem setHold_cues (l : AvLane) (h : LaneHold) : (s.setHold l h).cues = s.cues := rfl
@[simp] theorem setHold_counting (l : AvLane) (h : LaneHold) : (s.setHold l h).counting = s.counting := rfl
@[simp] theorem setHold_store (l : AvLane) (h : LaneHold) : (s.setHold l h).store = s.store := rfl
@[simp] theorem setHold_events (l : AvLane) (h : LaneHold) : (s.setHold l h).events = s.events := rfl
@[simp] theorem setHold_actions (l : AvLane) (h : LaneHold) : (s.setHold l h).actions = s.actions := rfl
@[simp] theorem setHold_mgmt (l : AvLane) (h : LaneHold) : (s.setHold l h).mgmt = s.mgmt := rfl
@[simp] theorem setHold_counters (l : AvLane) (h : LaneHold) : (s.setHold l h).counters = s.counters := rfl
@[simp] theorem setHold_draws (l : AvLane) (h : LaneHold) : (s.setHold l h).draws = s.draws := rfl
@[simp] theorem setHold_pending (l : AvLane) (h : LaneHold) : (s.setHold l h).pending = s.pending := rfl

/-! ## After `State.editWanted` -/

@[simp] theorem editWanted_powered (k : Nat) (f : Wanted → Wanted) : (s.editWanted k f).powered = s.powered := rfl
@[simp] theorem editWanted_resetPin (k : Nat) (f : Wanted → Wanted) : (s.editWanted k f).resetPin = s.resetPin := rfl
@[simp] theorem editWanted_signal (k : Nat) (f : Wanted → Wanted) : (s.editWanted k f).signal = s.signal := rfl
@[simp] theorem editWanted_link (k : Nat) (f : Wanted → Wanted) : (s.editWanted k f).link = s.link := rfl
@[simp] theorem editWanted_wanted (k : Nat) (f : Wanted → Wanted) : (s.editWanted k f).wanted = s.wanted.map (fun w => if w.index = k then f w else w) := rfl
@[simp] theorem editWanted_slots (k : Nat) (f : Wanted → Wanted) : (s.editWanted k f).slots = s.slots := rfl
@[simp] theorem editWanted_buffer (k : Nat) (f : Wanted → Wanted) : (s.editWanted k f).buffer = s.buffer := rfl
@[simp] theorem editWanted_holds (k : Nat) (f : Wanted → Wanted) : (s.editWanted k f).holds = s.holds := rfl
@[simp] theorem editWanted_comps (k : Nat) (f : Wanted → Wanted) : (s.editWanted k f).comps = s.comps := rfl
@[simp] theorem editWanted_clock (k : Nat) (f : Wanted → Wanted) : (s.editWanted k f).clock = s.clock := rfl
@[simp] theorem editWanted_schedule (k : Nat) (f : Wanted → Wanted) : (s.editWanted k f).schedule = s.schedule := rfl
@[simp] theorem editWanted_timeline (k : Nat) (f : Wanted → Wanted) : (s.editWanted k f).timeline = s.timeline := rfl
@[simp] theorem editWanted_picture (k : Nat) (f : Wanted → Wanted) : (s.editWanted k f).picture = s.picture := rfl
@[simp] theorem editWanted_sound (k : Nat) (f : Wanted → Wanted) : (s.editWanted k f).sound = s.sound := rfl
@[simp] theorem editWanted_sync (k : Nat) (f : Wanted → Wanted) : (s.editWanted k f).sync = s.sync := rfl
@[simp] theorem editWanted_cues (k : Nat) (f : Wanted → Wanted) : (s.editWanted k f).cues = s.cues := rfl
@[simp] theorem editWanted_counting (k : Nat) (f : Wanted → Wanted) : (s.editWanted k f).counting = s.counting := rfl
@[simp] theorem editWanted_store (k : Nat) (f : Wanted → Wanted) : (s.editWanted k f).store = s.store := rfl
@[simp] theorem editWanted_events (k : Nat) (f : Wanted → Wanted) : (s.editWanted k f).events = s.events := rfl
@[simp] theorem editWanted_actions (k : Nat) (f : Wanted → Wanted) : (s.editWanted k f).actions = s.actions := rfl
@[simp] theorem editWanted_mgmt (k : Nat) (f : Wanted → Wanted) : (s.editWanted k f).mgmt = s.mgmt := rfl
@[simp] theorem editWanted_counters (k : Nat) (f : Wanted → Wanted) : (s.editWanted k f).counters = s.counters := rfl
@[simp] theorem editWanted_draws (k : Nat) (f : Wanted → Wanted) : (s.editWanted k f).draws = s.draws := rfl
@[simp] theorem editWanted_pending (k : Nat) (f : Wanted → Wanted) : (s.editWanted k f).pending = s.pending := rfl

/-! ## After `State.mapSync` -/

@[simp] theorem mapSync_powered (f : Sync → Sync) : (s.mapSync f).powered = s.powered := rfl
@[simp] theorem mapSync_resetPin (f : Sync → Sync) : (s.mapSync f).resetPin = s.resetPin := rfl
@[simp] theorem mapSync_signal (f : Sync → Sync) : (s.mapSync f).signal = s.signal := rfl
@[simp] theorem mapSync_link (f : Sync → Sync) : (s.mapSync f).link = s.link := rfl
@[simp] theorem mapSync_wanted (f : Sync → Sync) : (s.mapSync f).wanted = s.wanted := rfl
@[simp] theorem mapSync_slots (f : Sync → Sync) : (s.mapSync f).slots = s.slots := rfl
@[simp] theorem mapSync_buffer (f : Sync → Sync) : (s.mapSync f).buffer = s.buffer := rfl
@[simp] theorem mapSync_holds (f : Sync → Sync) : (s.mapSync f).holds = s.holds := rfl
@[simp] theorem mapSync_comps (f : Sync → Sync) : (s.mapSync f).comps = s.comps := rfl
@[simp] theorem mapSync_clock (f : Sync → Sync) : (s.mapSync f).clock = s.clock := rfl
@[simp] theorem mapSync_schedule (f : Sync → Sync) : (s.mapSync f).schedule = s.schedule := rfl
@[simp] theorem mapSync_timeline (f : Sync → Sync) : (s.mapSync f).timeline = s.timeline := rfl
@[simp] theorem mapSync_picture (f : Sync → Sync) : (s.mapSync f).picture = s.picture := rfl
@[simp] theorem mapSync_sound (f : Sync → Sync) : (s.mapSync f).sound = s.sound := rfl
@[simp] theorem mapSync_sync (f : Sync → Sync) : (s.mapSync f).sync = f s.sync := rfl
@[simp] theorem mapSync_cues (f : Sync → Sync) : (s.mapSync f).cues = s.cues := rfl
@[simp] theorem mapSync_counting (f : Sync → Sync) : (s.mapSync f).counting = s.counting := rfl
@[simp] theorem mapSync_store (f : Sync → Sync) : (s.mapSync f).store = s.store := rfl
@[simp] theorem mapSync_events (f : Sync → Sync) : (s.mapSync f).events = s.events := rfl
@[simp] theorem mapSync_actions (f : Sync → Sync) : (s.mapSync f).actions = s.actions := rfl
@[simp] theorem mapSync_mgmt (f : Sync → Sync) : (s.mapSync f).mgmt = s.mgmt := rfl
@[simp] theorem mapSync_counters (f : Sync → Sync) : (s.mapSync f).counters = s.counters := rfl
@[simp] theorem mapSync_draws (f : Sync → Sync) : (s.mapSync f).draws = s.draws := rfl
@[simp] theorem mapSync_pending (f : Sync → Sync) : (s.mapSync f).pending = s.pending := rfl

/-! ## After `State.mapSound` -/

@[simp] theorem mapSound_powered (f : Sound → Sound) : (s.mapSound f).powered = s.powered := rfl
@[simp] theorem mapSound_resetPin (f : Sound → Sound) : (s.mapSound f).resetPin = s.resetPin := rfl
@[simp] theorem mapSound_signal (f : Sound → Sound) : (s.mapSound f).signal = s.signal := rfl
@[simp] theorem mapSound_link (f : Sound → Sound) : (s.mapSound f).link = s.link := rfl
@[simp] theorem mapSound_wanted (f : Sound → Sound) : (s.mapSound f).wanted = s.wanted := rfl
@[simp] theorem mapSound_slots (f : Sound → Sound) : (s.mapSound f).slots = s.slots := rfl
@[simp] theorem mapSound_buffer (f : Sound → Sound) : (s.mapSound f).buffer = s.buffer := rfl
@[simp] theorem mapSound_holds (f : Sound → Sound) : (s.mapSound f).holds = s.holds := rfl
@[simp] theorem mapSound_comps (f : Sound → Sound) : (s.mapSound f).comps = s.comps := rfl
@[simp] theorem mapSound_clock (f : Sound → Sound) : (s.mapSound f).clock = s.clock := rfl
@[simp] theorem mapSound_schedule (f : Sound → Sound) : (s.mapSound f).schedule = s.schedule := rfl
@[simp] theorem mapSound_timeline (f : Sound → Sound) : (s.mapSound f).timeline = s.timeline := rfl
@[simp] theorem mapSound_picture (f : Sound → Sound) : (s.mapSound f).picture = s.picture := rfl
@[simp] theorem mapSound_sound (f : Sound → Sound) : (s.mapSound f).sound = f s.sound := rfl
@[simp] theorem mapSound_sync (f : Sound → Sound) : (s.mapSound f).sync = s.sync := rfl
@[simp] theorem mapSound_cues (f : Sound → Sound) : (s.mapSound f).cues = s.cues := rfl
@[simp] theorem mapSound_counting (f : Sound → Sound) : (s.mapSound f).counting = s.counting := rfl
@[simp] theorem mapSound_store (f : Sound → Sound) : (s.mapSound f).store = s.store := rfl
@[simp] theorem mapSound_events (f : Sound → Sound) : (s.mapSound f).events = s.events := rfl
@[simp] theorem mapSound_actions (f : Sound → Sound) : (s.mapSound f).actions = s.actions := rfl
@[simp] theorem mapSound_mgmt (f : Sound → Sound) : (s.mapSound f).mgmt = s.mgmt := rfl
@[simp] theorem mapSound_counters (f : Sound → Sound) : (s.mapSound f).counters = s.counters := rfl
@[simp] theorem mapSound_draws (f : Sound → Sound) : (s.mapSound f).draws = s.draws := rfl
@[simp] theorem mapSound_pending (f : Sound → Sound) : (s.mapSound f).pending = s.pending := rfl

/-! ## After `State.mapTimeline` -/

@[simp] theorem mapTimeline_powered (f : Timeline → Timeline) : (s.mapTimeline f).powered = s.powered := rfl
@[simp] theorem mapTimeline_resetPin (f : Timeline → Timeline) : (s.mapTimeline f).resetPin = s.resetPin := rfl
@[simp] theorem mapTimeline_signal (f : Timeline → Timeline) : (s.mapTimeline f).signal = s.signal := rfl
@[simp] theorem mapTimeline_link (f : Timeline → Timeline) : (s.mapTimeline f).link = s.link := rfl
@[simp] theorem mapTimeline_wanted (f : Timeline → Timeline) : (s.mapTimeline f).wanted = s.wanted := rfl
@[simp] theorem mapTimeline_slots (f : Timeline → Timeline) : (s.mapTimeline f).slots = s.slots := rfl
@[simp] theorem mapTimeline_buffer (f : Timeline → Timeline) : (s.mapTimeline f).buffer = s.buffer := rfl
@[simp] theorem mapTimeline_holds (f : Timeline → Timeline) : (s.mapTimeline f).holds = s.holds := rfl
@[simp] theorem mapTimeline_comps (f : Timeline → Timeline) : (s.mapTimeline f).comps = s.comps := rfl
@[simp] theorem mapTimeline_clock (f : Timeline → Timeline) : (s.mapTimeline f).clock = s.clock := rfl
@[simp] theorem mapTimeline_schedule (f : Timeline → Timeline) : (s.mapTimeline f).schedule = s.schedule := rfl
@[simp] theorem mapTimeline_timeline (f : Timeline → Timeline) : (s.mapTimeline f).timeline = f s.timeline := rfl
@[simp] theorem mapTimeline_picture (f : Timeline → Timeline) : (s.mapTimeline f).picture = s.picture := rfl
@[simp] theorem mapTimeline_sound (f : Timeline → Timeline) : (s.mapTimeline f).sound = s.sound := rfl
@[simp] theorem mapTimeline_sync (f : Timeline → Timeline) : (s.mapTimeline f).sync = s.sync := rfl
@[simp] theorem mapTimeline_cues (f : Timeline → Timeline) : (s.mapTimeline f).cues = s.cues := rfl
@[simp] theorem mapTimeline_counting (f : Timeline → Timeline) : (s.mapTimeline f).counting = s.counting := rfl
@[simp] theorem mapTimeline_store (f : Timeline → Timeline) : (s.mapTimeline f).store = s.store := rfl
@[simp] theorem mapTimeline_events (f : Timeline → Timeline) : (s.mapTimeline f).events = s.events := rfl
@[simp] theorem mapTimeline_actions (f : Timeline → Timeline) : (s.mapTimeline f).actions = s.actions := rfl
@[simp] theorem mapTimeline_mgmt (f : Timeline → Timeline) : (s.mapTimeline f).mgmt = s.mgmt := rfl
@[simp] theorem mapTimeline_counters (f : Timeline → Timeline) : (s.mapTimeline f).counters = s.counters := rfl
@[simp] theorem mapTimeline_draws (f : Timeline → Timeline) : (s.mapTimeline f).draws = s.draws := rfl
@[simp] theorem mapTimeline_pending (f : Timeline → Timeline) : (s.mapTimeline f).pending = s.pending := rfl

/-! ## After `State.mapPicture` -/

@[simp] theorem mapPicture_powered (f : PictureOut → PictureOut) : (s.mapPicture f).powered = s.powered := rfl
@[simp] theorem mapPicture_resetPin (f : PictureOut → PictureOut) : (s.mapPicture f).resetPin = s.resetPin := rfl
@[simp] theorem mapPicture_signal (f : PictureOut → PictureOut) : (s.mapPicture f).signal = s.signal := rfl
@[simp] theorem mapPicture_link (f : PictureOut → PictureOut) : (s.mapPicture f).link = s.link := rfl
@[simp] theorem mapPicture_wanted (f : PictureOut → PictureOut) : (s.mapPicture f).wanted = s.wanted := rfl
@[simp] theorem mapPicture_slots (f : PictureOut → PictureOut) : (s.mapPicture f).slots = s.slots := rfl
@[simp] theorem mapPicture_buffer (f : PictureOut → PictureOut) : (s.mapPicture f).buffer = s.buffer := rfl
@[simp] theorem mapPicture_holds (f : PictureOut → PictureOut) : (s.mapPicture f).holds = s.holds := rfl
@[simp] theorem mapPicture_comps (f : PictureOut → PictureOut) : (s.mapPicture f).comps = s.comps := rfl
@[simp] theorem mapPicture_clock (f : PictureOut → PictureOut) : (s.mapPicture f).clock = s.clock := rfl
@[simp] theorem mapPicture_schedule (f : PictureOut → PictureOut) : (s.mapPicture f).schedule = s.schedule := rfl
@[simp] theorem mapPicture_timeline (f : PictureOut → PictureOut) : (s.mapPicture f).timeline = s.timeline := rfl
@[simp] theorem mapPicture_picture (f : PictureOut → PictureOut) : (s.mapPicture f).picture = f s.picture := rfl
@[simp] theorem mapPicture_sound (f : PictureOut → PictureOut) : (s.mapPicture f).sound = s.sound := rfl
@[simp] theorem mapPicture_sync (f : PictureOut → PictureOut) : (s.mapPicture f).sync = s.sync := rfl
@[simp] theorem mapPicture_cues (f : PictureOut → PictureOut) : (s.mapPicture f).cues = s.cues := rfl
@[simp] theorem mapPicture_counting (f : PictureOut → PictureOut) : (s.mapPicture f).counting = s.counting := rfl
@[simp] theorem mapPicture_store (f : PictureOut → PictureOut) : (s.mapPicture f).store = s.store := rfl
@[simp] theorem mapPicture_events (f : PictureOut → PictureOut) : (s.mapPicture f).events = s.events := rfl
@[simp] theorem mapPicture_actions (f : PictureOut → PictureOut) : (s.mapPicture f).actions = s.actions := rfl
@[simp] theorem mapPicture_mgmt (f : PictureOut → PictureOut) : (s.mapPicture f).mgmt = s.mgmt := rfl
@[simp] theorem mapPicture_counters (f : PictureOut → PictureOut) : (s.mapPicture f).counters = s.counters := rfl
@[simp] theorem mapPicture_draws (f : PictureOut → PictureOut) : (s.mapPicture f).draws = s.draws := rfl
@[simp] theorem mapPicture_pending (f : PictureOut → PictureOut) : (s.mapPicture f).pending = s.pending := rfl

/-! ## After `State.setCueTable` -/

@[simp] theorem setCueTable_powered (i : Fin 4) (t : List CueEntry) : (s.setCueTable i t).powered = s.powered := rfl
@[simp] theorem setCueTable_resetPin (i : Fin 4) (t : List CueEntry) : (s.setCueTable i t).resetPin = s.resetPin := rfl
@[simp] theorem setCueTable_signal (i : Fin 4) (t : List CueEntry) : (s.setCueTable i t).signal = s.signal := rfl
@[simp] theorem setCueTable_link (i : Fin 4) (t : List CueEntry) : (s.setCueTable i t).link = s.link := rfl
@[simp] theorem setCueTable_wanted (i : Fin 4) (t : List CueEntry) : (s.setCueTable i t).wanted = s.wanted := rfl
@[simp] theorem setCueTable_slots (i : Fin 4) (t : List CueEntry) : (s.setCueTable i t).slots = s.slots := rfl
@[simp] theorem setCueTable_buffer (i : Fin 4) (t : List CueEntry) : (s.setCueTable i t).buffer = s.buffer := rfl
@[simp] theorem setCueTable_holds (i : Fin 4) (t : List CueEntry) : (s.setCueTable i t).holds = s.holds := rfl
@[simp] theorem setCueTable_comps (i : Fin 4) (t : List CueEntry) : (s.setCueTable i t).comps = s.comps := rfl
@[simp] theorem setCueTable_clock (i : Fin 4) (t : List CueEntry) : (s.setCueTable i t).clock = s.clock := rfl
@[simp] theorem setCueTable_schedule (i : Fin 4) (t : List CueEntry) : (s.setCueTable i t).schedule = s.schedule := rfl
@[simp] theorem setCueTable_timeline (i : Fin 4) (t : List CueEntry) : (s.setCueTable i t).timeline = s.timeline := rfl
@[simp] theorem setCueTable_picture (i : Fin 4) (t : List CueEntry) : (s.setCueTable i t).picture = s.picture := rfl
@[simp] theorem setCueTable_sound (i : Fin 4) (t : List CueEntry) : (s.setCueTable i t).sound = s.sound := rfl
@[simp] theorem setCueTable_sync (i : Fin 4) (t : List CueEntry) : (s.setCueTable i t).sync = s.sync := rfl
@[simp] theorem setCueTable_cues (i : Fin 4) (t : List CueEntry) : (s.setCueTable i t).cues = { s.cues with tables := s.cues.tables.set i t } := rfl
@[simp] theorem setCueTable_counting (i : Fin 4) (t : List CueEntry) : (s.setCueTable i t).counting = s.counting := rfl
@[simp] theorem setCueTable_store (i : Fin 4) (t : List CueEntry) : (s.setCueTable i t).store = s.store := rfl
@[simp] theorem setCueTable_events (i : Fin 4) (t : List CueEntry) : (s.setCueTable i t).events = s.events := rfl
@[simp] theorem setCueTable_actions (i : Fin 4) (t : List CueEntry) : (s.setCueTable i t).actions = s.actions := rfl
@[simp] theorem setCueTable_mgmt (i : Fin 4) (t : List CueEntry) : (s.setCueTable i t).mgmt = s.mgmt := rfl
@[simp] theorem setCueTable_counters (i : Fin 4) (t : List CueEntry) : (s.setCueTable i t).counters = s.counters := rfl
@[simp] theorem setCueTable_draws (i : Fin 4) (t : List CueEntry) : (s.setCueTable i t).draws = s.draws := rfl
@[simp] theorem setCueTable_pending (i : Fin 4) (t : List CueEntry) : (s.setCueTable i t).pending = s.pending := rfl

/-! ## After `State.setPlace` -/

@[simp] theorem setPlace_powered (i : Fin 32) (p : Place) : (s.setPlace i p).powered = s.powered := rfl
@[simp] theorem setPlace_resetPin (i : Fin 32) (p : Place) : (s.setPlace i p).resetPin = s.resetPin := rfl
@[simp] theorem setPlace_signal (i : Fin 32) (p : Place) : (s.setPlace i p).signal = s.signal := rfl
@[simp] theorem setPlace_link (i : Fin 32) (p : Place) : (s.setPlace i p).link = s.link := rfl
@[simp] theorem setPlace_wanted (i : Fin 32) (p : Place) : (s.setPlace i p).wanted = s.wanted := rfl
@[simp] theorem setPlace_slots (i : Fin 32) (p : Place) : (s.setPlace i p).slots = s.slots := rfl
@[simp] theorem setPlace_buffer (i : Fin 32) (p : Place) : (s.setPlace i p).buffer = s.buffer := rfl
@[simp] theorem setPlace_holds (i : Fin 32) (p : Place) : (s.setPlace i p).holds = s.holds := rfl
@[simp] theorem setPlace_comps (i : Fin 32) (p : Place) : (s.setPlace i p).comps = s.comps := rfl
@[simp] theorem setPlace_clock (i : Fin 32) (p : Place) : (s.setPlace i p).clock = s.clock := rfl
@[simp] theorem setPlace_schedule (i : Fin 32) (p : Place) : (s.setPlace i p).schedule = s.schedule := rfl
@[simp] theorem setPlace_timeline (i : Fin 32) (p : Place) : (s.setPlace i p).timeline = s.timeline := rfl
@[simp] theorem setPlace_picture (i : Fin 32) (p : Place) : (s.setPlace i p).picture = s.picture := rfl
@[simp] theorem setPlace_sound (i : Fin 32) (p : Place) : (s.setPlace i p).sound = s.sound := rfl
@[simp] theorem setPlace_sync (i : Fin 32) (p : Place) : (s.setPlace i p).sync = s.sync := rfl
@[simp] theorem setPlace_cues (i : Fin 32) (p : Place) : (s.setPlace i p).cues = s.cues := rfl
@[simp] theorem setPlace_counting (i : Fin 32) (p : Place) : (s.setPlace i p).counting = { s.counting with places := s.counting.places.set i p } := rfl
@[simp] theorem setPlace_store (i : Fin 32) (p : Place) : (s.setPlace i p).store = s.store := rfl
@[simp] theorem setPlace_events (i : Fin 32) (p : Place) : (s.setPlace i p).events = s.events := rfl
@[simp] theorem setPlace_actions (i : Fin 32) (p : Place) : (s.setPlace i p).actions = s.actions := rfl
@[simp] theorem setPlace_mgmt (i : Fin 32) (p : Place) : (s.setPlace i p).mgmt = s.mgmt := rfl
@[simp] theorem setPlace_counters (i : Fin 32) (p : Place) : (s.setPlace i p).counters = s.counters := rfl
@[simp] theorem setPlace_draws (i : Fin 32) (p : Place) : (s.setPlace i p).draws = s.draws := rfl
@[simp] theorem setPlace_pending (i : Fin 32) (p : Place) : (s.setPlace i p).pending = s.pending := rfl

/-! ## After `State.setRecord` -/

@[simp] theorem setRecord_powered (r : LogRecord) : (s.setRecord r).powered = s.powered := rfl
@[simp] theorem setRecord_resetPin (r : LogRecord) : (s.setRecord r).resetPin = s.resetPin := rfl
@[simp] theorem setRecord_signal (r : LogRecord) : (s.setRecord r).signal = s.signal := rfl
@[simp] theorem setRecord_link (r : LogRecord) : (s.setRecord r).link = s.link := rfl
@[simp] theorem setRecord_wanted (r : LogRecord) : (s.setRecord r).wanted = s.wanted := rfl
@[simp] theorem setRecord_slots (r : LogRecord) : (s.setRecord r).slots = s.slots := rfl
@[simp] theorem setRecord_buffer (r : LogRecord) : (s.setRecord r).buffer = s.buffer := rfl
@[simp] theorem setRecord_holds (r : LogRecord) : (s.setRecord r).holds = s.holds := rfl
@[simp] theorem setRecord_comps (r : LogRecord) : (s.setRecord r).comps = s.comps := rfl
@[simp] theorem setRecord_clock (r : LogRecord) : (s.setRecord r).clock = s.clock := rfl
@[simp] theorem setRecord_schedule (r : LogRecord) : (s.setRecord r).schedule = s.schedule := rfl
@[simp] theorem setRecord_timeline (r : LogRecord) : (s.setRecord r).timeline = s.timeline := rfl
@[simp] theorem setRecord_picture (r : LogRecord) : (s.setRecord r).picture = s.picture := rfl
@[simp] theorem setRecord_sound (r : LogRecord) : (s.setRecord r).sound = s.sound := rfl
@[simp] theorem setRecord_sync (r : LogRecord) : (s.setRecord r).sync = s.sync := rfl
@[simp] theorem setRecord_cues (r : LogRecord) : (s.setRecord r).cues = s.cues := rfl
@[simp] theorem setRecord_counting (r : LogRecord) : (s.setRecord r).counting = { s.counting with log := s.counting.log.map (fun x => if x.number = r.number then r else x) } := rfl
@[simp] theorem setRecord_store (r : LogRecord) : (s.setRecord r).store = s.store := rfl
@[simp] theorem setRecord_events (r : LogRecord) : (s.setRecord r).events = s.events := rfl
@[simp] theorem setRecord_actions (r : LogRecord) : (s.setRecord r).actions = s.actions := rfl
@[simp] theorem setRecord_mgmt (r : LogRecord) : (s.setRecord r).mgmt = s.mgmt := rfl
@[simp] theorem setRecord_counters (r : LogRecord) : (s.setRecord r).counters = s.counters := rfl
@[simp] theorem setRecord_draws (r : LogRecord) : (s.setRecord r).draws = s.draws := rfl
@[simp] theorem setRecord_pending (r : LogRecord) : (s.setRecord r).pending = s.pending := rfl

/-! ## After `State.setLimits` -/

@[simp] theorem setLimits_powered (l : Limits) : (s.setLimits l).powered = s.powered := rfl
@[simp] theorem setLimits_resetPin (l : Limits) : (s.setLimits l).resetPin = s.resetPin := rfl
@[simp] theorem setLimits_signal (l : Limits) : (s.setLimits l).signal = s.signal := rfl
@[simp] theorem setLimits_link (l : Limits) : (s.setLimits l).link = s.link := rfl
@[simp] theorem setLimits_wanted (l : Limits) : (s.setLimits l).wanted = s.wanted := rfl
@[simp] theorem setLimits_slots (l : Limits) : (s.setLimits l).slots = s.slots := rfl
@[simp] theorem setLimits_buffer (l : Limits) : (s.setLimits l).buffer = s.buffer := rfl
@[simp] theorem setLimits_holds (l : Limits) : (s.setLimits l).holds = s.holds := rfl
@[simp] theorem setLimits_comps (l : Limits) : (s.setLimits l).comps = s.comps := rfl
@[simp] theorem setLimits_clock (l : Limits) : (s.setLimits l).clock = s.clock := rfl
@[simp] theorem setLimits_schedule (l : Limits) : (s.setLimits l).schedule = s.schedule := rfl
@[simp] theorem setLimits_timeline (l : Limits) : (s.setLimits l).timeline = s.timeline := rfl
@[simp] theorem setLimits_picture (l : Limits) : (s.setLimits l).picture = s.picture := rfl
@[simp] theorem setLimits_sound (l : Limits) : (s.setLimits l).sound = s.sound := rfl
@[simp] theorem setLimits_sync (l : Limits) : (s.setLimits l).sync = s.sync := rfl
@[simp] theorem setLimits_cues (l : Limits) : (s.setLimits l).cues = s.cues := rfl
@[simp] theorem setLimits_counting (l : Limits) : (s.setLimits l).counting = s.counting := rfl
@[simp] theorem setLimits_store (l : Limits) : (s.setLimits l).store = s.store := rfl
@[simp] theorem setLimits_events (l : Limits) : (s.setLimits l).events = s.events := rfl
@[simp] theorem setLimits_actions (l : Limits) : (s.setLimits l).actions = s.actions := rfl
@[simp] theorem setLimits_mgmt (l : Limits) : (s.setLimits l).mgmt = { s.mgmt with limits := l } := rfl
@[simp] theorem setLimits_counters (l : Limits) : (s.setLimits l).counters = s.counters := rfl
@[simp] theorem setLimits_draws (l : Limits) : (s.setLimits l).draws = s.draws := rfl
@[simp] theorem setLimits_pending (l : Limits) : (s.setLimits l).pending = s.pending := rfl

/-! ## After `State.setSchedule` -/

@[simp] theorem setSchedule_powered (q : List SchedEntry) : (s.setSchedule q).powered = s.powered := rfl
@[simp] theorem setSchedule_resetPin (q : List SchedEntry) : (s.setSchedule q).resetPin = s.resetPin := rfl
@[simp] theorem setSchedule_signal (q : List SchedEntry) : (s.setSchedule q).signal = s.signal := rfl
@[simp] theorem setSchedule_link (q : List SchedEntry) : (s.setSchedule q).link = s.link := rfl
@[simp] theorem setSchedule_wanted (q : List SchedEntry) : (s.setSchedule q).wanted = s.wanted := rfl
@[simp] theorem setSchedule_slots (q : List SchedEntry) : (s.setSchedule q).slots = s.slots := rfl
@[simp] theorem setSchedule_buffer (q : List SchedEntry) : (s.setSchedule q).buffer = s.buffer := rfl
@[simp] theorem setSchedule_holds (q : List SchedEntry) : (s.setSchedule q).holds = s.holds := rfl
@[simp] theorem setSchedule_comps (q : List SchedEntry) : (s.setSchedule q).comps = s.comps := rfl
@[simp] theorem setSchedule_clock (q : List SchedEntry) : (s.setSchedule q).clock = s.clock := rfl
@[simp] theorem setSchedule_schedule (q : List SchedEntry) : (s.setSchedule q).schedule = { s.schedule with queue := q } := rfl
@[simp] theorem setSchedule_timeline (q : List SchedEntry) : (s.setSchedule q).timeline = s.timeline := rfl
@[simp] theorem setSchedule_picture (q : List SchedEntry) : (s.setSchedule q).picture = s.picture := rfl
@[simp] theorem setSchedule_sound (q : List SchedEntry) : (s.setSchedule q).sound = s.sound := rfl
@[simp] theorem setSchedule_sync (q : List SchedEntry) : (s.setSchedule q).sync = s.sync := rfl
@[simp] theorem setSchedule_cues (q : List SchedEntry) : (s.setSchedule q).cues = s.cues := rfl
@[simp] theorem setSchedule_counting (q : List SchedEntry) : (s.setSchedule q).counting = s.counting := rfl
@[simp] theorem setSchedule_store (q : List SchedEntry) : (s.setSchedule q).store = s.store := rfl
@[simp] theorem setSchedule_events (q : List SchedEntry) : (s.setSchedule q).events = s.events := rfl
@[simp] theorem setSchedule_actions (q : List SchedEntry) : (s.setSchedule q).actions = s.actions := rfl
@[simp] theorem setSchedule_mgmt (q : List SchedEntry) : (s.setSchedule q).mgmt = s.mgmt := rfl
@[simp] theorem setSchedule_counters (q : List SchedEntry) : (s.setSchedule q).counters = s.counters := rfl
@[simp] theorem setSchedule_draws (q : List SchedEntry) : (s.setSchedule q).draws = s.draws := rfl
@[simp] theorem setSchedule_pending (q : List SchedEntry) : (s.setSchedule q).pending = s.pending := rfl

/-! ## After `State.popFront` -/

@[simp] theorem popFront_powered : (s.popFront).powered = s.powered := rfl
@[simp] theorem popFront_resetPin : (s.popFront).resetPin = s.resetPin := rfl
@[simp] theorem popFront_signal : (s.popFront).signal = s.signal := rfl
@[simp] theorem popFront_link : (s.popFront).link = s.link := rfl
@[simp] theorem popFront_wanted : (s.popFront).wanted = s.wanted := rfl
@[simp] theorem popFront_slots : (s.popFront).slots = s.slots := rfl
@[simp] theorem popFront_buffer : (s.popFront).buffer = s.buffer := rfl
@[simp] theorem popFront_holds : (s.popFront).holds = s.holds := rfl
@[simp] theorem popFront_comps : (s.popFront).comps = s.comps := rfl
@[simp] theorem popFront_clock : (s.popFront).clock = s.clock := rfl
@[simp] theorem popFront_schedule : (s.popFront).schedule = s.schedule := rfl
@[simp] theorem popFront_timeline : (s.popFront).timeline = s.timeline := rfl
@[simp] theorem popFront_picture : (s.popFront).picture = s.picture := rfl
@[simp] theorem popFront_sound : (s.popFront).sound = s.sound := rfl
@[simp] theorem popFront_sync : (s.popFront).sync = s.sync := rfl
@[simp] theorem popFront_cues : (s.popFront).cues = s.cues := rfl
@[simp] theorem popFront_counting : (s.popFront).counting = s.counting := rfl
@[simp] theorem popFront_store : (s.popFront).store = s.store := rfl
@[simp] theorem popFront_events : (s.popFront).events = s.events := rfl
@[simp] theorem popFront_actions : (s.popFront).actions = s.actions := rfl
@[simp] theorem popFront_mgmt : (s.popFront).mgmt = s.mgmt := rfl
@[simp] theorem popFront_counters : (s.popFront).counters = s.counters := rfl
@[simp] theorem popFront_draws : (s.popFront).draws = s.draws := rfl
@[simp] theorem popFront_pending : (s.popFront).pending = s.pending.tail := rfl

/-! ## After `State.pushFront` -/

@[simp] theorem pushFront_powered (c : Instr) : ((s.pushFront c)).powered = s.powered := rfl
@[simp] theorem pushFront_resetPin (c : Instr) : ((s.pushFront c)).resetPin = s.resetPin := rfl
@[simp] theorem pushFront_signal (c : Instr) : ((s.pushFront c)).signal = s.signal := rfl
@[simp] theorem pushFront_link (c : Instr) : ((s.pushFront c)).link = s.link := rfl
@[simp] theorem pushFront_wanted (c : Instr) : ((s.pushFront c)).wanted = s.wanted := rfl
@[simp] theorem pushFront_slots (c : Instr) : ((s.pushFront c)).slots = s.slots := rfl
@[simp] theorem pushFront_buffer (c : Instr) : ((s.pushFront c)).buffer = s.buffer := rfl
@[simp] theorem pushFront_holds (c : Instr) : ((s.pushFront c)).holds = s.holds := rfl
@[simp] theorem pushFront_comps (c : Instr) : ((s.pushFront c)).comps = s.comps := rfl
@[simp] theorem pushFront_clock (c : Instr) : ((s.pushFront c)).clock = s.clock := rfl
@[simp] theorem pushFront_schedule (c : Instr) : ((s.pushFront c)).schedule = s.schedule := rfl
@[simp] theorem pushFront_timeline (c : Instr) : ((s.pushFront c)).timeline = s.timeline := rfl
@[simp] theorem pushFront_picture (c : Instr) : ((s.pushFront c)).picture = s.picture := rfl
@[simp] theorem pushFront_sound (c : Instr) : ((s.pushFront c)).sound = s.sound := rfl
@[simp] theorem pushFront_sync (c : Instr) : ((s.pushFront c)).sync = s.sync := rfl
@[simp] theorem pushFront_cues (c : Instr) : ((s.pushFront c)).cues = s.cues := rfl
@[simp] theorem pushFront_counting (c : Instr) : ((s.pushFront c)).counting = s.counting := rfl
@[simp] theorem pushFront_store (c : Instr) : ((s.pushFront c)).store = s.store := rfl
@[simp] theorem pushFront_events (c : Instr) : ((s.pushFront c)).events = s.events := rfl
@[simp] theorem pushFront_actions (c : Instr) : ((s.pushFront c)).actions = s.actions := rfl
@[simp] theorem pushFront_mgmt (c : Instr) : ((s.pushFront c)).mgmt = s.mgmt := rfl
@[simp] theorem pushFront_counters (c : Instr) : ((s.pushFront c)).counters = s.counters := rfl
@[simp] theorem pushFront_draws (c : Instr) : ((s.pushFront c)).draws = s.draws := rfl
@[simp] theorem pushFront_pending (c : Instr) : ((s.pushFront c)).pending = c :: s.pending := rfl

end Sys2Proof.Machine
end

