-- ==== Sys2Proof/Laws/Reports.lean ====
section
/-! SUPPORT. What handing a change to the Event Table, the Action Unit or the report queue can do: `reportsFrom`, once for each of
these operations, and the fields of State that they leave alone. -/

namespace Sys2Proof.Machine

/-! ## The report queue -/

/-- Offering a report changes the queue of the Link Port alone. -/
theorem LinkPort.offer_eq (l : LinkPort) (r : Report) : l.offer r = { l with queue := (l.offer r).queue } := by
  unfold LinkPort.offer LinkPort.take
  split
  · rfl
  · dsimp only
    split
    · rfl
    · split
      · rfl
      · split
        · rfl
        · cases dropNewestEvent (l.queue.drop l.inFlight) <;> rfl

/-- Replacing a HOLD in place keeps the number of reports (R13). -/
theorem length_replaceHold {lane : AvLane} {r : Report} :
    ∀ {q q' : List Report}, replaceHold lane r q = some q' → q'.length = q.length
  | [], _, h => by simp [replaceHold] at h
  | a :: as, q', h => by
    unfold replaceHold at h
    split at h
    · cases h; rfl
    · cases hr : replaceHold lane r as with
      | none => simp [hr] at h
      | some x => simp [hr] at h; subst h; simp [length_replaceHold hr]

/-- Displacing an EVENT report removes one report (R12). -/
theorem length_dropNewestEvent : ∀ {q q' : List Report}, dropNewestEvent q = some q' → q'.length + 1 = q.length
  | [], _, h => by simp [dropNewestEvent] at h
  | a :: as, q', h => by
    unfold dropNewestEvent at h
    cases hr : dropNewestEvent as with
    | some rest => simp [hr] at h; subst h; simp [length_dropNewestEvent hr]
    | none =>
      simp only [hr] at h
      split at h
      · cases h; rfl
      · cases h

/-! ## Reporting -/

theorem reportsFrom_refl (s : State) : reportsFrom s s := rfl

theorem reportsFrom_trans {s t u : State} (h : reportsFrom s t) (h' : reportsFrom t u) : reportsFrom s u := by
  unfold reportsFrom at *
  rw [h] at h'
  rw [h']

theorem queueReport_reports (r : Report) (s : State) : reportsFrom s (queueReport r s) := by
  unfold reportsFrom queueReport
  rw [LinkPort.offer_eq]

theorem reply_reports (code tag : Nat) (r : Results) (s : State) : reportsFrom s (reply code tag r s) := queueReport_reports _ s

theorem refuse_reports (code tag : Nat) (r : Reason) (s : State) : reportsFrom s (refuse code tag r s) := queueReport_reports _ s

theorem refuseAt_reports (code tag : Nat) (r : Reason) (n : Nat) (s : State) : reportsFrom s (refuseAt code tag r n s) :=
  queueReport_reports _ s

theorem setEvent_reports (k : EventKind) (r : EventRec) (s : State) : reportsFrom s (s.setEvent k r) := rfl

theorem reportEvent_reports (k : EventKind) (n : EventNews) (b : Bool) (s : State) : reportsFrom s (reportEvent k n b s) := by
  unfold reportEvent
  split
  · exact queueReport_reports _ s
  · rfl

theorem recordAssert_reports (k : EventKind) (s : State) : reportsFrom s (recordAssert k s) :=
  reportsFrom_trans (setEvent_reports k _ s) (reportEvent_reports _ _ _ _)

theorem recordDeassert_reports (k : EventKind) (s : State) : reportsFrom s (recordDeassert k s) :=
  reportsFrom_trans (setEvent_reports k _ s) (reportEvent_reports _ _ _ _)

theorem recordOccurrence_reports (k : EventKind) (s : State) : reportsFrom s (recordOccurrence k s) :=
  reportsFrom_trans (setEvent_reports k _ s) (reportEvent_reports _ _ _ _)

/-- Offering a message changes the action queue, the line and its timer alone. -/
theorem ActionUnit.offer_eq (a : ActionUnit) (m : Message) :
    (a.offer m).1 = { a with queue := (a.offer m).1.queue, line := (a.offer m).1.line, timer := (a.offer m).1.timer } := by
  unfold ActionUnit.offer
  split
  · rfl
  · split <;> rfl

theorem ActionUnit.offerAll_eq : ∀ (ms : List Message) (a : ActionUnit),
    (a.offerAll ms).1 =
      { a with queue := (a.offerAll ms).1.queue, line := (a.offerAll ms).1.line, timer := (a.offerAll ms).1.timer }
  | [], _ => rfl
  | m :: ms, a => by
    have h := ActionUnit.offerAll_eq ms (a.offer m).1
    have h' := ActionUnit.offer_eq a m
    unfold ActionUnit.offerAll
    dsimp only
    rw [h]
    rw [h']

theorem offerMessages_reports (ms : List Message) (s : State) : reportsFrom s (offerMessages ms s).1 := by
  unfold reportsFrom offerMessages
  dsimp only
  rw [ActionUnit.offerAll_eq]

theorem fireMessages_reports (ms : List Message) (s : State) : reportsFrom s (fireMessages ms s) := by
  have h := offerMessages_reports ms s
  unfold fireMessages
  dsimp only
  split
  · exact h
  · exact reportsFrom_trans (reportsFrom_trans h (recordAssert_reports _ _)) (offerMessages_reports _ _)

theorem fireTrigger_reports (t : Trigger) (s : State) : reportsFrom s (fireTrigger t s) := fireMessages_reports _ s

theorem assertEvent_reports (k : EventKind) (s : State) : reportsFrom s (assertEvent k s) := by
  unfold assertEvent
  split
  · rfl
  · exact reportsFrom_trans (recordAssert_reports k s) (fireTrigger_reports _ _)

theorem deassertEvent_reports (k : EventKind) (s : State) : reportsFrom s (deassertEvent k s) := by
  unfold deassertEvent
  split
  · exact reportsFrom_trans (recordDeassert_reports k s) (fireTrigger_reports _ _)
  · rfl

theorem setLevel_reports (k : EventKind) (b : Bool) (s : State) : reportsFrom s (setLevel k b s) := by
  unfold setLevel
  split
  · exact assertEvent_reports k s
  · exact deassertEvent_reports k s

theorem occur_reports (k : EventKind) (s : State) : reportsFrom s (occur k s) :=
  reportsFrom_trans (recordOccurrence_reports k s) (fireTrigger_reports _ _)

theorem acceptCommand_reports (s : State) :
    reportsFrom { s with schedule := { s.schedule with heartbeat := 0 } } (acceptCommand s) := deassertEvent_reports _ _

/-! ## Fields that reporting leaves alone -/

theorem reportsFrom.powered_eq {u t : State} (h : reportsFrom u t) : t.powered = u.powered := by
  rw [show t = _ from h]

theorem reportsFrom.resetPin_eq {u t : State} (h : reportsFrom u t) : t.resetPin = u.resetPin := by
  rw [show t = _ from h]

theorem reportsFrom.signal_eq {u t : State} (h : reportsFrom u t) : t.signal = u.signal := by
  rw [show t = _ from h]

theorem reportsFrom.wanted_eq {u t : State} (h : reportsFrom u t) : t.wanted = u.wanted := by
  rw [show t = _ from h]

theorem reportsFrom.slots_eq {u t : State} (h : reportsFrom u t) : t.slots = u.slots := by
  rw [show t = _ from h]

theorem reportsFrom.buffer_eq {u t : State} (h : reportsFrom u t) : t.buffer = u.buffer := by
  rw [show t = _ from h]

theorem reportsFrom.holds_eq {u t : State} (h : reportsFrom u t) : t.holds = u.holds := by
  rw [show t = _ from h]

theorem reportsFrom.comps_eq {u t : State} (h : reportsFrom u t) : t.comps = u.comps := by
  rw [show t = _ from h]

theorem reportsFrom.clock_eq {u t : State} (h : reportsFrom u t) : t.clock = u.clock := by
  rw [show t = _ from h]

theorem reportsFrom.schedule_eq {u t : State} (h : reportsFrom u t) : t.schedule = u.schedule := by
  rw [show t = _ from h]

theorem reportsFrom.timeline_eq {u t : State} (h : reportsFrom u t) : t.timeline = u.timeline := by
  rw [show t = _ from h]

theorem reportsFrom.picture_eq {u t : State} (h : reportsFrom u t) : t.picture = u.picture := by
  rw [show t = _ from h]

theorem reportsFrom.sound_eq {u t : State} (h : reportsFrom u t) : t.sound = u.sound := by
  rw [show t = _ from h]

theorem reportsFrom.sync_eq {u t : State} (h : reportsFrom u t) : t.sync = u.sync := by
  rw [show t = _ from h]

theorem reportsFrom.cues_eq {u t : State} (h : reportsFrom u t) : t.cues = u.cues := by
  rw [show t = _ from h]

theorem reportsFrom.counting_eq {u t : State} (h : reportsFrom u t) : t.counting = u.counting := by
  rw [show t = _ from h]

theorem reportsFrom.store_eq {u t : State} (h : reportsFrom u t) : t.store = u.store := by
  rw [show t = _ from h]

theorem reportsFrom.mgmt_eq {u t : State} (h : reportsFrom u t) : t.mgmt = u.mgmt := by
  rw [show t = _ from h]

theorem reportsFrom.draws_eq {u t : State} (h : reportsFrom u t) : t.draws = u.draws := by
  rw [show t = _ from h]

theorem reportsFrom.pending_eq {u t : State} (h : reportsFrom u t) : t.pending = u.pending := by
  rw [show t = _ from h]

theorem reportsFrom.link_state_eq {u t : State} (h : reportsFrom u t) : t.link.state = u.link.state := by
  rw [show t = _ from h]

theorem reportsFrom.link_limit_eq {u t : State} (h : reportsFrom u t) : t.link.limit = u.link.limit := by
  rw [show t = _ from h]

theorem reportsFrom.link_laneCount_eq {u t : State} (h : reportsFrom u t) : t.link.laneCount = u.link.laneCount := by
  rw [show t = _ from h]

theorem reportsFrom.link_lost_eq {u t : State} (h : reportsFrom u t) : t.link.lost = u.link.lost := by
  rw [show t = _ from h]

theorem reportsFrom.link_retrainRun_eq {u t : State} (h : reportsFrom u t) : t.link.retrainRun = u.link.retrainRun := by
  rw [show t = _ from h]

theorem reportsFrom.link_damage_eq {u t : State} (h : reportsFrom u t) : t.link.damage = u.link.damage := by
  rw [show t = _ from h]

theorem reportsFrom.link_sending_eq {u t : State} (h : reportsFrom u t) : t.link.sending = u.link.sending := by
  rw [show t = _ from h]

theorem reportsFrom.link_attempt_eq {u t : State} (h : reportsFrom u t) : t.link.attempt = u.link.attempt := by
  rw [show t = _ from h]

theorem reportsFrom.link_decided_eq {u t : State} (h : reportsFrom u t) : t.link.decided = u.link.decided := by
  rw [show t = _ from h]

theorem reportsFrom.link_ownRetrain_eq {u t : State} (h : reportsFrom u t) : t.link.ownRetrain = u.link.ownRetrain := by
  rw [show t = _ from h]

theorem reportsFrom.link_out_eq {u t : State} (h : reportsFrom u t) : t.link.out = u.link.out := by
  rw [show t = _ from h]

variable (s : State)

@[simp] theorem queueReport_powered (r : Report) : (queueReport r s).powered = s.powered := (queueReport_reports r s).powered_eq
@[simp] theorem queueReport_resetPin (r : Report) : (queueReport r s).resetPin = s.resetPin := (queueReport_reports r s).resetPin_eq
@[simp] theorem queueReport_signal (r : Report) : (queueReport r s).signal = s.signal := (queueReport_reports r s).signal_eq
@[simp] theorem queueReport_wanted (r : Report) : (queueReport r s).wanted = s.wanted := (queueReport_reports r s).wanted_eq
@[simp] theorem queueReport_slots (r : Report) : (queueReport r s).slots = s.slots := (queueReport_reports r s).slots_eq
@[simp] theorem queueReport_buffer (r : Report) : (queueReport r s).buffer = s.buffer := (queueReport_reports r s).buffer_eq
@[simp] theorem queueReport_holds (r : Report) : (queueReport r s).holds = s.holds := (queueReport_reports r s).holds_eq
@[simp] theorem queueReport_comps (r : Report) : (queueReport r s).comps = s.comps := (queueReport_reports r s).comps_eq
@[simp] theorem queueReport_clock (r : Report) : (queueReport r s).clock = s.clock := (queueReport_reports r s).clock_eq
@[simp] theorem queueReport_schedule (r : Report) : (queueReport r s).schedule = s.schedule := (queueReport_reports r s).schedule_eq
@[simp] theorem queueReport_timeline (r : Report) : (queueReport r s).timeline = s.timeline := (queueReport_reports r s).timeline_eq
@[simp] theorem queueReport_picture (r : Report) : (queueReport r s).picture = s.picture := (queueReport_reports r s).picture_eq
@[simp] theorem queueReport_sound (r : Report) : (queueReport r s).sound = s.sound := (queueReport_reports r s).sound_eq
@[simp] theorem queueReport_sync (r : Report) : (queueReport r s).sync = s.sync := (queueReport_reports r s).sync_eq
@[simp] theorem queueReport_cues (r : Report) : (queueReport r s).cues = s.cues := (queueReport_reports r s).cues_eq
@[simp] theorem queueReport_counting (r : Report) : (queueReport r s).counting = s.counting := (queueReport_reports r s).counting_eq
@[simp] theorem queueReport_store (r : Report) : (queueReport r s).store = s.store := (queueReport_reports r s).store_eq
@[simp] theorem queueReport_mgmt (r : Report) : (queueReport r s).mgmt = s.mgmt := (queueReport_reports r s).mgmt_eq
@[simp] theorem queueReport_draws (r : Report) : (queueReport r s).draws = s.draws := (queueReport_reports r s).draws_eq
@[simp] theorem queueReport_pending (r : Report) : (queueReport r s).pending = s.pending := (queueReport_reports r s).pending_eq
@[simp] theorem queueReport_link_state (r : Report) : (queueReport r s).link.state = s.link.state := (queueReport_reports r s).link_state_eq
@[simp] theorem queueReport_link_limit (r : Report) : (queueReport r s).link.limit = s.link.limit := (queueReport_reports r s).link_limit_eq
@[simp] theorem queueReport_link_laneCount (r : Report) : (queueReport r s).link.laneCount = s.link.laneCount := (queueReport_reports r s).link_laneCount_eq
@[simp] theorem queueReport_link_lost (r : Report) : (queueReport r s).link.lost = s.link.lost := (queueReport_reports r s).link_lost_eq
@[simp] theorem queueReport_link_retrainRun (r : Report) : (queueReport r s).link.retrainRun = s.link.retrainRun := (queueReport_reports r s).link_retrainRun_eq
@[simp] theorem queueReport_link_damage (r : Report) : (queueReport r s).link.damage = s.link.damage := (queueReport_reports r s).link_damage_eq
@[simp] theorem queueReport_link_sending (r : Report) : (queueReport r s).link.sending = s.link.sending := (queueReport_reports r s).link_sending_eq
@[simp] theorem queueReport_link_attempt (r : Report) : (queueReport r s).link.attempt = s.link.attempt := (queueReport_reports r s).link_attempt_eq
@[simp] theorem queueReport_link_decided (r : Report) : (queueReport r s).link.decided = s.link.decided := (queueReport_reports r s).link_decided_eq
@[simp] theorem queueReport_link_ownRetrain (r : Report) : (queueReport r s).link.ownRetrain = s.link.ownRetrain := (queueReport_reports r s).link_ownRetrain_eq
@[simp] theorem queueReport_link_out (r : Report) : (queueReport r s).link.out = s.link.out := (queueReport_reports r s).link_out_eq

@[simp] theorem reply_powered (code tag : Nat) (r : Results) : (reply code tag r s).powered = s.powered := (reply_reports code tag r s).powered_eq
@[simp] theorem reply_resetPin (code tag : Nat) (r : Results) : (reply code tag r s).resetPin = s.resetPin := (reply_reports code tag r s).resetPin_eq
@[simp] theorem reply_signal (code tag : Nat) (r : Results) : (reply code tag r s).signal = s.signal := (reply_reports code tag r s).signal_eq
@[simp] theorem reply_wanted (code tag : Nat) (r : Results) : (reply code tag r s).wanted = s.wanted := (reply_reports code tag r s).wanted_eq
@[simp] theorem reply_slots (code tag : Nat) (r : Results) : (reply code tag r s).slots = s.slots := (reply_reports code tag r s).slots_eq
@[simp] theorem reply_buffer (code tag : Nat) (r : Results) : (reply code tag r s).buffer = s.buffer := (reply_reports code tag r s).buffer_eq
@[simp] theorem reply_holds (code tag : Nat) (r : Results) : (reply code tag r s).holds = s.holds := (reply_reports code tag r s).holds_eq
@[simp] theorem reply_comps (code tag : Nat) (r : Results) : (reply code tag r s).comps = s.comps := (reply_reports code tag r s).comps_eq
@[simp] theorem reply_clock (code tag : Nat) (r : Results) : (reply code tag r s).clock = s.clock := (reply_reports code tag r s).clock_eq
@[simp] theorem reply_schedule (code tag : Nat) (r : Results) : (reply code tag r s).schedule = s.schedule := (reply_reports code tag r s).schedule_eq
@[simp] theorem reply_timeline (code tag : Nat) (r : Results) : (reply code tag r s).timeline = s.timeline := (reply_reports code tag r s).timeline_eq
@[simp] theorem reply_picture (code tag : Nat) (r : Results) : (reply code tag r s).picture = s.picture := (reply_reports code tag r s).picture_eq
@[simp] theorem reply_sound (code tag : Nat) (r : Results) : (reply code tag r s).sound = s.sound := (reply_reports code tag r s).sound_eq
@[simp] theorem reply_sync (code tag : Nat) (r : Results) : (reply code tag r s).sync = s.sync := (reply_reports code tag r s).sync_eq
@[simp] theorem reply_cues (code tag : Nat) (r : Results) : (reply code tag r s).cues = s.cues := (reply_reports code tag r s).cues_eq
@[simp] theorem reply_counting (code tag : Nat) (r : Results) : (reply code tag r s).counting = s.counting := (reply_reports code tag r s).counting_eq
@[simp] theorem reply_store (code tag : Nat) (r : Results) : (reply code tag r s).store = s.store := (reply_reports code tag r s).store_eq
@[simp] theorem reply_mgmt (code tag : Nat) (r : Results) : (reply code tag r s).mgmt = s.mgmt := (reply_reports code tag r s).mgmt_eq
@[simp] theorem reply_draws (code tag : Nat) (r : Results) : (reply code tag r s).draws = s.draws := (reply_reports code tag r s).draws_eq
@[simp] theorem reply_pending (code tag : Nat) (r : Results) : (reply code tag r s).pending = s.pending := (reply_reports code tag r s).pending_eq
@[simp] theorem reply_link_state (code tag : Nat) (r : Results) : (reply code tag r s).link.state = s.link.state := (reply_reports code tag r s).link_state_eq
@[simp] theorem reply_link_limit (code tag : Nat) (r : Results) : (reply code tag r s).link.limit = s.link.limit := (reply_reports code tag r s).link_limit_eq
@[simp] theorem reply_link_laneCount (code tag : Nat) (r : Results) : (reply code tag r s).link.laneCount = s.link.laneCount := (reply_reports code tag r s).link_laneCount_eq
@[simp] theorem reply_link_lost (code tag : Nat) (r : Results) : (reply code tag r s).link.lost = s.link.lost := (reply_reports code tag r s).link_lost_eq
@[simp] theorem reply_link_retrainRun (code tag : Nat) (r : Results) : (reply code tag r s).link.retrainRun = s.link.retrainRun := (reply_reports code tag r s).link_retrainRun_eq
@[simp] theorem reply_link_damage (code tag : Nat) (r : Results) : (reply code tag r s).link.damage = s.link.damage := (reply_reports code tag r s).link_damage_eq
@[simp] theorem reply_link_sending (code tag : Nat) (r : Results) : (reply code tag r s).link.sending = s.link.sending := (reply_reports code tag r s).link_sending_eq
@[simp] theorem reply_link_attempt (code tag : Nat) (r : Results) : (reply code tag r s).link.attempt = s.link.attempt := (reply_reports code tag r s).link_attempt_eq
@[simp] theorem reply_link_decided (code tag : Nat) (r : Results) : (reply code tag r s).link.decided = s.link.decided := (reply_reports code tag r s).link_decided_eq
@[simp] theorem reply_link_ownRetrain (code tag : Nat) (r : Results) : (reply code tag r s).link.ownRetrain = s.link.ownRetrain := (reply_reports code tag r s).link_ownRetrain_eq
@[simp] theorem reply_link_out (code tag : Nat) (r : Results) : (reply code tag r s).link.out = s.link.out := (reply_reports code tag r s).link_out_eq

@[simp] theorem refuse_powered (code tag : Nat) (r : Reason) : (refuse code tag r s).powered = s.powered := (refuse_reports code tag r s).powered_eq
@[simp] theorem refuse_resetPin (code tag : Nat) (r : Reason) : (refuse code tag r s).resetPin = s.resetPin := (refuse_reports code tag r s).resetPin_eq
@[simp] theorem refuse_signal (code tag : Nat) (r : Reason) : (refuse code tag r s).signal = s.signal := (refuse_reports code tag r s).signal_eq
@[simp] theorem refuse_wanted (code tag : Nat) (r : Reason) : (refuse code tag r s).wanted = s.wanted := (refuse_reports code tag r s).wanted_eq
@[simp] theorem refuse_slots (code tag : Nat) (r : Reason) : (refuse code tag r s).slots = s.slots := (refuse_reports code tag r s).slots_eq
@[simp] theorem refuse_buffer (code tag : Nat) (r : Reason) : (refuse code tag r s).buffer = s.buffer := (refuse_reports code tag r s).buffer_eq
@[simp] theorem refuse_holds (code tag : Nat) (r : Reason) : (refuse code tag r s).holds = s.holds := (refuse_reports code tag r s).holds_eq
@[simp] theorem refuse_comps (code tag : Nat) (r : Reason) : (refuse code tag r s).comps = s.comps := (refuse_reports code tag r s).comps_eq
@[simp] theorem refuse_clock (code tag : Nat) (r : Reason) : (refuse code tag r s).clock = s.clock := (refuse_reports code tag r s).clock_eq
@[simp] theorem refuse_schedule (code tag : Nat) (r : Reason) : (refuse code tag r s).schedule = s.schedule := (refuse_reports code tag r s).schedule_eq
@[simp] theorem refuse_timeline (code tag : Nat) (r : Reason) : (refuse code tag r s).timeline = s.timeline := (refuse_reports code tag r s).timeline_eq
@[simp] theorem refuse_picture (code tag : Nat) (r : Reason) : (refuse code tag r s).picture = s.picture := (refuse_reports code tag r s).picture_eq
@[simp] theorem refuse_sound (code tag : Nat) (r : Reason) : (refuse code tag r s).sound = s.sound := (refuse_reports code tag r s).sound_eq
@[simp] theorem refuse_sync (code tag : Nat) (r : Reason) : (refuse code tag r s).sync = s.sync := (refuse_reports code tag r s).sync_eq
@[simp] theorem refuse_cues (code tag : Nat) (r : Reason) : (refuse code tag r s).cues = s.cues := (refuse_reports code tag r s).cues_eq
@[simp] theorem refuse_counting (code tag : Nat) (r : Reason) : (refuse code tag r s).counting = s.counting := (refuse_reports code tag r s).counting_eq
@[simp] theorem refuse_store (code tag : Nat) (r : Reason) : (refuse code tag r s).store = s.store := (refuse_reports code tag r s).store_eq
@[simp] theorem refuse_mgmt (code tag : Nat) (r : Reason) : (refuse code tag r s).mgmt = s.mgmt := (refuse_reports code tag r s).mgmt_eq
@[simp] theorem refuse_draws (code tag : Nat) (r : Reason) : (refuse code tag r s).draws = s.draws := (refuse_reports code tag r s).draws_eq
@[simp] theorem refuse_pending (code tag : Nat) (r : Reason) : (refuse code tag r s).pending = s.pending := (refuse_reports code tag r s).pending_eq
@[simp] theorem refuse_link_state (code tag : Nat) (r : Reason) : (refuse code tag r s).link.state = s.link.state := (refuse_reports code tag r s).link_state_eq
@[simp] theorem refuse_link_limit (code tag : Nat) (r : Reason) : (refuse code tag r s).link.limit = s.link.limit := (refuse_reports code tag r s).link_limit_eq
@[simp] theorem refuse_link_laneCount (code tag : Nat) (r : Reason) : (refuse code tag r s).link.laneCount = s.link.laneCount := (refuse_reports code tag r s).link_laneCount_eq
@[simp] theorem refuse_link_lost (code tag : Nat) (r : Reason) : (refuse code tag r s).link.lost = s.link.lost := (refuse_reports code tag r s).link_lost_eq
@[simp] theorem refuse_link_retrainRun (code tag : Nat) (r : Reason) : (refuse code tag r s).link.retrainRun = s.link.retrainRun := (refuse_reports code tag r s).link_retrainRun_eq
@[simp] theorem refuse_link_damage (code tag : Nat) (r : Reason) : (refuse code tag r s).link.damage = s.link.damage := (refuse_reports code tag r s).link_damage_eq
@[simp] theorem refuse_link_sending (code tag : Nat) (r : Reason) : (refuse code tag r s).link.sending = s.link.sending := (refuse_reports code tag r s).link_sending_eq
@[simp] theorem refuse_link_attempt (code tag : Nat) (r : Reason) : (refuse code tag r s).link.attempt = s.link.attempt := (refuse_reports code tag r s).link_attempt_eq
@[simp] theorem refuse_link_decided (code tag : Nat) (r : Reason) : (refuse code tag r s).link.decided = s.link.decided := (refuse_reports code tag r s).link_decided_eq
@[simp] theorem refuse_link_ownRetrain (code tag : Nat) (r : Reason) : (refuse code tag r s).link.ownRetrain = s.link.ownRetrain := (refuse_reports code tag r s).link_ownRetrain_eq
@[simp] theorem refuse_link_out (code tag : Nat) (r : Reason) : (refuse code tag r s).link.out = s.link.out := (refuse_reports code tag r s).link_out_eq

@[simp] theorem fireMessages_powered (ms : List Message) : (fireMessages ms s).powered = s.powered := (fireMessages_reports ms s).powered_eq
@[simp] theorem fireMessages_resetPin (ms : List Message) : (fireMessages ms s).resetPin = s.resetPin := (fireMessages_reports ms s).resetPin_eq
@[simp] theorem fireMessages_signal (ms : List Message) : (fireMessages ms s).signal = s.signal := (fireMessages_reports ms s).signal_eq
@[simp] theorem fireMessages_wanted (ms : List Message) : (fireMessages ms s).wanted = s.wanted := (fireMessages_reports ms s).wanted_eq
@[simp] theorem fireMessages_slots (ms : List Message) : (fireMessages ms s).slots = s.slots := (fireMessages_reports ms s).slots_eq
@[simp] theorem fireMessages_buffer (ms : List Message) : (fireMessages ms s).buffer = s.buffer := (fireMessages_reports ms s).buffer_eq
@[simp] theorem fireMessages_holds (ms : List Message) : (fireMessages ms s).holds = s.holds := (fireMessages_reports ms s).holds_eq
@[simp] theorem fireMessages_comps (ms : List Message) : (fireMessages ms s).comps = s.comps := (fireMessages_reports ms s).comps_eq
@[simp] theorem fireMessages_clock (ms : List Message) : (fireMessages ms s).clock = s.clock := (fireMessages_reports ms s).clock_eq
@[simp] theorem fireMessages_schedule (ms : List Message) : (fireMessages ms s).schedule = s.schedule := (fireMessages_reports ms s).schedule_eq
@[simp] theorem fireMessages_timeline (ms : List Message) : (fireMessages ms s).timeline = s.timeline := (fireMessages_reports ms s).timeline_eq
@[simp] theorem fireMessages_picture (ms : List Message) : (fireMessages ms s).picture = s.picture := (fireMessages_reports ms s).picture_eq
@[simp] theorem fireMessages_sound (ms : List Message) : (fireMessages ms s).sound = s.sound := (fireMessages_reports ms s).sound_eq
@[simp] theorem fireMessages_sync (ms : List Message) : (fireMessages ms s).sync = s.sync := (fireMessages_reports ms s).sync_eq
@[simp] theorem fireMessages_cues (ms : List Message) : (fireMessages ms s).cues = s.cues := (fireMessages_reports ms s).cues_eq
@[simp] theorem fireMessages_counting (ms : List Message) : (fireMessages ms s).counting = s.counting := (fireMessages_reports ms s).counting_eq
@[simp] theorem fireMessages_store (ms : List Message) : (fireMessages ms s).store = s.store := (fireMessages_reports ms s).store_eq
@[simp] theorem fireMessages_mgmt (ms : List Message) : (fireMessages ms s).mgmt = s.mgmt := (fireMessages_reports ms s).mgmt_eq
@[simp] theorem fireMessages_draws (ms : List Message) : (fireMessages ms s).draws = s.draws := (fireMessages_reports ms s).draws_eq
@[simp] theorem fireMessages_pending (ms : List Message) : (fireMessages ms s).pending = s.pending := (fireMessages_reports ms s).pending_eq
@[simp] theorem fireMessages_link_state (ms : List Message) : (fireMessages ms s).link.state = s.link.state := (fireMessages_reports ms s).link_state_eq
@[simp] theorem fireMessages_link_limit (ms : List Message) : (fireMessages ms s).link.limit = s.link.limit := (fireMessages_reports ms s).link_limit_eq
@[simp] theorem fireMessages_link_laneCount (ms : List Message) : (fireMessages ms s).link.laneCount = s.link.laneCount := (fireMessages_reports ms s).link_laneCount_eq
@[simp] theorem fireMessages_link_lost (ms : List Message) : (fireMessages ms s).link.lost = s.link.lost := (fireMessages_reports ms s).link_lost_eq
@[simp] theorem fireMessages_link_retrainRun (ms : List Message) : (fireMessages ms s).link.retrainRun = s.link.retrainRun := (fireMessages_reports ms s).link_retrainRun_eq
@[simp] theorem fireMessages_link_damage (ms : List Message) : (fireMessages ms s).link.damage = s.link.damage := (fireMessages_reports ms s).link_damage_eq
@[simp] theorem fireMessages_link_sending (ms : List Message) : (fireMessages ms s).link.sending = s.link.sending := (fireMessages_reports ms s).link_sending_eq
@[simp] theorem fireMessages_link_attempt (ms : List Message) : (fireMessages ms s).link.attempt = s.link.attempt := (fireMessages_reports ms s).link_attempt_eq
@[simp] theorem fireMessages_link_decided (ms : List Message) : (fireMessages ms s).link.decided = s.link.decided := (fireMessages_reports ms s).link_decided_eq
@[simp] theorem fireMessages_link_ownRetrain (ms : List Message) : (fireMessages ms s).link.ownRetrain = s.link.ownRetrain := (fireMessages_reports ms s).link_ownRetrain_eq
@[simp] theorem fireMessages_link_out (ms : List Message) : (fireMessages ms s).link.out = s.link.out := (fireMessages_reports ms s).link_out_eq

@[simp] theorem fireTrigger_powered (x : Trigger) : (fireTrigger x s).powered = s.powered := (fireTrigger_reports x s).powered_eq
@[simp] theorem fireTrigger_resetPin (x : Trigger) : (fireTrigger x s).resetPin = s.resetPin := (fireTrigger_reports x s).resetPin_eq
@[simp] theorem fireTrigger_signal (x : Trigger) : (fireTrigger x s).signal = s.signal := (fireTrigger_reports x s).signal_eq
@[simp] theorem fireTrigger_wanted (x : Trigger) : (fireTrigger x s).wanted = s.wanted := (fireTrigger_reports x s).wanted_eq
@[simp] theorem fireTrigger_slots (x : Trigger) : (fireTrigger x s).slots = s.slots := (fireTrigger_reports x s).slots_eq
@[simp] theorem fireTrigger_buffer (x : Trigger) : (fireTrigger x s).buffer = s.buffer := (fireTrigger_reports x s).buffer_eq
@[simp] theorem fireTrigger_holds (x : Trigger) : (fireTrigger x s).holds = s.holds := (fireTrigger_reports x s).holds_eq
@[simp] theorem fireTrigger_comps (x : Trigger) : (fireTrigger x s).comps = s.comps := (fireTrigger_reports x s).comps_eq
@[simp] theorem fireTrigger_clock (x : Trigger) : (fireTrigger x s).clock = s.clock := (fireTrigger_reports x s).clock_eq
@[simp] theorem fireTrigger_schedule (x : Trigger) : (fireTrigger x s).schedule = s.schedule := (fireTrigger_reports x s).schedule_eq
@[simp] theorem fireTrigger_timeline (x : Trigger) : (fireTrigger x s).timeline = s.timeline := (fireTrigger_reports x s).timeline_eq
@[simp] theorem fireTrigger_picture (x : Trigger) : (fireTrigger x s).picture = s.picture := (fireTrigger_reports x s).picture_eq
@[simp] theorem fireTrigger_sound (x : Trigger) : (fireTrigger x s).sound = s.sound := (fireTrigger_reports x s).sound_eq
@[simp] theorem fireTrigger_sync (x : Trigger) : (fireTrigger x s).sync = s.sync := (fireTrigger_reports x s).sync_eq
@[simp] theorem fireTrigger_cues (x : Trigger) : (fireTrigger x s).cues = s.cues := (fireTrigger_reports x s).cues_eq
@[simp] theorem fireTrigger_counting (x : Trigger) : (fireTrigger x s).counting = s.counting := (fireTrigger_reports x s).counting_eq
@[simp] theorem fireTrigger_store (x : Trigger) : (fireTrigger x s).store = s.store := (fireTrigger_reports x s).store_eq
@[simp] theorem fireTrigger_mgmt (x : Trigger) : (fireTrigger x s).mgmt = s.mgmt := (fireTrigger_reports x s).mgmt_eq
@[simp] theorem fireTrigger_draws (x : Trigger) : (fireTrigger x s).draws = s.draws := (fireTrigger_reports x s).draws_eq
@[simp] theorem fireTrigger_pending (x : Trigger) : (fireTrigger x s).pending = s.pending := (fireTrigger_reports x s).pending_eq
@[simp] theorem fireTrigger_link_state (x : Trigger) : (fireTrigger x s).link.state = s.link.state := (fireTrigger_reports x s).link_state_eq
@[simp] theorem fireTrigger_link_limit (x : Trigger) : (fireTrigger x s).link.limit = s.link.limit := (fireTrigger_reports x s).link_limit_eq
@[simp] theorem fireTrigger_link_laneCount (x : Trigger) : (fireTrigger x s).link.laneCount = s.link.laneCount := (fireTrigger_reports x s).link_laneCount_eq
@[simp] theorem fireTrigger_link_lost (x : Trigger) : (fireTrigger x s).link.lost = s.link.lost := (fireTrigger_reports x s).link_lost_eq
@[simp] theorem fireTrigger_link_retrainRun (x : Trigger) : (fireTrigger x s).link.retrainRun = s.link.retrainRun := (fireTrigger_reports x s).link_retrainRun_eq
@[simp] theorem fireTrigger_link_damage (x : Trigger) : (fireTrigger x s).link.damage = s.link.damage := (fireTrigger_reports x s).link_damage_eq
@[simp] theorem fireTrigger_link_sending (x : Trigger) : (fireTrigger x s).link.sending = s.link.sending := (fireTrigger_reports x s).link_sending_eq
@[simp] theorem fireTrigger_link_attempt (x : Trigger) : (fireTrigger x s).link.attempt = s.link.attempt := (fireTrigger_reports x s).link_attempt_eq
@[simp] theorem fireTrigger_link_decided (x : Trigger) : (fireTrigger x s).link.decided = s.link.decided := (fireTrigger_reports x s).link_decided_eq
@[simp] theorem fireTrigger_link_ownRetrain (x : Trigger) : (fireTrigger x s).link.ownRetrain = s.link.ownRetrain := (fireTrigger_reports x s).link_ownRetrain_eq
@[simp] theorem fireTrigger_link_out (x : Trigger) : (fireTrigger x s).link.out = s.link.out := (fireTrigger_reports x s).link_out_eq

@[simp] theorem assertEvent_powered (k : EventKind) : (assertEvent k s).powered = s.powered := (assertEvent_reports k s).powered_eq
@[simp] theorem assertEvent_resetPin (k : EventKind) : (assertEvent k s).resetPin = s.resetPin := (assertEvent_reports k s).resetPin_eq
@[simp] theorem assertEvent_signal (k : EventKind) : (assertEvent k s).signal = s.signal := (assertEvent_reports k s).signal_eq
@[simp] theorem assertEvent_wanted (k : EventKind) : (assertEvent k s).wanted = s.wanted := (assertEvent_reports k s).wanted_eq
@[simp] theorem assertEvent_slots (k : EventKind) : (assertEvent k s).slots = s.slots := (assertEvent_reports k s).slots_eq
@[simp] theorem assertEvent_buffer (k : EventKind) : (assertEvent k s).buffer = s.buffer := (assertEvent_reports k s).buffer_eq
@[simp] theorem assertEvent_holds (k : EventKind) : (assertEvent k s).holds = s.holds := (assertEvent_reports k s).holds_eq
@[simp] theorem assertEvent_comps (k : EventKind) : (assertEvent k s).comps = s.comps := (assertEvent_reports k s).comps_eq
@[simp] theorem assertEvent_clock (k : EventKind) : (assertEvent k s).clock = s.clock := (assertEvent_reports k s).clock_eq
@[simp] theorem assertEvent_schedule (k : EventKind) : (assertEvent k s).schedule = s.schedule := (assertEvent_reports k s).schedule_eq
@[simp] theorem assertEvent_timeline (k : EventKind) : (assertEvent k s).timeline = s.timeline := (assertEvent_reports k s).timeline_eq
@[simp] theorem assertEvent_picture (k : EventKind) : (assertEvent k s).picture = s.picture := (assertEvent_reports k s).picture_eq
@[simp] theorem assertEvent_sound (k : EventKind) : (assertEvent k s).sound = s.sound := (assertEvent_reports k s).sound_eq
@[simp] theorem assertEvent_sync (k : EventKind) : (assertEvent k s).sync = s.sync := (assertEvent_reports k s).sync_eq
@[simp] theorem assertEvent_cues (k : EventKind) : (assertEvent k s).cues = s.cues := (assertEvent_reports k s).cues_eq
@[simp] theorem assertEvent_counting (k : EventKind) : (assertEvent k s).counting = s.counting := (assertEvent_reports k s).counting_eq
@[simp] theorem assertEvent_store (k : EventKind) : (assertEvent k s).store = s.store := (assertEvent_reports k s).store_eq
@[simp] theorem assertEvent_mgmt (k : EventKind) : (assertEvent k s).mgmt = s.mgmt := (assertEvent_reports k s).mgmt_eq
@[simp] theorem assertEvent_draws (k : EventKind) : (assertEvent k s).draws = s.draws := (assertEvent_reports k s).draws_eq
@[simp] theorem assertEvent_pending (k : EventKind) : (assertEvent k s).pending = s.pending := (assertEvent_reports k s).pending_eq
@[simp] theorem assertEvent_link_state (k : EventKind) : (assertEvent k s).link.state = s.link.state := (assertEvent_reports k s).link_state_eq
@[simp] theorem assertEvent_link_limit (k : EventKind) : (assertEvent k s).link.limit = s.link.limit := (assertEvent_reports k s).link_limit_eq
@[simp] theorem assertEvent_link_laneCount (k : EventKind) : (assertEvent k s).link.laneCount = s.link.laneCount := (assertEvent_reports k s).link_laneCount_eq
@[simp] theorem assertEvent_link_lost (k : EventKind) : (assertEvent k s).link.lost = s.link.lost := (assertEvent_reports k s).link_lost_eq
@[simp] theorem assertEvent_link_retrainRun (k : EventKind) : (assertEvent k s).link.retrainRun = s.link.retrainRun := (assertEvent_reports k s).link_retrainRun_eq
@[simp] theorem assertEvent_link_damage (k : EventKind) : (assertEvent k s).link.damage = s.link.damage := (assertEvent_reports k s).link_damage_eq
@[simp] theorem assertEvent_link_sending (k : EventKind) : (assertEvent k s).link.sending = s.link.sending := (assertEvent_reports k s).link_sending_eq
@[simp] theorem assertEvent_link_attempt (k : EventKind) : (assertEvent k s).link.attempt = s.link.attempt := (assertEvent_reports k s).link_attempt_eq
@[simp] theorem assertEvent_link_decided (k : EventKind) : (assertEvent k s).link.decided = s.link.decided := (assertEvent_reports k s).link_decided_eq
@[simp] theorem assertEvent_link_ownRetrain (k : EventKind) : (assertEvent k s).link.ownRetrain = s.link.ownRetrain := (assertEvent_reports k s).link_ownRetrain_eq
@[simp] theorem assertEvent_link_out (k : EventKind) : (assertEvent k s).link.out = s.link.out := (assertEvent_reports k s).link_out_eq

@[simp] theorem deassertEvent_powered (k : EventKind) : (deassertEvent k s).powered = s.powered := (deassertEvent_reports k s).powered_eq
@[simp] theorem deassertEvent_resetPin (k : EventKind) : (deassertEvent k s).resetPin = s.resetPin := (deassertEvent_reports k s).resetPin_eq
@[simp] theorem deassertEvent_signal (k : EventKind) : (deassertEvent k s).signal = s.signal := (deassertEvent_reports k s).signal_eq
@[simp] theorem deassertEvent_wanted (k : EventKind) : (deassertEvent k s).wanted = s.wanted := (deassertEvent_reports k s).wanted_eq
@[simp] theorem deassertEvent_slots (k : EventKind) : (deassertEvent k s).slots = s.slots := (deassertEvent_reports k s).slots_eq
@[simp] theorem deassertEvent_buffer (k : EventKind) : (deassertEvent k s).buffer = s.buffer := (deassertEvent_reports k s).buffer_eq
@[simp] theorem deassertEvent_holds (k : EventKind) : (deassertEvent k s).holds = s.holds := (deassertEvent_reports k s).holds_eq
@[simp] theorem deassertEvent_comps (k : EventKind) : (deassertEvent k s).comps = s.comps := (deassertEvent_reports k s).comps_eq
@[simp] theorem deassertEvent_clock (k : EventKind) : (deassertEvent k s).clock = s.clock := (deassertEvent_reports k s).clock_eq
@[simp] theorem deassertEvent_schedule (k : EventKind) : (deassertEvent k s).schedule = s.schedule := (deassertEvent_reports k s).schedule_eq
@[simp] theorem deassertEvent_timeline (k : EventKind) : (deassertEvent k s).timeline = s.timeline := (deassertEvent_reports k s).timeline_eq
@[simp] theorem deassertEvent_picture (k : EventKind) : (deassertEvent k s).picture = s.picture := (deassertEvent_reports k s).picture_eq
@[simp] theorem deassertEvent_sound (k : EventKind) : (deassertEvent k s).sound = s.sound := (deassertEvent_reports k s).sound_eq
@[simp] theorem deassertEvent_sync (k : EventKind) : (deassertEvent k s).sync = s.sync := (deassertEvent_reports k s).sync_eq
@[simp] theorem deassertEvent_cues (k : EventKind) : (deassertEvent k s).cues = s.cues := (deassertEvent_reports k s).cues_eq
@[simp] theorem deassertEvent_counting (k : EventKind) : (deassertEvent k s).counting = s.counting := (deassertEvent_reports k s).counting_eq
@[simp] theorem deassertEvent_store (k : EventKind) : (deassertEvent k s).store = s.store := (deassertEvent_reports k s).store_eq
@[simp] theorem deassertEvent_mgmt (k : EventKind) : (deassertEvent k s).mgmt = s.mgmt := (deassertEvent_reports k s).mgmt_eq
@[simp] theorem deassertEvent_draws (k : EventKind) : (deassertEvent k s).draws = s.draws := (deassertEvent_reports k s).draws_eq
@[simp] theorem deassertEvent_pending (k : EventKind) : (deassertEvent k s).pending = s.pending := (deassertEvent_reports k s).pending_eq
@[simp] theorem deassertEvent_link_state (k : EventKind) : (deassertEvent k s).link.state = s.link.state := (deassertEvent_reports k s).link_state_eq
@[simp] theorem deassertEvent_link_limit (k : EventKind) : (deassertEvent k s).link.limit = s.link.limit := (deassertEvent_reports k s).link_limit_eq
@[simp] theorem deassertEvent_link_laneCount (k : EventKind) : (deassertEvent k s).link.laneCount = s.link.laneCount := (deassertEvent_reports k s).link_laneCount_eq
@[simp] theorem deassertEvent_link_lost (k : EventKind) : (deassertEvent k s).link.lost = s.link.lost := (deassertEvent_reports k s).link_lost_eq
@[simp] theorem deassertEvent_link_retrainRun (k : EventKind) : (deassertEvent k s).link.retrainRun = s.link.retrainRun := (deassertEvent_reports k s).link_retrainRun_eq
@[simp] theorem deassertEvent_link_damage (k : EventKind) : (deassertEvent k s).link.damage = s.link.damage := (deassertEvent_reports k s).link_damage_eq
@[simp] theorem deassertEvent_link_sending (k : EventKind) : (deassertEvent k s).link.sending = s.link.sending := (deassertEvent_reports k s).link_sending_eq
@[simp] theorem deassertEvent_link_attempt (k : EventKind) : (deassertEvent k s).link.attempt = s.link.attempt := (deassertEvent_reports k s).link_attempt_eq
@[simp] theorem deassertEvent_link_decided (k : EventKind) : (deassertEvent k s).link.decided = s.link.decided := (deassertEvent_reports k s).link_decided_eq
@[simp] theorem deassertEvent_link_ownRetrain (k : EventKind) : (deassertEvent k s).link.ownRetrain = s.link.ownRetrain := (deassertEvent_reports k s).link_ownRetrain_eq
@[simp] theorem deassertEvent_link_out (k : EventKind) : (deassertEvent k s).link.out = s.link.out := (deassertEvent_reports k s).link_out_eq

@[simp] theorem setLevel_powered (k : EventKind) (b : Bool) : (setLevel k b s).powered = s.powered := (setLevel_reports k b s).powered_eq
@[simp] theorem setLevel_resetPin (k : EventKind) (b : Bool) : (setLevel k b s).resetPin = s.resetPin := (setLevel_reports k b s).resetPin_eq
@[simp] theorem setLevel_signal (k : EventKind) (b : Bool) : (setLevel k b s).signal = s.signal := (setLevel_reports k b s).signal_eq
@[simp] theorem setLevel_wanted (k : EventKind) (b : Bool) : (setLevel k b s).wanted = s.wanted := (setLevel_reports k b s).wanted_eq
@[simp] theorem setLevel_slots (k : EventKind) (b : Bool) : (setLevel k b s).slots = s.slots := (setLevel_reports k b s).slots_eq
@[simp] theorem setLevel_buffer (k : EventKind) (b : Bool) : (setLevel k b s).buffer = s.buffer := (setLevel_reports k b s).buffer_eq
@[simp] theorem setLevel_holds (k : EventKind) (b : Bool) : (setLevel k b s).holds = s.holds := (setLevel_reports k b s).holds_eq
@[simp] theorem setLevel_comps (k : EventKind) (b : Bool) : (setLevel k b s).comps = s.comps := (setLevel_reports k b s).comps_eq
@[simp] theorem setLevel_clock (k : EventKind) (b : Bool) : (setLevel k b s).clock = s.clock := (setLevel_reports k b s).clock_eq
@[simp] theorem setLevel_schedule (k : EventKind) (b : Bool) : (setLevel k b s).schedule = s.schedule := (setLevel_reports k b s).schedule_eq
@[simp] theorem setLevel_timeline (k : EventKind) (b : Bool) : (setLevel k b s).timeline = s.timeline := (setLevel_reports k b s).timeline_eq
@[simp] theorem setLevel_picture (k : EventKind) (b : Bool) : (setLevel k b s).picture = s.picture := (setLevel_reports k b s).picture_eq
@[simp] theorem setLevel_sound (k : EventKind) (b : Bool) : (setLevel k b s).sound = s.sound := (setLevel_reports k b s).sound_eq
@[simp] theorem setLevel_sync (k : EventKind) (b : Bool) : (setLevel k b s).sync = s.sync := (setLevel_reports k b s).sync_eq
@[simp] theorem setLevel_cues (k : EventKind) (b : Bool) : (setLevel k b s).cues = s.cues := (setLevel_reports k b s).cues_eq
@[simp] theorem setLevel_counting (k : EventKind) (b : Bool) : (setLevel k b s).counting = s.counting := (setLevel_reports k b s).counting_eq
@[simp] theorem setLevel_store (k : EventKind) (b : Bool) : (setLevel k b s).store = s.store := (setLevel_reports k b s).store_eq
@[simp] theorem setLevel_mgmt (k : EventKind) (b : Bool) : (setLevel k b s).mgmt = s.mgmt := (setLevel_reports k b s).mgmt_eq
@[simp] theorem setLevel_draws (k : EventKind) (b : Bool) : (setLevel k b s).draws = s.draws := (setLevel_reports k b s).draws_eq
@[simp] theorem setLevel_pending (k : EventKind) (b : Bool) : (setLevel k b s).pending = s.pending := (setLevel_reports k b s).pending_eq
@[simp] theorem setLevel_link_state (k : EventKind) (b : Bool) : (setLevel k b s).link.state = s.link.state := (setLevel_reports k b s).link_state_eq
@[simp] theorem setLevel_link_limit (k : EventKind) (b : Bool) : (setLevel k b s).link.limit = s.link.limit := (setLevel_reports k b s).link_limit_eq
@[simp] theorem setLevel_link_laneCount (k : EventKind) (b : Bool) : (setLevel k b s).link.laneCount = s.link.laneCount := (setLevel_reports k b s).link_laneCount_eq
@[simp] theorem setLevel_link_lost (k : EventKind) (b : Bool) : (setLevel k b s).link.lost = s.link.lost := (setLevel_reports k b s).link_lost_eq
@[simp] theorem setLevel_link_retrainRun (k : EventKind) (b : Bool) : (setLevel k b s).link.retrainRun = s.link.retrainRun := (setLevel_reports k b s).link_retrainRun_eq
@[simp] theorem setLevel_link_damage (k : EventKind) (b : Bool) : (setLevel k b s).link.damage = s.link.damage := (setLevel_reports k b s).link_damage_eq
@[simp] theorem setLevel_link_sending (k : EventKind) (b : Bool) : (setLevel k b s).link.sending = s.link.sending := (setLevel_reports k b s).link_sending_eq
@[simp] theorem setLevel_link_attempt (k : EventKind) (b : Bool) : (setLevel k b s).link.attempt = s.link.attempt := (setLevel_reports k b s).link_attempt_eq
@[simp] theorem setLevel_link_decided (k : EventKind) (b : Bool) : (setLevel k b s).link.decided = s.link.decided := (setLevel_reports k b s).link_decided_eq
@[simp] theorem setLevel_link_ownRetrain (k : EventKind) (b : Bool) : (setLevel k b s).link.ownRetrain = s.link.ownRetrain := (setLevel_reports k b s).link_ownRetrain_eq
@[simp] theorem setLevel_link_out (k : EventKind) (b : Bool) : (setLevel k b s).link.out = s.link.out := (setLevel_reports k b s).link_out_eq

@[simp] theorem occur_powered (k : EventKind) : (occur k s).powered = s.powered := (occur_reports k s).powered_eq
@[simp] theorem occur_resetPin (k : EventKind) : (occur k s).resetPin = s.resetPin := (occur_reports k s).resetPin_eq
@[simp] theorem occur_signal (k : EventKind) : (occur k s).signal = s.signal := (occur_reports k s).signal_eq
@[simp] theorem occur_wanted (k : EventKind) : (occur k s).wanted = s.wanted := (occur_reports k s).wanted_eq
@[simp] theorem occur_slots (k : EventKind) : (occur k s).slots = s.slots := (occur_reports k s).slots_eq
@[simp] theorem occur_buffer (k : EventKind) : (occur k s).buffer = s.buffer := (occur_reports k s).buffer_eq
@[simp] theorem occur_holds (k : EventKind) : (occur k s).holds = s.holds := (occur_reports k s).holds_eq
@[simp] theorem occur_comps (k : EventKind) : (occur k s).comps = s.comps := (occur_reports k s).comps_eq
@[simp] theorem occur_clock (k : EventKind) : (occur k s).clock = s.clock := (occur_reports k s).clock_eq
@[simp] theorem occur_schedule (k : EventKind) : (occur k s).schedule = s.schedule := (occur_reports k s).schedule_eq
@[simp] theorem occur_timeline (k : EventKind) : (occur k s).timeline = s.timeline := (occur_reports k s).timeline_eq
@[simp] theorem occur_picture (k : EventKind) : (occur k s).picture = s.picture := (occur_reports k s).picture_eq
@[simp] theorem occur_sound (k : EventKind) : (occur k s).sound = s.sound := (occur_reports k s).sound_eq
@[simp] theorem occur_sync (k : EventKind) : (occur k s).sync = s.sync := (occur_reports k s).sync_eq
@[simp] theorem occur_cues (k : EventKind) : (occur k s).cues = s.cues := (occur_reports k s).cues_eq
@[simp] theorem occur_counting (k : EventKind) : (occur k s).counting = s.counting := (occur_reports k s).counting_eq
@[simp] theorem occur_store (k : EventKind) : (occur k s).store = s.store := (occur_reports k s).store_eq
@[simp] theorem occur_mgmt (k : EventKind) : (occur k s).mgmt = s.mgmt := (occur_reports k s).mgmt_eq
@[simp] theorem occur_draws (k : EventKind) : (occur k s).draws = s.draws := (occur_reports k s).draws_eq
@[simp] theorem occur_pending (k : EventKind) : (occur k s).pending = s.pending := (occur_reports k s).pending_eq
@[simp] theorem occur_link_state (k : EventKind) : (occur k s).link.state = s.link.state := (occur_reports k s).link_state_eq
@[simp] theorem occur_link_limit (k : EventKind) : (occur k s).link.limit = s.link.limit := (occur_reports k s).link_limit_eq
@[simp] theorem occur_link_laneCount (k : EventKind) : (occur k s).link.laneCount = s.link.laneCount := (occur_reports k s).link_laneCount_eq
@[simp] theorem occur_link_lost (k : EventKind) : (occur k s).link.lost = s.link.lost := (occur_reports k s).link_lost_eq
@[simp] theorem occur_link_retrainRun (k : EventKind) : (occur k s).link.retrainRun = s.link.retrainRun := (occur_reports k s).link_retrainRun_eq
@[simp] theorem occur_link_damage (k : EventKind) : (occur k s).link.damage = s.link.damage := (occur_reports k s).link_damage_eq
@[simp] theorem occur_link_sending (k : EventKind) : (occur k s).link.sending = s.link.sending := (occur_reports k s).link_sending_eq
@[simp] theorem occur_link_attempt (k : EventKind) : (occur k s).link.attempt = s.link.attempt := (occur_reports k s).link_attempt_eq
@[simp] theorem occur_link_decided (k : EventKind) : (occur k s).link.decided = s.link.decided := (occur_reports k s).link_decided_eq
@[simp] theorem occur_link_ownRetrain (k : EventKind) : (occur k s).link.ownRetrain = s.link.ownRetrain := (occur_reports k s).link_ownRetrain_eq
@[simp] theorem occur_link_out (k : EventKind) : (occur k s).link.out = s.link.out := (occur_reports k s).link_out_eq

end Sys2Proof.Machine
end

