-- ==== Sys2Proof/Laws/Events.lean ====
section
/-! SUPPORT. What handing a change to the Event Table does to the records: one lemma for each shared operation of it. -/

namespace Sys2Proof.Machine

theorem num_injective {j k : EventKind} (h : j.num = k.num) : j = k := by
  revert h; cases j <;> cases k <;> decide

/-- A record replaced is read back; every other record stands. -/
theorem event_setEvent (s : State) (j k : EventKind) (r : EventRec) :
    (s.setEvent k r).event j = if j = k then r else s.event j := by
  unfold State.setEvent State.event
  by_cases h : j = k
  · subst h; simp
  · have hn : k.num.val ≠ j.num.val := fun e => h (num_injective (Fin.ext e.symm))
    simp [h, hn]

@[simp] theorem event_queueReport (s : State) (k : EventKind) (r : Report) : (queueReport r s).event k = s.event k := rfl

@[simp] theorem event_reportEvent (s : State) (j k : EventKind) (n : EventNews) (b : Bool) :
    (reportEvent k n b s).event j = s.event j := by
  unfold reportEvent
  split <;> rfl

theorem event_recordAssert (s : State) (j k : EventKind) :
    (recordAssert k s).event j = if j = k then (s.event k).raised true s.stamp else s.event j := by
  simp [recordAssert, event_setEvent]

theorem event_recordDeassert (s : State) (j k : EventKind) :
    (recordDeassert k s).event j = if j = k then { s.event k with asserted := false, last := some s.stamp } else s.event j := by
  simp [recordDeassert, event_setEvent]

theorem event_recordOccurrence (s : State) (j k : EventKind) :
    (recordOccurrence k s).event j = if j = k then (s.event k).raised false s.stamp else s.event j := by
  simp [recordOccurrence, event_setEvent]

@[simp] theorem event_offerMessages (s : State) (k : EventKind) (ms : List Message) :
    (offerMessages ms s).1.event k = s.event k := rfl

/-- Firing messages changes no record but that of ACTION_OVERFLOW. -/
theorem event_fireMessages (s : State) (k : EventKind) (ms : List Message) (h : k ≠ .actionOverflow) :
    (fireMessages ms s).event k = s.event k := by
  unfold fireMessages
  dsimp only
  split
  · rfl
  · rw [event_offerMessages, event_recordAssert, if_neg h, event_offerMessages]

theorem event_fireTrigger (s : State) (k : EventKind) (t : Trigger) (h : k ≠ .actionOverflow) :
    (fireTrigger t s).event k = s.event k := event_fireMessages s k _ h

/-- A record of another kind than the one handed over, and than ACTION_OVERFLOW, stands. -/
theorem event_assertEvent_of_ne (s : State) {j k : EventKind} (h : j ≠ k) (ho : j ≠ .actionOverflow) :
    (assertEvent k s).event j = s.event j := by
  unfold assertEvent
  split
  · rfl
  · rw [event_fireTrigger _ _ _ ho, event_recordAssert, if_neg h]

theorem event_deassertEvent_of_ne (s : State) {j k : EventKind} (h : j ≠ k) (ho : j ≠ .actionOverflow) :
    (deassertEvent k s).event j = s.event j := by
  unfold deassertEvent
  split
  · rw [event_fireTrigger _ _ _ ho, event_recordDeassert, if_neg h]
  · rfl

theorem event_occur_of_ne (s : State) {j k : EventKind} (h : j ≠ k) (ho : j ≠ .actionOverflow) :
    (occur k s).event j = s.event j := by
  unfold occur
  rw [event_fireTrigger _ _ _ ho, event_recordOccurrence, if_neg h]

/-- A firing leaves an asserted ACTION_OVERFLOW asserted. -/
theorem isAsserted_fireMessages (s : State) (k : EventKind) (ms : List Message) (h : s.isAsserted k = true) :
    (fireMessages ms s).isAsserted k = true := by
  by_cases ho : k = .actionOverflow
  · subst ho
    unfold fireMessages
    dsimp only
    split
    · exact h
    · simp [State.isAsserted, event_recordAssert, EventRec.raised]
  · simpa [State.isAsserted, event_fireMessages _ _ _ ho] using h

/-- After its assertion an event is asserted. -/
theorem isAsserted_assertEvent (s : State) (k : EventKind) : (assertEvent k s).isAsserted k = true := by
  unfold assertEvent
  split
  · assumption
  · exact isAsserted_fireMessages _ _ _ (by simp [State.isAsserted, event_recordAssert, EventRec.raised])

/-- After its deassertion an event is clear; ACTION_OVERFLOW may be asserted anew by what its deassertion fires. -/
theorem isAsserted_deassertEvent (s : State) (k : EventKind) (ho : k ≠ .actionOverflow) :
    (deassertEvent k s).isAsserted k = false := by
  unfold deassertEvent
  split
  · simp [State.isAsserted, event_fireTrigger _ _ _ ho, event_recordDeassert]
  · rename_i h; simpa using h

/-- Outside UP the Link Port discards every report. -/
theorem LinkPort.offer_of_not_up (l : LinkPort) (r : Report) (h : l.state ≠ .up) : l.offer r = l := by
  simp [LinkPort.offer, LinkPort.take, h]

theorem queueReport_of_not_up (s : State) (r : Report) (h : s.link.state ≠ .up) : queueReport r s = s := by
  unfold queueReport
  rw [LinkPort.offer_of_not_up _ _ h]

/-- Outside UP handing changes over leaves the Link Port as it is. -/
theorem link_recordAssert_of_not_up (s : State) (k : EventKind) (h : s.link.state ≠ .up) : (recordAssert k s).link = s.link := by
  unfold recordAssert reportEvent
  split
  · rw [queueReport_of_not_up _ _ (by simpa using h)]; rfl
  · rfl

theorem link_recordDeassert_of_not_up (s : State) (k : EventKind) (h : s.link.state ≠ .up) :
    (recordDeassert k s).link = s.link := by
  unfold recordDeassert reportEvent
  split
  · rw [queueReport_of_not_up _ _ (by simpa using h)]; rfl
  · rfl

theorem link_fireMessages_of_not_up (s : State) (ms : List Message) (h : s.link.state ≠ .up) :
    (fireMessages ms s).link = s.link := by
  unfold fireMessages
  dsimp only
  split
  · rfl
  · exact link_recordAssert_of_not_up (offerMessages ms s).1 _ h

theorem link_assertEvent_of_not_up (s : State) (k : EventKind) (h : s.link.state ≠ .up) : (assertEvent k s).link = s.link := by
  unfold assertEvent
  split
  · rfl
  · unfold fireTrigger
    rw [link_fireMessages_of_not_up _ _ (by rw [link_recordAssert_of_not_up _ _ h]; exact h), link_recordAssert_of_not_up _ _ h]

theorem link_deassertEvent_of_not_up (s : State) (k : EventKind) (h : s.link.state ≠ .up) :
    (deassertEvent k s).link = s.link := by
  unfold deassertEvent
  split
  · unfold fireTrigger
    rw [link_fireMessages_of_not_up _ _ (by rw [link_recordDeassert_of_not_up _ _ h]; exact h), link_recordDeassert_of_not_up _ _ h]
  · rfl

/-! ## Commands -/

/-- A running part takes a command for execution. -/
theorem whenRunning_of_running {f : State → State} {s : State} (h : s.running = true) : whenRunning f s = f s := by
  simp [whenRunning, h]

theorem State.serves_running {s : State} (h : s.serves = true) : s.running = true := by
  simp only [State.serves, Bool.and_eq_true] at h
  exact h.1.1

/-- A part that executes commands runs the command's own body on the state in which the heartbeat timer has restarted. -/
theorem manage_of_serves {s : State} (h : s.serves = true) (code tag : Nat) (body : State → State) :
    manage code tag body s = body (acceptCommand s) := by
  have hc : (acceptCommand s).counting = s.counting := (acceptCommand_reports s).counting_eq
  have hm : (acceptCommand s).mgmt = s.mgmt := (acceptCommand_reports s).mgmt_eq
  simp only [State.serves, Bool.and_eq_true, decide_eq_true_eq, Bool.not_eq_true'] at h
  simp [manage, hc, hm, h.1.2, h.2]

end Sys2Proof.Machine
end

