-- ==== Sys2Proof/Laws/Lanes.lean ====
section
/-! SUPPORT. Reading a lane after writing one, for the values kept per lane; and insertion into a list. -/

namespace Sys2Proof.Machine

/-! ## Lanes -/

theorem Lanes.get_set {α : Type} (v : Lanes α) (l m : Lane) (a : α) : (v.set l a).get m = if m = l then a else v.get m := by
  cases l <;> cases m <;> rename_i i j <;> simp [Lanes.set, Lanes.get, Vector.getElem_set, Fin.ext_iff, eq_comm]

@[simp] theorem Lanes.get_set_self {α : Type} (v : Lanes α) (l : Lane) (a : α) : (v.set l a).get l = a := by
  simp [Lanes.get_set]

theorem Lanes.set_get_self {α : Type} (v : Lanes α) (l : Lane) : v.set l (v.get l) = v := by
  cases l <;> simp [Lanes.set, Lanes.get]

theorem AvLanes.get_set {α : Type} (v : AvLanes α) (l m : AvLane) (a : α) : (v.set l a).get m = if m = l then a else v.get m := by
  cases l <;> cases m <;> rename_i i j <;> simp [AvLanes.set, AvLanes.get, Vector.getElem_set, Fin.ext_iff, eq_comm]

@[simp] theorem AvLanes.get_set_self {α : Type} (v : AvLanes α) (l : AvLane) (a : α) : (v.set l a).get l = a := by
  simp [AvLanes.get_set]

@[simp] theorem Lanes.get_all {α : Type} (a : α) (l : Lane) : (Lanes.all a).get l = a := by
  cases l <;> simp [Lanes.all, Lanes.get]

@[simp] theorem AvLanes.get_all {α : Type} (a : α) (l : AvLane) : (AvLanes.all a).get l = a := by
  cases l <;> simp [AvLanes.all, AvLanes.get]

/-- Reading a lane's queue after a lane's queue is replaced. -/
theorem queue_setQueue (s : State) (l m : Lane) (v : List UnitRec) :
    (s.setQueue l v).queue m = if m = l then v else s.queue m := Lanes.get_set _ _ _ _

/-- Reading a lane's slots after a lane's slots are replaced. -/
theorem laneSlots_setSlots (s : State) (l m : Lane) (v : List AsmSlot) :
    (s.setSlots l v).laneSlots m = if m = l then v else s.laneSlots m := Lanes.get_set _ _ _ _

/-- Reading a lane's hold state after a lane's hold state is replaced. -/
theorem hold_setHold (s : State) (l m : AvLane) (h : LaneHold) : (s.setHold l h).hold m = if m = l then h else s.hold m :=
  AvLanes.get_set _ _ _ _

/-- What the lane accessors read is unchanged where the fields they read are. -/
theorem queue_congr {s t : State} (h : t.buffer.queues = s.buffer.queues) (l : Lane) : t.queue l = s.queue l := by
  simp [State.queue, h]

theorem laneSlots_congr {s t : State} (h : t.slots = s.slots) (l : Lane) : t.laneSlots l = s.laneSlots l := by
  simp [State.laneSlots, h]

theorem hold_congr {s t : State} (h : t.holds = s.holds) (l : AvLane) : t.hold l = s.hold l := by simp [State.hold, h]

/-- An element of a mapped vector. -/
@[simp] theorem getElem_mapVec {α β : Type} {n : Nat} (f : α → β) (v : Vector α n) (i : Nat) (h : i < n) :
    (mapVec f v)[i] = f v[i] := by
  simp [mapVec]

/-! ## Insertion -/

theorem insertBy_split {α : Type} (before : α → α → Bool) (a : α) :
    ∀ l : List α, ∃ p q, l = p ++ q ∧ insertBy before a l = p ++ a :: q ∧ (∀ x ∈ p, before a x = false) ∧
      (∀ x ∈ q.head?, before a x = true)
  | [] => ⟨[], [], rfl, rfl, by simp, by simp⟩
  | b :: bs => by
    unfold insertBy
    split
    · rename_i h
      exact ⟨[], b :: bs, rfl, rfl, by simp, by simpa using h⟩
    · rename_i h
      obtain ⟨p, q, h1, h2, h3, h4⟩ := insertBy_split before a bs
      refine ⟨b :: p, q, by rw [h1]; rfl, by rw [h2]; rfl, ?_, h4⟩
      intro x hx
      rcases List.mem_cons.mp hx with rfl | hx
      · simpa using h
      · exact h3 x hx

theorem mem_insertBy {α : Type} (before : α → α → Bool) (a x : α) (l : List α) : x ∈ insertBy before a l ↔ x = a ∨ x ∈ l := by
  obtain ⟨p, q, h1, h2, -, -⟩ := insertBy_split before a l
  rw [h2, h1]
  simp only [List.mem_append, List.mem_cons]
  constructor
  · rintro (h | h | h)
    · exact .inr (.inl h)
    · exact .inl h
    · exact .inr (.inr h)
  · rintro (h | h | h)
    · exact .inr (.inl h)
    · exact .inl h
    · exact .inr (.inr h)

@[simp] theorem length_insertBy {α : Type} (before : α → α → Bool) (a : α) (l : List α) :
    (insertBy before a l).length = l.length + 1 := by
  obtain ⟨p, q, h1, h2, -, -⟩ := insertBy_split before a l
  rw [h2, h1]
  simp; omega

/-! ## Sums over lists -/

theorem foldl_add_start : ∀ (l : List Nat) (n : Nat), l.foldl (· + ·) n = n + l.foldl (· + ·) 0
  | [], n => rfl
  | a :: l, n => by
    simp only [List.foldl_cons]
    rw [foldl_add_start l (n + a), foldl_add_start l (0 + a)]; omega

@[simp] theorem unitBlocks_nil : unitBlocks [] = 0 := rfl
@[simp] theorem slotBlocks_nil : slotBlocks [] = 0 := rfl

@[simp] theorem unitBlocks_cons (q : UnitRec) (l : List UnitRec) : unitBlocks (q :: l) = q.regions.length + unitBlocks l := by
  simp only [unitBlocks, List.map_cons, List.foldl_cons]
  rw [foldl_add_start]; omega

@[simp] theorem slotBlocks_cons (x : AsmSlot) (l : List AsmSlot) : slotBlocks (x :: l) = x.regions.length + slotBlocks l := by
  simp only [slotBlocks, List.map_cons, List.foldl_cons]
  rw [foldl_add_start]; omega

@[simp] theorem unitBlocks_append (l m : List UnitRec) : unitBlocks (l ++ m) = unitBlocks l + unitBlocks m := by
  induction l with
  | nil => simp
  | cons a l ih => simp [ih]; omega

@[simp] theorem slotBlocks_append (l m : List AsmSlot) : slotBlocks (l ++ m) = slotBlocks l + slotBlocks m := by
  induction l with
  | nil => simp
  | cons a l ih => simp [ih]; omega

end Sys2Proof.Machine
end

