-- ==== Sys2Proof/Laws/Buffer.lean ====
section
/-! SUPPORT. What the Reel Buffer and the slots' shared operations do, once for each: blocks returned, slots emptied, stale heads
dropped. -/

namespace Sys2Proof.Machine

/-- Returned blocks reach the free pool; apart from that only the Event Table may hear of it (R35, R47). -/
theorem returnBlocks_reports (n : Nat) (s : State) :
    reportsFrom { s with buffer := { s.buffer with pool := s.buffer.pool + n } } (returnBlocks n s) := by
  unfold returnBlocks
  dsimp only
  split
  · exact deassertEvent_reports _ _
  · exact reportsFrom_refl _

@[simp] theorem returnBlocks_buffer (n : Nat) (s : State) :
    (returnBlocks n s).buffer = { s.buffer with pool := s.buffer.pool + n } := (returnBlocks_reports n s).buffer_eq

@[simp] theorem returnBlocks_slots (n : Nat) (s : State) : (returnBlocks n s).slots = s.slots := (returnBlocks_reports n s).slots_eq

@[simp] theorem returnBlocks_queue (n : Nat) (s : State) (l : Lane) : (returnBlocks n s).queue l = s.queue l :=
  queue_congr (by simp) l

@[simp] theorem returnBlocks_laneSlots (n : Nat) (s : State) (l : Lane) : (returnBlocks n s).laneSlots l = s.laneSlots l :=
  laneSlots_congr (by simp) l

/-- Returning no block changes nothing. -/
@[simp] theorem returnBlocks_zero (s : State) : returnBlocks 0 s = s := by
  unfold returnBlocks
  simp only [Nat.add_zero]
  rw [if_neg (by omega)]

/-- The actions dropped counter is the only one that the Event Table's doings move. -/
theorem reportsFrom.counters_eq {u t : State} (h : reportsFrom u t) :
    t.counters = { u.counters with actionsDropped := t.counters.actionsDropped } := by
  unfold reportsFrom at h
  rw [h]

/-- Emptied slots leave their lane and their blocks return (R19, R20, R28, R32, R33). -/
theorem emptySlots_reports (l : Lane) (goes : AsmSlot → Bool) (note : Nat → Counters → Counters) (s : State) :
    reportsFrom
      { s with
        slots := s.slots.set l ((s.laneSlots l).filter (fun x => !goes x)),
        buffer := { s.buffer with pool := s.buffer.pool + slotBlocks ((s.laneSlots l).filter goes) },
        counters := note ((s.laneSlots l).filter goes).length s.counters }
      (emptySlots l goes note s) := returnBlocks_reports _ _

theorem emptySlots_laneSlots (l m : Lane) (goes : AsmSlot → Bool) (note : Nat → Counters → Counters) (s : State) :
    (emptySlots l goes note s).laneSlots m = if m = l then (s.laneSlots l).filter (fun x => !goes x) else s.laneSlots m := by
  unfold emptySlots
  simp only [returnBlocks_laneSlots]
  rw [← laneSlots_setSlots]
  rfl

@[simp] theorem emptySlots_pool (l : Lane) (goes : AsmSlot → Bool) (note : Nat → Counters → Counters) (s : State) :
    (emptySlots l goes note s).buffer.pool = s.buffer.pool + slotBlocks ((s.laneSlots l).filter goes) := by
  simp [emptySlots]

@[simp] theorem emptySlots_queue (l m : Lane) (goes : AsmSlot → Bool) (note : Nat → Counters → Counters) (s : State) :
    (emptySlots l goes note s).queue m = s.queue m := queue_congr (by simp [emptySlots]) m

/-- The blocks of the slots that stay and of those that go. -/
theorem slotBlocks_filter (goes : AsmSlot → Bool) (l : List AsmSlot) :
    slotBlocks (l.filter goes) + slotBlocks (l.filter (fun x => !goes x)) = slotBlocks l := by
  induction l with
  | nil => simp
  | cons a l ih => cases h : goes a <;> simp [h] <;> omega

/-- Stale heads leave their queue and their blocks return (R38). -/
theorem dropStaleHeads_queue (l m : Lane) (k u : Nat) (s : State) :
    (dropStaleHeads l k u s).queue m =
      if m = l then (s.queue l).dropWhile (fun q => unitBefore q k u) else s.queue m := by
  unfold dropStaleHeads
  simp only [returnBlocks_queue]
  rw [← queue_setQueue]
  rfl

@[simp] theorem dropStaleHeads_slots (l : Lane) (k u : Nat) (s : State) : (dropStaleHeads l k u s).slots = s.slots := by
  simp [dropStaleHeads]

@[simp] theorem dropStaleHeads_pool (l : Lane) (k u : Nat) (s : State) :
    (dropStaleHeads l k u s).buffer.pool = s.buffer.pool + unitBlocks ((s.queue l).takeWhile (fun q => unitBefore q k u)) := by
  simp [dropStaleHeads]

/-- The unit due on a lane, case by case (R38): the head leaves where it is that unit. -/
theorem unitDue_eq (l : Lane) (k u : Nat) (s : State) :
    unitDue l k u s = match (s.queue l).dropWhile (fun q => unitBefore q k u) with
      | q :: qs => if q.reel = k ∧ q.unit = u
          then (some q, returnBlocks q.regions.length ((dropStaleHeads l k u s).setQueue l qs))
          else (none, dropStaleHeads l k u s)
      | [] => (none, dropStaleHeads l k u s) := by
  have h := dropStaleHeads_queue l l k u s
  rw [if_pos rfl] at h
  unfold unitDue
  dsimp only
  cases hq : (s.queue l).dropWhile (fun q => unitBefore q k u) <;> rw [hq] at h <;> simp only [h]

end Sys2Proof.Machine
end

