-- ==== Sys2Proof/Laws/Frames.lean ====
section
/-! SUPPORT. Frames of the shared operations: what the content path may change, and what a showing may change, once for each
operation.  Everything else follows by citing the lemma of the operation and reading one field. -/

namespace Sys2Proof.Machine

/-- `t` is `u` but for what the content path may change: wanted set, slots, buffer, holds, cues, counters, free values drawn, and
what reaches the Event Table. -/
def contentFrom (u t : State) : Prop :=
  t = { u with
    wanted := t.wanted, slots := t.slots, buffer := t.buffer, holds := t.holds, cues := t.cues, counters := t.counters,
    draws := t.draws, events := t.events,
    actions := { u.actions with queue := t.actions.queue, line := t.actions.line, timer := t.actions.timer },
    link := { u.link with queue := t.link.queue } }

theorem contentFrom_refl (s : State) : contentFrom s s := rfl

theorem contentFrom_trans {s t u : State} (h : contentFrom s t) (h' : contentFrom t u) : contentFrom s u := by
  unfold contentFrom at *
  rw [h'] at *
  rw [h]

theorem contentFrom_of_reports {s t : State} (h : reportsFrom s t) : contentFrom s t := by
  unfold contentFrom
  unfold reportsFrom at h
  rw [h]

theorem contentFrom_foldl {α : Type} {f : State → α → State} (h : ∀ s a, contentFrom s (f s a)) :
    ∀ (l : List α) (s : State), contentFrom s (l.foldl f s)
  | [], s => contentFrom_refl s
  | a :: l, s => contentFrom_trans (h s a) (contentFrom_foldl h l (f s a))

/-! ## Content path -/

theorem count_content (s : State) (f : Counters → Counters) : contentFrom s (s.count f) := rfl

theorem setSlots_content (s : State) (l : Lane) (v : List AsmSlot) : contentFrom s (s.setSlots l v) := rfl

theorem setQueue_content (s : State) (l : Lane) (v : List UnitRec) : contentFrom s (s.setQueue l v) := rfl

theorem setHold_content (s : State) (l : AvLane) (h : LaneHold) : contentFrom s (s.setHold l h) := rfl

theorem setCueTable_content (s : State) (i : Fin 4) (t : List CueEntry) : contentFrom s (s.setCueTable i t) := rfl

theorem setCues_content (s : State) (c : CueEngine) : contentFrom s { s with cues := c } := rfl

theorem editWanted_content (s : State) (k : Nat) (f : Wanted → Wanted) : contentFrom s (s.editWanted k f) := rfl

theorem queueReport_content (r : Report) (s : State) : contentFrom s (queueReport r s) :=
  contentFrom_of_reports (queueReport_reports r s)

theorem assertEvent_content (k : EventKind) (s : State) : contentFrom s (assertEvent k s) :=
  contentFrom_of_reports (assertEvent_reports k s)

theorem deassertEvent_content (k : EventKind) (s : State) : contentFrom s (deassertEvent k s) :=
  contentFrom_of_reports (deassertEvent_reports k s)

theorem occur_content (k : EventKind) (s : State) : contentFrom s (occur k s) := contentFrom_of_reports (occur_reports k s)

theorem returnBlocks_content (n : Nat) (s : State) : contentFrom s (returnBlocks n s) :=
  contentFrom_trans (t := { s with buffer := { s.buffer with pool := s.buffer.pool + n } }) rfl
    (contentFrom_of_reports (returnBlocks_reports n s))

theorem emptySlots_content (l : Lane) (goes : AsmSlot → Bool) (note : Nat → Counters → Counters) (s : State) :
    contentFrom s (emptySlots l goes note s) :=
  contentFrom_trans (contentFrom_trans (setSlots_content s l _) (count_content _ _)) (returnBlocks_content _ _)

theorem queueHold_content (l : AvLane) (ms : Nat) (s : State) : contentFrom s (queueHold l ms s) := queueReport_content _ s

theorem holdLane_content (l : AvLane) (s : State) : contentFrom s (holdLane l s) :=
  contentFrom_trans (setHold_content s l _) (queueHold_content _ _ _)

theorem openLane_content (l : AvLane) (s : State) : contentFrom s (openLane l s) :=
  contentFrom_trans (setHold_content s l _) (queueHold_content _ _ _)

theorem settleLane_content (before : State) (l : AvLane) (s : State) :
    contentFrom s (settleLane before l s) := by
  unfold settleLane
  dsimp only
  split
  · exact contentFrom_trans (setHold_content s l _) (holdLane_content l _)
  · split
    · exact contentFrom_trans (setHold_content s l _) (openLane_content l _)
    · exact setHold_content s l _

theorem settleLeads_content (before : State) (s : State) : contentFrom s (settleLeads before s) :=
  contentFrom_foldl (fun s l => settleLane_content before l s) _ _

theorem exhaustLane_content (l : AvLane) (s : State) : contentFrom s (exhaustLane l s) := by
  unfold exhaustLane
  dsimp only
  split
  · exact contentFrom_refl s
  · exact contentFrom_trans (setHold_content s l _) (queueHold_content _ _ _)

theorem exhaustPool_content (s : State) : contentFrom s (exhaustPool s) :=
  contentFrom_trans (assertEvent_content _ s) (contentFrom_foldl (fun s l => exhaustLane_content l s) _ _)

theorem paceOutcome_content (l : AvLane) (b : Bool) (s : State) : contentFrom s (paceOutcome l b s) := setHold_content s l _

/-! ## Cue Engine -/

theorem offerCaption_content (m : CaptionMsg) (s : State) : contentFrom s (offerCaption m s).1 := by
  unfold offerCaption
  dsimp only
  split
  · rfl
  · exact contentFrom_trans (count_content s _) (assertEvent_content _ _)

theorem queueCaption_content (m : CaptionMsg) (s : State) : contentFrom s (queueCaption m s) := offerCaption_content m s

theorem acceptCue_content (i : Fin 4) (e : CueEntry) (s : State) : contentFrom s (acceptCue i e s) := by
  unfold acceptCue
  dsimp only
  split
  · exact count_content s _
  split
  · exact contentFrom_trans (count_content s _) (occur_content _ _)
  split
  · exact contentFrom_trans (count_content s _) (occur_content _ _)
  split
  · exact contentFrom_trans (contentFrom_trans (setCueTable_content s i _) (count_content _ _)) (occur_content _ _)
  · exact contentFrom_trans (setCueTable_content s i _) (count_content _ _)

theorem readCue_content (i : Fin 4) (k : Nat) (row : ReelRow) (t : TextTrack) (c : RawCue) (s : State) :
    contentFrom s (readCue i k row t c s) := by
  unfold readCue
  dsimp only
  split
  · exact count_content s _
  split
  · exact count_content s _
  split
  · exact count_content s _
  split
  · exact contentFrom_trans (count_content s _) (occur_content _ _)
  · exact acceptCue_content i _ s

theorem readCues_content (i : Fin 4) (k : Nat) (row : ReelRow) (t : TextTrack) : ∀ (n : Nat) (bs : List Byte) (s : State),
    contentFrom s (readCues i k row t n bs s)
  | 0, _, s => contentFrom_refl s
  | n + 1, bs, s => by
    unfold readCues
    split
    · exact count_content s _
    · exact contentFrom_trans (readCue_content i k row t _ s) (readCues_content i k row t n _ _)

theorem takeCueBlock_content (i : Fin 4) (u : UnitRec) (s : State) : contentFrom s (takeCueBlock i u s) := by
  unfold takeCueBlock
  split
  · exact count_content s _
  split
  · exact contentFrom_refl s
  split
  · exact readCues_content _ _ _ _ _ _ _
  · exact contentFrom_refl s

theorem noteLeft_content (e : CueEntry) (s : State) : contentFrom s (noteLeft e s) := by
  unfold noteLeft
  dsimp only
  split
  · exact contentFrom_refl s
  split
  · exact contentFrom_trans (count_content s _) (occur_content _ _)
  · exact count_content s _

theorem queueClears_content (i : Fin 4) (l : List CueEntry) (s : State) : contentFrom s (queueClears i l s) :=
  contentFrom_foldl (fun s _ => queueCaption_content _ s) _ _

theorem dropCues_content (i : Fin 4) (p : CueEntry → Bool) (s : State) : contentFrom s (dropCues i p s) :=
  contentFrom_trans (setCueTable_content s i _) (contentFrom_foldl (fun s e => noteLeft_content e s) _ _)

theorem openFrame_content (i : Fin 4) (k f ticks : Nat) (s : State) : contentFrom s (openFrame i k f ticks s).1 :=
  contentFrom_trans (contentFrom_trans (setCueTable_content s i _) (count_content _ _))
    (contentFrom_foldl (fun s _ => occur_content _ s) _ _)

theorem offerShow_content (i : Fin 4) (s : State) (e : CueEntry) : contentFrom s (offerShow i s e) := by
  unfold offerShow
  dsimp only
  split
  · exact contentFrom_trans (offerCaption_content _ s) (count_content _ _)
  · exact offerCaption_content _ s

theorem closedFrame_content (i : Fin 4) (k f : Nat) (first : Bool) (t : TextTrack) (left : List CueEntry) (s : State) :
    contentFrom s (closedFrame i k f first t left s) := by
  have h1 : contentFrom s (if first then queueCaption (.track i t.language) s else s) := by
    split
    · exact queueCaption_content _ s
    · exact contentFrom_refl s
  exact contentFrom_trans (contentFrom_trans (contentFrom_trans h1 (queueClears_content i left _))
    (contentFrom_foldl (offerShow_content i) _ _)) (setCueTable_content _ i _)

theorem frameStart_content (k f : Nat) (s : State) : contentFrom s (frameStart k f s) := by
  unfold frameStart
  split
  · exact contentFrom_refl s
  rename_i row _
  dsimp only
  have hopen : ∀ (l : List (Fin 4)) (ticks : Nat) (acc : State × List OverlayEntry), contentFrom acc.1
      (l.foldl (fun (acc : State × List OverlayEntry) i =>
        ((openFrame i k f ticks acc.1).1, acc.2 ++ (openFrame i k f ticks acc.1).2)) acc).1 := by
    intro l ticks
    induction l with
    | nil => exact fun acc => contentFrom_refl _
    | cons i l ih => exact fun acc => contentFrom_trans (openFrame_content i k f ticks acc.1) (ih _)
  refine contentFrom_trans (contentFrom_trans (contentFrom_trans (contentFrom_trans (setCues_content s _)
    (contentFrom_foldl (fun s i => dropCues_content i _ s) _ _)) (hopen _ row.reel.ticks (_, []))) (setCues_content _ _))
    (contentFrom_foldl (fun s i => ?_) _ _)
  split
  · split
    · exact contentFrom_refl s
    · exact closedFrame_content i k f _ _ _ s
  · exact contentFrom_refl s

theorem cueReelEnd_content (k : Nat) (s : State) : contentFrom s (cueReelEnd k s) := by
  unfold cueReelEnd
  refine contentFrom_trans (setCues_content s _) (contentFrom_foldl (fun s i => ?_) _ _)
  exact contentFrom_trans (dropCues_content i _ s) (queueClears_content i _ _)

theorem cueClosing_content (s : State) : contentFrom s (cueClosing s) := by
  unfold cueClosing
  exact contentFrom_trans (contentFrom_trans (setCues_content s _) (deassertEvent_content _ _))
    (contentFrom_foldl (fun s i => queueCaption_content _ s) _ _)

/-! ## Unpacking -/

theorem joinUnit_content (l : Lane) (x : AsmSlot) (s : State) : contentFrom s (joinUnit l x s) := by
  unfold joinUnit
  dsimp only
  cases l with
  | pic i => exact rfl
  | snd i => exact rfl
  | txt i =>
    refine contentFrom_trans (contentFrom_trans ?_ (takeCueBlock_content i x.record _)) (returnBlocks_content _ _)
    exact rfl

theorem joinRun_content (l : Lane) : ∀ (n : Nat) (s : State), contentFrom s (joinRun l n s)
  | 0, s => contentFrom_refl s
  | n + 1, s => by
    unfold joinRun
    split
    · exact contentFrom_trans (joinUnit_content l _ s) (joinRun_content l n _)
    · exact contentFrom_refl s

theorem joinLane_content (l : Lane) (s : State) : contentFrom s (joinLane l s) := joinRun_content l _ s

theorem joinTurns_content (s : State) : contentFrom s (joinTurns s) :=
  contentFrom_foldl (fun s l => joinLane_content (avToLane l) s) _ _

theorem addReel_content (k : Nat) (s : State) : contentFrom s (addReel k s) := by
  unfold addReel
  split
  · exact contentFrom_refl s
  · exact contentFrom_trans (by exact rfl) (queueReport_content _ _)

theorem removeReel_content (k : Nat) (s : State) : contentFrom s (removeReel k s) := by
  have h : contentFrom s { s with wanted := s.wanted.filter (fun w => decide (w.index ≠ k)) } := rfl
  exact contentFrom_trans (contentFrom_trans h (contentFrom_foldl (fun s l => emptySlots_content l _ _ s) _ _))
    (joinTurns_content _)

theorem noteFinished_content (s : State) : contentFrom s (noteFinished s) := rfl

theorem sortWanted_content : ∀ (n : Nat) (s : State), contentFrom s (sortWanted n s)
  | 0, s => contentFrom_refl s
  | n + 1, s => by
    unfold sortWanted
    dsimp only
    refine contentFrom_trans (noteFinished_content s) ?_
    split
    · exact contentFrom_trans (addReel_content _ _) (sortWanted_content n _)
    split
    · exact contentFrom_trans (removeReel_content _ _) (sortWanted_content n _)
    · exact contentFrom_refl _

theorem updateWanted_content (s : State) : contentFrom s (updateWanted s) := sortWanted_content _ s

theorem closeInstant_content (before : State) (s : State) : contentFrom s (closeInstant before s) :=
  contentFrom_trans (contentFrom_trans (settleLeads_content before s) (updateWanted_content _)) (settleLeads_content _ _)

theorem afterAssembly_content (l : Lane) (s : State) : contentFrom s (afterAssembly l s) :=
  contentFrom_trans (joinLane_content l s) (updateWanted_content _)

theorem placeFragment_content (l : Lane) (x : AsmSlot) (f : Fragment) (s : State) :
    contentFrom s (placeFragment l x f s) := by
  unfold placeFragment
  split
  · exact count_content s _
  split
  · split
    · exact count_content s _
    · exact contentFrom_trans (by exact rfl) (afterAssembly_content l _)
  split
  · exact contentFrom_trans (emptySlots_content _ _ _ s) (exhaustPool_content _)
  · exact contentFrom_trans (by exact rfl) (afterAssembly_content l _)

theorem assemble_content (l : Lane) (k u dur : Nat) (f : Fragment) (s : State) : contentFrom s (assemble l k u dur f s) := by
  unfold assemble
  split
  · exact contentFrom_refl s
  dsimp only
  have opened : ∀ l v x n, contentFrom s (placeFragment l x f { s.setSlots l v with draws := n }) := fun l v x n =>
    contentFrom_trans (by exact rfl) (placeFragment_content l x f _)
  cases l <;> dsimp only <;> (repeat' split) <;>
    first | exact count_content s _ | exact placeFragment_content _ _ f s | exact opened _ _ _ _

theorem sortCell_content (c : Cell) (b : Bool) (s : State) : contentFrom s (sortCell c b s) := by
  unfold sortCell
  split
  · exact count_content s _
  split
  · exact count_content s _
  · exact assemble_content _ _ _ _ _ s

theorem deadline_content (l : Lane) (k u : Nat) (s : State) : contentFrom s (deadline l k u s) := by
  unfold deadline
  split
  · exact contentFrom_refl s
  dsimp only
  split
  · exact contentFrom_refl s
  · exact contentFrom_trans (contentFrom_trans (emptySlots_content _ _ _ s) (editWanted_content _ _ _)) (joinLane_content l _)

theorem dropStaleHeads_content (l : Lane) (k u : Nat) (s : State) : contentFrom s (dropStaleHeads l k u s) :=
  contentFrom_trans (contentFrom_trans (setQueue_content s l _) (count_content _ _)) (returnBlocks_content _ _)

theorem unitDue_content (l : Lane) (k u : Nat) (s : State) : contentFrom s (unitDue l k u s).2 := by
  rw [unitDue_eq]
  split
  · split
    · exact contentFrom_trans (contentFrom_trans (dropStaleHeads_content l k u s) (setQueue_content _ l _)) (returnBlocks_content _ _)
    · exact dropStaleHeads_content l k u s
  · exact dropStaleHeads_content l k u s

theorem pictureDue_content (i : Fin 2) (k u : Nat) (s : State) : contentFrom s (pictureDue i k u s).2 :=
  contentFrom_trans (deadline_content _ k u s) (unitDue_content _ k u _)

theorem compareStrides_content (limit : Nat) (s : State) : contentFrom s (compareStrides limit s) :=
  contentFrom_foldl (fun s l => emptySlots_content l _ _ s) _ _

theorem purgeLanes_content (s : State) : contentFrom s (purgeLanes s) :=
  contentFrom_foldl (fun s l => contentFrom_trans (contentFrom_trans (emptySlots_content l _ _ s) (setQueue_content _ l _))
    (returnBlocks_content _ _)) _ _

/-- What the content path leaves alone. -/
theorem contentFrom.fields {u t : State} (h : contentFrom u t) :
    t.powered = u.powered ∧ t.resetPin = u.resetPin ∧ t.signal = u.signal ∧ t.comps = u.comps ∧ t.clock = u.clock ∧
    t.schedule = u.schedule ∧ t.timeline = u.timeline ∧ t.picture = u.picture ∧ t.sound = u.sound ∧ t.sync = u.sync ∧
    t.counting = u.counting ∧ t.store = u.store ∧ t.mgmt = u.mgmt ∧ t.pending = u.pending ∧ t.actions.table = u.actions.table ∧
    t.link = { u.link with queue := t.link.queue } := by
  unfold contentFrom at h
  rw [h]
  exact ⟨rfl, rfl, rfl, rfl, rfl, rfl, rfl, rfl, rfl, rfl, rfl, rfl, rfl, rfl, rfl, rfl⟩

end Sys2Proof.Machine
end

