-- ==== Sys2Proof/WellFormed.lean ====
section
/-! DEFINITION. Which commands are well formed: every operand lies in the width that section 11 of the manual gives its field. -/

namespace Sys2Proof

/-- A tag has 16 bits (section 10.1). -/
def tagFits (tag : Nat) : Bool := decide (tag < 65536)

/-- A day takes two bytes, and hours, minutes and seconds one byte each (section 11.1). -/
def TimeOfDay.fits (t : TimeOfDay) : Bool :=
  decide (t.day < 65536) && decide (t.hour < 256) && decide (t.minute < 256) && decide (t.second < 256)

/-- A present field lies in its width. -/
def optFits (bound : Nat) (o : Option Nat) : Bool := o.all (fun n => decide (n < bound))

/-- The arguments of START lie in their bytes. -/
def StartArgs.fits (a : StartArgs) : Bool :=
  decide (a.slot < 256) && decide (a.mode < 256) && a.time.fits && optFits 256 a.allowance

/-- The arguments of LOAD_ALLOWANCE lie in their bytes. -/
def AllowanceArgs.fits (a : AllowanceArgs) : Bool :=
  decide (a.index < 256) && decide (a.comp < 4294967296) && decide (a.fromDay < 65536) && decide (a.fromMinute < 65536) &&
    decide (a.untilDay < 65536) && decide (a.untilMinute < 65536) && optFits 65536 a.allowed

/-- The arguments of SCHEDULE_ADD lie in their bytes. -/
def SchedEntry.fits (a : SchedEntry) : Bool :=
  decide (a.ident < 65536) && decide (a.day < 65536) && decide (a.minute < 65536) && decide (a.comp < 4294967296) &&
    optFits 256 a.allowance

/-- An entry of LOAD_ACTIONS lies in its twelve bytes. -/
def ActionArgs.fits (a : ActionArgs) : Bool :=
  decide (a.kind < 256) && decide (a.f0 < 256) && decide (a.f1 < 256) && decide (-2147483648 ≤ a.offset) &&
    decide (a.offset < 2147483648) && decide (a.address < 256) && decide (a.command < 256) && decide (a.data < 256)

/-- A triple of LOAD_ROUTING lies in its three bytes. -/
def RouteArgs.fits (a : RouteArgs) : Bool := decide (a.lane < 256) && decide (a.channel < 256) && decide (a.output < 256)

/-- A list that a count byte introduces, each element in its width. -/
def listFits {α : Type} (f : α → Bool) (l : List α) : Bool := decide (l.length < 256) && l.all f

/-- The longest payload that any resolved cell limit lets through (section 1.1). -/
def payloadFits (bytes : List Byte) : Bool := decide (bytes.length ≤ 4096)

/-- A payload of UNKNOWN_COMMAND_CELL: no readable tag, or a code that is none of the 28 (R158, section 11.3). -/
def unknownPayload (bytes : List Byte) : Bool :=
  match bytes with
  | code :: _ :: _ :: _ => decide (code.toNat = 0) || decide (28 < code.toNat)
  | _ => true

/-- Every operand of the command lies in the width that its layout gives it.  The manual sets no largest number of bytes between the two
marks of a cell; 131,071 is the model's choice (notes/assumptions/59.md). -/
def Instr.wellFormed : Instr → Bool
  | .signalDetect => true
  | .signalLoss => true
  | .trainingAttemptTimer => true
  | .retrainWordReceived => true
  | .abilityWordReceived payloadClass counts => decide (payloadClass < 65536) && counts.all (fun n => [1, 2, 4].contains n) && decide counts.Nodup
  | .cellReceived bytes _ => decide (bytes.length < 131072)
  | .reportSent => true
  | .leadFallToLowMark _ => true
  | .holdRefreshTimer _ => true
  | .secondRoll => true
  | .heartbeatExpiry => true
  | .identify tag => tagFits tag
  | .setClock tag time => tagFits tag && time.fits
  | .setLimits tag settings =>
    tagFits tag && listFits (fun a => decide (a.number < 256) && decide (a.value < 4294967296)) settings
  | .readStatus tag => tagFits tag
  | .readCounters tag => tagFits tag
  | .keepalive tag => tagFits tag
  | .restart tag => tagFits tag
  | .loadComposition tag args => tagFits tag && payloadFits args
  | .clearSlot tag slot => tagFits tag && decide (slot < 256)
  | .loadRouting tag map routes => tagFits tag && decide (map < 256) && listFits RouteArgs.fits routes
  | .loadActions tag first entries => tagFits tag && decide (first < 256) && listFits ActionArgs.fits entries
  | .setEventMask tag settings => tagFits tag && listFits (fun a => decide (a.kind < 256)) settings
  | .readEvent tag kind => tagFits tag && decide (kind < 256)
  | .loadAllowance tag args => tagFits tag && args.fits
  | .revokeAllowance tag index => tagFits tag && decide (index < 256)
  | .clearAllowance tag index => tagFits tag && decide (index < 256)
  | .readLog tag first count => tagFits tag && decide (first < 4294967296) && decide (count < 256)
  | .markExported tag number => tagFits tag && decide (number < 4294967296)
  | .scheduleAdd tag entry => tagFits tag && entry.fits
  | .scheduleCancel tag ident => tagFits tag && decide (ident < 65536)
  | .scheduleClear tag => tagFits tag
  | .readSchedule tag => tagFits tag
  | .start tag args => tagFits tag && args.fits
  | .pause tag => tagFits tag
  | .resume tag => tagFits tag
  | .stop tag => tagFits tag
  | .setSync tag delay => tagFits tag && decide (-2147483648 ≤ delay) && decide (delay < 2147483648)
  | .syncCheck tag _ => tagFits tag
  | .unknownCommandCell payload => payloadFits payload && unknownPayload payload
  | .cueLimitExpiry => true
  | .pictureReleaseInstant => true
  | .unitIntervalEnd => true
  | .gapEnd => true
  | .compositionEnd => true
  | .stallLimitExpiry => true
  | .intermissionExpiry => true
  | .heldPictureResend => true
  | .soundReleaseInstant => true
  | .captureEdge _ _ => true
  | .captureCountTimeout _ => true
  | .frameSignalLoss => true
  | .captionMessageSent => true
  | .captionSpacingEnd => true
  | .storeWriteEnd _ => true
  | .startupReadEnd => true
  | .boothMessageSent => true
  | .boothSpacingEnd => true
  | .powerOn => true
  | .resetLine => true
  | .resetPinRelease => true
  | .fillCellSent => true
  | .powerLoss => true

end Sys2Proof
end

