-- ==== Sys2Proof/Laws/PerInstr.lean ====
section
/-! SUPPORT. The family Admissible, one lemma for each command: a well-formed management command carries a code from 1 to 28 and a tag
of 16 bits, and every other command carries neither (sections 10.1 and 10.2). -/

namespace Sys2Proof.Laws.Admissible

/-- The code and the tag of a well-formed command lie in their ranges. -/
def Statement (i : Instr) : Prop :=
  i.wellFormed = true → ∀ code tag, i.command = some (code, tag) → 1 ≤ code ∧ code ≤ 28 ∧ tag < 65536

/-- A command that is no management command has no code. -/
theorem of_none {i : Instr} (h : i.command = none) : Statement i := by
  intro _ code tag hc
  rw [h] at hc
  cases hc

/-- A management command whose tag fits has a code and a tag in range. -/
theorem of_some {i : Instr} {code tag : Nat} (h : i.command = some (code, tag)) (hc : 1 ≤ code ∧ code ≤ 28)
    (ht : i.wellFormed = true → tagFits tag = true) : Statement i := by
  intro hw code' tag' hc'
  rw [h] at hc'
  cases hc'
  exact ⟨hc.1, hc.2, by simpa [tagFits] using ht hw⟩

theorem signalDetect : Statement .signalDetect := of_none rfl

theorem signalLoss : Statement .signalLoss := of_none rfl

theorem trainingAttemptTimer : Statement .trainingAttemptTimer := of_none rfl

theorem retrainWordReceived : Statement .retrainWordReceived := of_none rfl

theorem abilityWordReceived (payloadClass : Nat) (laneCounts : List Nat) : Statement (.abilityWordReceived payloadClass laneCounts) := of_none rfl

theorem cellReceived (bytes : List Byte) (cut : Bool) : Statement (.cellReceived bytes cut) := of_none rfl

theorem reportSent : Statement .reportSent := of_none rfl

theorem leadFallToLowMark (lane : AvLane) : Statement (.leadFallToLowMark lane) := of_none rfl

theorem holdRefreshTimer (lane : AvLane) : Statement (.holdRefreshTimer lane) := of_none rfl

theorem secondRoll : Statement .secondRoll := of_none rfl

theorem heartbeatExpiry : Statement .heartbeatExpiry := of_none rfl

theorem identify (tag : Nat) : Statement (.identify tag) := of_some rfl (by decide) id

theorem setClock (tag : Nat) (time : TimeOfDay) : Statement (.setClock tag time) := of_some rfl (by decide) (fun h => by
  simp only [Instr.wellFormed, Bool.and_eq_true] at h
  simp_all only)

theorem setLimits (tag : Nat) (settings : List LimitArgs) : Statement (.setLimits tag settings) := of_some rfl (by decide) (fun h => by
  simp only [Instr.wellFormed, Bool.and_eq_true] at h
  simp_all only)

theorem readStatus (tag : Nat) : Statement (.readStatus tag) := of_some rfl (by decide) id

theorem readCounters (tag : Nat) : Statement (.readCounters tag) := of_some rfl (by decide) id

theorem keepalive (tag : Nat) : Statement (.keepalive tag) := of_some rfl (by decide) id

theorem restart (tag : Nat) : Statement (.restart tag) := of_some rfl (by decide) id

theorem loadComposition (tag : Nat) (args : List Byte) : Statement (.loadComposition tag args) := of_some rfl (by decide) (fun h => by
  simp only [Instr.wellFormed, Bool.and_eq_true] at h
  simp_all only)

theorem clearSlot (tag : Nat) (slot : Nat) : Statement (.clearSlot tag slot) := of_some rfl (by decide) (fun h => by
  simp only [Instr.wellFormed, Bool.and_eq_true] at h
  simp_all only)

theorem loadRouting (tag : Nat) (map : Nat) (routes : List RouteArgs) : Statement (.loadRouting tag map routes) := of_some rfl (by decide) (fun h => by
  simp only [Instr.wellFormed, Bool.and_eq_true] at h
  simp_all only)

theorem loadActions (tag : Nat) (first : Nat) (entries : List ActionArgs) : Statement (.loadActions tag first entries) := of_some rfl (by decide) (fun h => by
  simp only [Instr.wellFormed, Bool.and_eq_true] at h
  simp_all only)

theorem setEventMask (tag : Nat) (settings : List MaskArgs) : Statement (.setEventMask tag settings) := of_some rfl (by decide) (fun h => by
  simp only [Instr.wellFormed, Bool.and_eq_true] at h
  simp_all only)

theorem readEvent (tag : Nat) (kind : Nat) : Statement (.readEvent tag kind) := of_some rfl (by decide) (fun h => by
  simp only [Instr.wellFormed, Bool.and_eq_true] at h
  simp_all only)

theorem loadAllowance (tag : Nat) (args : AllowanceArgs) : Statement (.loadAllowance tag args) := of_some rfl (by decide) (fun h => by
  simp only [Instr.wellFormed, Bool.and_eq_true] at h
  simp_all only)

theorem revokeAllowance (tag : Nat) (index : Nat) : Statement (.revokeAllowance tag index) := of_some rfl (by decide) (fun h => by
  simp only [Instr.wellFormed, Bool.and_eq_true] at h
  simp_all only)

theorem clearAllowance (tag : Nat) (index : Nat) : Statement (.clearAllowance tag index) := of_some rfl (by decide) (fun h => by
  simp only [Instr.wellFormed, Bool.and_eq_true] at h
  simp_all only)

theorem readLog (tag : Nat) (first : Nat) (count : Nat) : Statement (.readLog tag first count) := of_some rfl (by decide) (fun h => by
  simp only [Instr.wellFormed, Bool.and_eq_true] at h
  simp_all only)

theorem markExported (tag : Nat) (number : Nat) : Statement (.markExported tag number) := of_some rfl (by decide) (fun h => by
  simp only [Instr.wellFormed, Bool.and_eq_true] at h
  simp_all only)

theorem scheduleAdd (tag : Nat) (entry : SchedEntry) : Statement (.scheduleAdd tag entry) := of_some rfl (by decide) (fun h => by
  simp only [Instr.wellFormed, Bool.and_eq_true] at h
  simp_all only)

theorem scheduleCancel (tag : Nat) (ident : Nat) : Statement (.scheduleCancel tag ident) := of_some rfl (by decide) (fun h => by
  simp only [Instr.wellFormed, Bool.and_eq_true] at h
  simp_all only)

theorem scheduleClear (tag : Nat) : Statement (.scheduleClear tag) := of_some rfl (by decide) id

theorem readSchedule (tag : Nat) : Statement (.readSchedule tag) := of_some rfl (by decide) id

theorem start (tag : Nat) (args : StartArgs) : Statement (.start tag args) := of_some rfl (by decide) (fun h => by
  simp only [Instr.wellFormed, Bool.and_eq_true] at h
  simp_all only)

theorem pause (tag : Nat) : Statement (.pause tag) := of_some rfl (by decide) id

theorem resume (tag : Nat) : Statement (.resume tag) := of_some rfl (by decide) id

theorem stop (tag : Nat) : Statement (.stop tag) := of_some rfl (by decide) id

theorem setSync (tag : Nat) (delay : Int) : Statement (.setSync tag delay) := of_some rfl (by decide) (fun h => by
  simp only [Instr.wellFormed, Bool.and_eq_true] at h
  simp_all only)

theorem syncCheck (tag : Nat) (auto : Bool) : Statement (.syncCheck tag auto) := of_some rfl (by decide) id

theorem unknownCommandCell (payload : List Byte) : Statement (.unknownCommandCell payload) := of_none rfl

theorem cueLimitExpiry : Statement .cueLimitExpiry := of_none rfl

theorem pictureReleaseInstant : Statement .pictureReleaseInstant := of_none rfl

theorem unitIntervalEnd : Statement .unitIntervalEnd := of_none rfl

theorem gapEnd : Statement .gapEnd := of_none rfl

theorem compositionEnd : Statement .compositionEnd := of_none rfl

theorem stallLimitExpiry : Statement .stallLimitExpiry := of_none rfl

theorem intermissionExpiry : Statement .intermissionExpiry := of_none rfl

theorem heldPictureResend : Statement .heldPictureResend := of_none rfl

theorem soundReleaseInstant : Statement .soundReleaseInstant := of_none rfl

theorem captureEdge (channel : Channel) (edge : Edge) : Statement (.captureEdge channel edge) := of_none rfl

theorem captureCountTimeout (channel : Channel) : Statement (.captureCountTimeout channel) := of_none rfl

theorem frameSignalLoss : Statement .frameSignalLoss := of_none rfl

theorem captionMessageSent : Statement .captionMessageSent := of_none rfl

theorem captionSpacingEnd : Statement .captionSpacingEnd := of_none rfl

theorem storeWriteEnd (ok : Bool) : Statement (.storeWriteEnd ok) := of_none rfl

theorem startupReadEnd : Statement .startupReadEnd := of_none rfl

theorem boothMessageSent : Statement .boothMessageSent := of_none rfl

theorem boothSpacingEnd : Statement .boothSpacingEnd := of_none rfl

theorem powerOn : Statement .powerOn := of_none rfl

theorem resetLine : Statement .resetLine := of_none rfl

theorem resetPinRelease : Statement .resetPinRelease := of_none rfl

theorem fillCellSent : Statement .fillCellSent := of_none rfl

theorem powerLoss : Statement .powerLoss := of_none rfl

end Sys2Proof.Laws.Admissible
end

