-- ==== Sys2Proof/Laws/Resets.lean ====
section
/-! SUPPORT. What a reset, a loss of power and the exits of the link leave, once for each shared operation. -/

namespace Sys2Proof.Machine

/-- Taking a present signal changes the Link Port alone. -/
theorem takeSignal_eq (s : State) : takeSignal s = { s with
    link := if s.running = true ∧ s.signal = true ∧ s.link.state = .down then s.link.beginAttempt else s.link } := by
  unfold takeSignal beginTraining
  split <;> rfl

/-- Settling the write in progress draws at most one free value. -/
theorem settleStore_eq (s : State) : (settleStore s).2 = { s with draws := (settleStore s).2.draws } := by
  unfold settleStore
  split <;> rfl

/-- The store after a reset: what it was, or with the head of the store queue written whole (R140). -/
theorem settleStore_store (s : State) :
    (s.counting.queue = [] → (settleStore s).1 = s.store) ∧
    (∀ e rest, s.counting.queue = e :: rest →
      (settleStore s).1 = s.store ∨ (settleStore s).1 = s.store.write e s.counting.header) := by
  unfold settleStore
  constructor
  · intro h; simp [h]
  · intro e rest h
    simp only [h]
    split
    · exact .inr rfl
    · exact .inl rfl

/-- The whole state after a reset. -/
theorem resetTo_eq (cause : ResetCause) (s : State) : resetTo cause s = { State.reset with
    resetPin := s.resetPin, signal := s.signal, clock := clockAfterReset cause s.clock, store := (settleStore s).1,
    events := eventsAfterReset (clockAfterReset cause s.clock),
    link := if s.resetPin = false ∧ s.signal = true then LinkPort.reset.beginAttempt else LinkPort.reset,
    counting := { Counting.reset with startup := if s.resetPin then .heldInReset else .reading },
    mgmt := s.mgmt.afterReset cause, draws := (settleStore s).2.draws, pending := s.pending } := by
  unfold resetTo
  dsimp only
  rw [takeSignal_eq]
  rw [settleStore_eq]
  simp [State.running, State.reset, LinkPort.reset]

/-- The whole state after a loss of power. -/
theorem losePower_eq (s : State) : losePower s = { State.reset with
    powered := false, resetPin := s.resetPin, signal := s.signal, store := (settleStore s).1,
    counting := { Counting.reset with startup := .heldInReset }, draws := (settleStore s).2.draws, pending := s.pending } := by
  unfold losePower
  dsimp only
  rw [settleStore_eq]

/-- Leaving UP for DOWN: the Link Port, the queue left empty, and LINK_DOWN (R4). -/
theorem leaveUp_down (own : Bool) (s : State) :
    reportsFrom { s with link := s.link.leave .down own } (leaveUp .down own s) ∧
    (leaveUp .down own s).link = s.link.leave .down own ∧ (leaveUp .down own s).isAsserted .linkDown = true := by
  refine ⟨assertEvent_reports _ _, link_assertEvent_of_not_up _ _ (by simp [LinkPort.leave]), isAsserted_assertEvent _ _⟩

/-- Leaving UP for TRAINING: the first attempt begins at once (R2, R4). -/
theorem leaveUp_training (own : Bool) (s : State) :
    reportsFrom { s with link := (s.link.leave .training own).beginAttempt } (leaveUp .training own s) ∧
    (leaveUp .training own s).link = (s.link.leave .training own).beginAttempt ∧
    (leaveUp .training own s).isAsserted .linkDown = true := by
  have h := assertEvent_reports .linkDown { s with link := s.link.leave .training own }
  have hl : (assertEvent .linkDown { s with link := s.link.leave .training own }).link = s.link.leave .training own :=
    link_assertEvent_of_not_up _ _ (by simp [LinkPort.leave])
  have e : leaveUp .training own s = { assertEvent .linkDown { s with link := s.link.leave .training own } with
      link := (s.link.leave .training own).beginAttempt } := by
    simp [leaveUp, beginTraining, hl]
  refine ⟨?_, by rw [e], by rw [e]; exact isAsserted_assertEvent _ _⟩
  rw [e]
  unfold reportsFrom at *
  rw [h]

end Sys2Proof.Machine
end

