-- ==== Sys2Proof/Laws/ShowFrames.lean ====
section
/-! SUPPORT. Frames of the operations of a showing: the Timeline, the Sound Router, the Sync Measurement Unit and the Showing Counter
leave pins, compositions, clock, schedule, limits, store and the waiting commands alone. -/

namespace Sys2Proof.Machine

/-- `t` is `u` but for what a showing may change. -/
def showFrom (u t : State) : Prop :=
  t = { u with
    wanted := t.wanted, slots := t.slots, buffer := t.buffer, holds := t.holds, cues := t.cues, counters := t.counters,
    draws := t.draws, events := t.events, actions := t.actions, link := { u.link with queue := t.link.queue },
    timeline := t.timeline, picture := t.picture, sound := t.sound, sync := t.sync, counting := t.counting }

theorem showFrom_refl (s : State) : showFrom s s := rfl

theorem showFrom_trans {s t u : State} (h : showFrom s t) (h' : showFrom t u) : showFrom s u := by
  unfold showFrom at *
  rw [h'] at *
  rw [h]

theorem showFrom_of_content {s t : State} (h : contentFrom s t) : showFrom s t := by
  unfold showFrom
  unfold contentFrom at h
  rw [h]

theorem showFrom_of_reports {s t : State} (h : reportsFrom s t) : showFrom s t := showFrom_of_content (contentFrom_of_reports h)

theorem showFrom_foldl {α : Type} {f : State → α → State} (h : ∀ s a, showFrom s (f s a)) :
    ∀ (l : List α) (s : State), showFrom s (l.foldl f s)
  | [], s => showFrom_refl s
  | a :: l, s => showFrom_trans (h s a) (showFrom_foldl h l (f s a))

theorem showFrom_ite {s t u : State} {p : Prop} [Decidable p] (h : showFrom s t) (h' : showFrom s u) :
    showFrom s (if p then t else u) := by
  split <;> assumption

/-- What a showing leaves alone. -/
theorem showFrom.fields {u t : State} (h : showFrom u t) :
    t.powered = u.powered ∧ t.resetPin = u.resetPin ∧ t.signal = u.signal ∧ t.comps = u.comps ∧ t.clock = u.clock ∧
    t.schedule = u.schedule ∧ t.store = u.store ∧ t.mgmt = u.mgmt ∧ t.pending = u.pending ∧
    t.link = { u.link with queue := t.link.queue } := by
  unfold showFrom at h
  rw [h]
  exact ⟨rfl, rfl, rfl, rfl, rfl, rfl, rfl, rfl, rfl, rfl⟩

section

variable (s : State)

theorem mapTimeline_show (f : Timeline → Timeline) : showFrom s (s.mapTimeline f) := rfl
theorem mapPicture_show (f : PictureOut → PictureOut) : showFrom s (s.mapPicture f) := rfl
theorem mapSound_show (f : Sound → Sound) : showFrom s (s.mapSound f) := rfl
theorem mapSync_show (f : Sync → Sync) : showFrom s (s.mapSync f) := rfl
theorem setActions_show (a : ActionUnit) : showFrom s { s with actions := a } := rfl
theorem setCounting_show (c : Counting) : showFrom s { s with counting := c } := rfl
theorem setPlace_show (i : Fin 32) (p : Place) : showFrom s (s.setPlace i p) := rfl
theorem setRecord_show (r : LogRecord) : showFrom s (s.setRecord r) := rfl
theorem enqueueStore_show (e : StoreEntry) : showFrom s (enqueueStore e s) := rfl
theorem count_show (f : Counters → Counters) : showFrom s (s.count f) := rfl
theorem drawBool_show : showFrom s s.drawBool.2 := rfl

theorem assertEvent_show (k : EventKind) : showFrom s (assertEvent k s) := showFrom_of_reports (assertEvent_reports k s)
theorem deassertEvent_show (k : EventKind) : showFrom s (deassertEvent k s) := showFrom_of_reports (deassertEvent_reports k s)
theorem setLevel_show (k : EventKind) (b : Bool) : showFrom s (setLevel k b s) := showFrom_of_reports (setLevel_reports k b s)
theorem occur_show (k : EventKind) : showFrom s (occur k s) := showFrom_of_reports (occur_reports k s)
theorem fireMessages_show (ms : List Message) : showFrom s (fireMessages ms s) := showFrom_of_reports (fireMessages_reports ms s)
theorem fireTrigger_show (t : Trigger) : showFrom s (fireTrigger t s) := showFrom_of_reports (fireTrigger_reports t s)
theorem settleLeads_show (before : State) : showFrom s (settleLeads before s) :=
  showFrom_of_content (settleLeads_content before s)

theorem closeInstant_show (before : State) : showFrom s (closeInstant before s) :=
  showFrom_of_content (closeInstant_content before s)
theorem updateWanted_show : showFrom s (updateWanted s) := showFrom_of_content (updateWanted_content s)

/-! ## The Showing Counter -/

theorem evaluateWarnings_show : showFrom s (evaluateWarnings s) := showFrom_trans (setLevel_show s _ _) (setLevel_show _ _ _)

theorem evaluateAll_show : showFrom s (evaluateAll s) := showFrom_trans (setCounting_show s _) (evaluateWarnings_show _)

theorem evaluateChanged_show (i : Fin 32) : showFrom s (evaluateChanged i s) :=
  showFrom_trans (setPlace_show s i _) (evaluateWarnings_show _)

theorem evaluateLog_show : showFrom s (evaluateLog s) := showFrom_trans (setLevel_show s _ _) (setLevel_show _ _ _)

theorem createRecord_show (r : LogRecord) : showFrom s (createRecord r s) :=
  showFrom_trans (showFrom_trans (setCounting_show s _) (evaluateLog_show _)) (enqueueStore_show _ _)

theorem createOpen_show (i : Fin 4) (c : Composition) (n : Option Nat) : showFrom s (createOpen i c n s) := createRecord_show s _

theorem recordMiss_show (e : SchedEntry) (w : MissReason) : showFrom s (recordMiss e w s) :=
  showFrom_ite (createRecord_show s _) (showFrom_refl s)

theorem takeCharge_show (i : Fin 32) : showFrom s (takeCharge i s) := by
  have h : ∀ (o : Option LogRecord) (t : State), showFrom t (match o with | some r => t.setRecord r | none => t) := by
    intro o t
    cases o
    · exact showFrom_refl t
    · exact setRecord_show t _
  have h1 : showFrom s { s.setPlace i (s.place i).charge with
      counting := { (s.setPlace i (s.place i).charge).counting with charged := true } } := rfl
  exact showFrom_trans (showFrom_trans (showFrom_trans (showFrom_trans h1 (h _ _)) (enqueueStore_show _ _))
    (evaluateChanged_show _ i)) (occur_show _ _)

theorem countFeature_show : showFrom s (countFeature s) := by
  have h1 := mapTimeline_show s (fun t => { t with presented := t.presented + 1 })
  unfold countFeature
  dsimp only
  split
  · exact showFrom_ite (showFrom_trans h1 (takeCharge_show _ _)) h1
  · exact h1

theorem reconcileNext_show : showFrom s (reconcileNext s) := by
  unfold reconcileNext
  split
  · exact setCounting_show s _
  dsimp only
  split
  · exact showFrom_trans (showFrom_trans (showFrom_trans (setRecord_show s _) (setPlace_show _ _ _)) (enqueueStore_show _ _))
      (evaluateChanged_show _ _)
  · exact showFrom_trans (setRecord_show s _) (enqueueStore_show _ _)

theorem finishRead_show : showFrom s (finishRead s) :=
  showFrom_trans (showFrom_trans (showFrom_trans (setCounting_show s _) (evaluateAll_show _)) (evaluateLog_show _))
    (reconcileNext_show _)

/-! ## The Sync Measurement Unit -/

theorem retuneFrame_show : showFrom s (retuneFrame s) := showFrom_ite (showFrom_refl s) (mapSync_show s _)

theorem followCursor_show (r : Reel) : showFrom s (followCursor r s) := showFrom_ite (showFrom_refl s) (mapSync_show s _)

theorem stageDelay_show (n : Int) : showFrom s (stageDelay n s) := by
  have h : showFrom s { s with sound := { s.sound with staged := clampDelay n, pending := true } } := rfl
  exact showFrom_ite h (showFrom_trans h (occur_show _ _))

theorem finishCheck_show : showFrom s (finishCheck s) := by
  unfold finishCheck
  dsimp only
  refine showFrom_trans (showFrom_trans (mapSync_show s _) (showFrom_trans (showFrom_ite (occur_show _ .syncLimit) (showFrom_refl _))
    (showFrom_ite (stageDelay_show _ _) (showFrom_refl _)))) (occur_show _ .syncResult)

theorem markRelease_show (k u : Nat) (b : Bool) : showFrom s (markRelease k u b s) :=
  showFrom_ite (mapSync_show s _) (showFrom_refl s)

theorem staleRecords_show : showFrom s (staleRecords s) := showFrom_ite (mapSync_show s _) (showFrom_refl s)

theorem checkReelEnd_show (k : Nat) : showFrom s (checkReelEnd k s) :=
  showFrom_ite (showFrom_ite (mapSync_show s _) (finishCheck_show s)) (showFrom_refl s)

theorem checkClosing_show : showFrom s (checkClosing s) :=
  showFrom_ite (showFrom_trans (mapSync_show s _) (finishCheck_show _)) (showFrom_refl s)

theorem afterPairCount_show : showFrom s (afterPairCount s) :=
  showFrom_ite (showFrom_trans (mapSync_show s _) (finishCheck_show _)) (mapSync_show s _)

theorem endPairCount_show (c : Channel) (n : CapCount) (v : CapChannel) : showFrom s (endPairCount c n v s) :=
  showFrom_trans (mapSync_show s _) (afterPairCount_show _)

theorem badMeasurement_show : showFrom s (badMeasurement s) :=
  showFrom_ite (showFrom_trans (mapSync_show s _) (assertEvent_show _ _)) (mapSync_show s _)

theorem goodMeasurement_show : showFrom s (goodMeasurement s) :=
  showFrom_ite (showFrom_trans (mapSync_show s _) (deassertEvent_show _ _)) (mapSync_show s _)

theorem loseFrame_show : showFrom s (loseFrame s) :=
  showFrom_trans (showFrom_trans (mapSync_show s _) (showFrom_ite (badMeasurement_show _) (showFrom_refl _))) (assertEvent_show _ _)

/-! ## The Sound Router -/

theorem noteSound_show (b : Bool) : showFrom s (noteSound b s) :=
  showFrom_ite (showFrom_trans (showFrom_trans (mapSound_show s _) (count_show _ _)) (assertEvent_show _ _))
    (showFrom_ite (showFrom_trans (mapSound_show s _) (deassertEvent_show _ _)) (mapSound_show s _))

theorem takeGroup_show (k u : Nat) (r : Reel) (g : SoundGroup) : showFrom s (takeGroup k u r s g) := by
  unfold takeGroup
  split
  · exact showFrom_refl s
  · exact showFrom_trans (showFrom_trans (showFrom_of_content (contentFrom_trans (deadline_content _ k u s)
      (unitDue_content _ k u _))) (showFrom_trans (mapSound_show _ _) (showFrom_of_content (paceOutcome_content _ _ _))))
      (noteSound_show _ _)

theorem enterSoundReel_show (k : Nat) (r : Reel) : showFrom s (enterSoundReel k r s) :=
  showFrom_ite (showFrom_refl s) (mapSound_show s _)

theorem soundInstant_show (k u : Nat) : showFrom s (soundInstant k u s) := by
  unfold soundInstant
  split
  · exact showFrom_refl s
  · exact showFrom_trans (showFrom_trans (showFrom_trans (showFrom_trans (enterSoundReel_show s k _) (mapSound_show _ _))
      (showFrom_foldl (fun s g => takeGroup_show s k u _ g) _ _)) (mapSound_show _ _)) (closeInstant_show _ _)

theorem passLane_show (passed : List UnitRef) (i : Fin 4) : showFrom s (passLane passed s i) := by
  unfold passLane
  split
  · exact showFrom_refl s
  · exact showFrom_of_content (contentFrom_trans (deadline_content _ _ _ s) (dropStaleHeads_content _ _ _ _))

theorem passSound_show (x : Int) : showFrom s (passSound x s) :=
  showFrom_trans (showFrom_trans (showFrom_foldl (fun s i => passLane_show s _ i) _ s) (mapSound_show _ _)) (updateWanted_show _)

theorem skipSound_show (x : Int) : showFrom s (skipSound x s) := by
  unfold skipSound
  dsimp only
  refine showFrom_trans (passSound_show s x) ?_
  split
  · exact showFrom_ite (soundInstant_show _ _ _) (mapSound_show _ _)
  · exact mapSound_show _ _

theorem makeLive_show : showFrom s (makeLive s) :=
  showFrom_ite (showFrom_trans (mapSound_show s _) (staleRecords_show _)) (mapSound_show s _)

theorem shiftSound_show (k u : Nat) (row : ReelRow) : showFrom s (shiftSound k u row s) :=
  showFrom_trans (showFrom_trans (makeLive_show s) (mapSound_show _ _))
    (showFrom_ite (mapSound_show _ _) (showFrom_ite (skipSound_show _ _) (soundInstant_show _ _ _)))

theorem startSound_show : showFrom s (startSound s) := by
  unfold startSound
  dsimp only
  exact showFrom_trans (showFrom_trans (showFrom_ite (makeLive_show s) (showFrom_refl s)) (mapSound_show _ _))
    (showFrom_ite (skipSound_show _ _) (showFrom_refl _))

/-! ## The Timeline -/

theorem enterState_show (st : ShowState) : showFrom s (enterState st s) :=
  showFrom_trans (showFrom_trans (mapTimeline_show s _) (retuneFrame_show _)) (fireTrigger_show _ _)

theorem reachTick_show (p : Nat) : showFrom s (reachTick p s) :=
  showFrom_ite (showFrom_refl s) (showFrom_trans (mapTimeline_show s _) (settleLeads_show _ _))

theorem firePositions_show (f : Nat → Bool) : showFrom s (firePositions f s) :=
  showFrom_trans (setActions_show s _) (fireMessages_show _ _)

theorem missRelease_show : showFrom s (missRelease s) :=
  showFrom_trans (showFrom_trans (mapTimeline_show s _) (count_show _ _)) (assertEvent_show _ _)

theorem goodRelease_show : showFrom s (goodRelease s) :=
  showFrom_ite (showFrom_trans (mapTimeline_show s _) (deassertEvent_show _ _)) (mapTimeline_show s _)

theorem decidePicture_show (k u : Nat) (b : Bool) : showFrom s (decidePicture k u b s).2 := by
  unfold decidePicture
  dsimp only
  have h1 := showFrom_of_content (pictureDue_content 0 k u s)
  have h2 : showFrom s (if b = true then pictureDue 1 k u (pictureDue 0 k u s).2 else (none, (pictureDue 0 k u s).2)).2 := by
    split
    · exact showFrom_trans h1 (showFrom_of_content (pictureDue_content 1 k u _))
    · exact h1
  generalize (if b = true then pictureDue 1 k u (pictureDue 0 k u s).2 else (none, (pictureDue 0 k u s).2)) = r at h2 ⊢
  have pace : ∀ l b t, showFrom t (paceOutcome l b t) := fun l b t => showFrom_of_content (paceOutcome_content l b t)
  have h4 : ∀ t, showFrom s t → showFrom s (if b = true
      then paceOutcome (.pic 1) (!r.2.passes r.1) (paceOutcome (.pic 0) (!r.2.passes (pictureDue 0 k u s).1)
        (t.mapPicture (fun p => { p with shown := p.last })))
      else paceOutcome (.pic 0) (!r.2.passes (pictureDue 0 k u s).1) (t.mapPicture (fun p => { p with shown := p.last }))) := by
    intro t h
    have h' := showFrom_trans (showFrom_trans h (mapPicture_show t (fun p => { p with shown := p.last })))
      (pace (.pic 0) (!r.2.passes (pictureDue 0 k u s).1) _)
    exact showFrom_ite (showFrom_trans h' (pace _ _ _)) h'
  apply h4
  split
  · exact showFrom_trans (showFrom_trans h2 (mapPicture_show _ _)) (goodRelease_show _)
  · exact showFrom_trans h2 (missRelease_show _)

theorem releaseUnit_show (k u : Nat) (row : ReelRow) : showFrom s (releaseUnit k u row s) :=
  showFrom_trans (showFrom_trans (showFrom_trans (showFrom_trans (showFrom_trans (showFrom_trans (showFrom_trans (showFrom_trans
    (decidePicture_show s k u _) (showFrom_of_content (frameStart_content _ _ _))) (mapPicture_show _ _)) (markRelease_show _ _ _ _))
    (firePositions_show _ _)) (showFrom_ite (countFeature_show _) (showFrom_refl _))) (mapTimeline_show _ _))
    (followCursor_show _ _)) (closeInstant_show _ _)

theorem takeInstant_show : showFrom s (takeInstant s) := by
  unfold takeInstant
  split
  · exact showFrom_refl s
  split
  · exact showFrom_refl s
  · exact releaseUnit_show s _ _ _

theorem enterGap_show (next : ReelRow) : showFrom s (enterGap next s) :=
  showFrom_trans (showFrom_trans (showFrom_trans (showFrom_trans (mapTimeline_show s _)
    (showFrom_of_content (setCues_content _ _))) (mapPicture_show _ _)) (retuneFrame_show _)) (firePositions_show _ _)

theorem crossBoundary_show (row next : ReelRow) : showFrom s (crossBoundary row next s) := by
  unfold crossBoundary
  dsimp only
  have h : showFrom s (if formatsDiffer row.reel next.reel = true then s.mapPicture (fun p => { p with last := none }) else s) :=
    showFrom_ite (mapPicture_show s _) (showFrom_refl s)
  exact showFrom_ite (showFrom_trans h (enterGap_show _ _)) (showFrom_trans
    (showFrom_ite h (showFrom_trans h (mapSync_show _ _))) (takeInstant_show _))

theorem continueAt_show : showFrom s (continueAt s) := by
  unfold continueAt
  split
  · exact showFrom_refl s
  split
  · exact showFrom_ite (crossBoundary_show s _ _) (showFrom_ite (takeInstant_show s) (showFrom_refl s))
  · exact showFrom_refl s

theorem resumePlaying_show : showFrom s (resumePlaying s) :=
  showFrom_trans (showFrom_trans (showFrom_trans (showFrom_trans (mapTimeline_show s _) (mapPicture_show _ _)) (deassertEvent_show _ _))
    (enterState_show _ _)) (continueAt_show _)

theorem enterStalled_show : showFrom s (enterStalled s) := by
  unfold enterStalled
  dsimp only
  have h : showFrom s (enterState .stalled (assertEvent .stall ((s.mapTimeline (fun t => { t with
      stallTimer := some 0, stalls := satAdd 65535 1 t.stalls, intermission := none, pauseReason := none })).mapPicture
        (fun p => { p with resend := some (p.resend.getD 0) })))) :=
    showFrom_trans (showFrom_trans (showFrom_trans (mapTimeline_show s _) (mapPicture_show _ _)) (assertEvent_show _ _))
      (enterState_show _ _)
  exact showFrom_ite (showFrom_trans h (resumePlaying_show _)) h

theorem enterPaused_show (why : PauseReason) (timer : Option Nat) : showFrom s (enterPaused why timer s) :=
  showFrom_trans (showFrom_trans (mapTimeline_show s _) (mapPicture_show _ _)) (enterState_show _ _)

theorem resumeShowing_show : showFrom s (resumeShowing s) := showFrom_ite (resumePlaying_show s) (enterStalled_show s)

theorem enterPlaying_show : showFrom s (enterPlaying s) := by
  have h : showFrom s (startSound (enterState .playing s)) := showFrom_trans (enterState_show s _) (startSound_show _)
  unfold enterPlaying
  generalize startSound (enterState .playing s) = t at h
  exact showFrom_trans (showFrom_trans h (settleLeads_show t t)) (takeInstant_show _)

theorem enterReady_show : showFrom s (enterReady s) :=
  showFrom_ite (showFrom_trans (enterState_show s _) (enterPlaying_show _)) (enterState_show s _)

theorem settleFrom_show (before : State) : showFrom s (settleFrom before s) := by
  have h := settleLeads_show s before
  unfold settleFrom
  dsimp only
  split
  · exact showFrom_ite (showFrom_trans h (enterReady_show _)) h
  · exact showFrom_ite h (showFrom_trans h (enterState_show _ _))
  · exact showFrom_ite (showFrom_trans h (resumePlaying_show _)) h
  · exact h

/-- Offering reports one after another to the Link Port is queueing them one after another. -/
theorem offer_foldl (rs : List Report) :
    ({ s with link := rs.foldl LinkPort.offer s.link } : State) = rs.foldl (fun s r => queueReport r s) s := by
  induction rs generalizing s with
  | nil => rfl
  | cons r rs ih => exact ih (queueReport r s)

theorem queueClosingReports_show : showFrom s (queueClosingReports s) := by
  unfold queueClosingReports
  dsimp only
  rw [offer_foldl]
  exact showFrom_trans (drawBool_show s) (showFrom_foldl (fun s r => showFrom_of_content (queueReport_content r s)) _ _)

theorem enterClosing_show (o : ShowOutcome) : showFrom s (enterClosing o s) := by
  have h1 : showFrom s (enterState .closing (unresolveActions (s.mapTimeline (Timeline.closing o)))) :=
    showFrom_trans (showFrom_trans (mapTimeline_show s _) (setActions_show _ _)) (enterState_show _ _)
  unfold enterClosing
  dsimp only
  generalize enterState .closing (unresolveActions (s.mapTimeline (Timeline.closing o))) = t1 at h1 ⊢
  have h2 : showFrom s (queueClosingReports (deassertEvent .stall { closeSound t1 with picture := PictureOut.reset })) :=
    showFrom_trans (showFrom_trans (showFrom_trans h1 (t := t1) (by exact rfl)) (deassertEvent_show _ _))
      (queueClosingReports_show _)
  generalize queueClosingReports (deassertEvent .stall { closeSound t1 with picture := PictureOut.reset }) = t2 at h2 ⊢
  have h3 : showFrom s (purgeLanes { t2 with wanted := [] }) :=
    showFrom_trans (showFrom_trans h2 (t := t2) (by exact rfl)) (showFrom_of_content (purgeLanes_content _))
  generalize purgeLanes { t2 with wanted := [] } = t3 at h3 ⊢
  have h4 : showFrom s { t3 with holds := AvLanes.all LaneHold.reset } := showFrom_trans h3 rfl
  exact showFrom_trans (showFrom_trans (showFrom_trans h4 (showFrom_of_content (cueClosing_content _))) (checkClosing_show _))
    (enqueueStore_show _ _)

theorem reelEnds_show (k : Nat) : showFrom s (reelEnds k s) :=
  showFrom_trans (showFrom_of_content (cueReelEnd_content k s)) (checkReelEnd_show _ k)

theorem afterInterval_show (k u : Nat) (row : ReelRow) : showFrom s (afterInterval k u row s) := by
  unfold afterInterval
  dsimp only
  have h : showFrom s ((if decide (row.reel.dur ≤ u + 1) = true then reelEnds k s else s).mapTimeline
      (fun t => { t with interval := none })) :=
    showFrom_trans (showFrom_ite (reelEnds_show s k) (showFrom_refl s)) (mapTimeline_show _ _)
  generalize (if decide (row.reel.dur ≤ u + 1) = true then reelEnds k s else s).mapTimeline
    (fun t => { t with interval := none }) = t at h ⊢
  refine showFrom_trans h ?_
  split
  · exact enterClosing_show t _
  refine showFrom_ite (showFrom_ite (enterPaused_show t _ _) (enterPaused_show t _ _)) (showFrom_ite (enterPaused_show t _ _)
    (showFrom_ite (enterStalled_show t) (showFrom_ite ?_ (showFrom_refl t))))
  split
  · exact crossBoundary_show t _ _
  · exact showFrom_refl t

theorem endInterval_show : showFrom s (endInterval s) := by
  unfold endInterval
  split
  · exact showFrom_refl s
  split
  · exact showFrom_refl s
  · exact showFrom_trans (reachTick_show s _) (afterInterval_show _ _ _ _)

theorem endGap_show : showFrom s (endGap s) := by
  unfold endGap
  split
  · exact showFrom_refl s
  split
  · exact showFrom_refl s
  dsimp only
  refine showFrom_trans (showFrom_trans (reachTick_show s _) (mapTimeline_show _ _)) (showFrom_ite (enterPaused_show _ _ _) ?_)
  exact showFrom_trans (retuneFrame_show _) (takeInstant_show _)

end

end Sys2Proof.Machine
end

