-- ==== Sys2Proof/Machine/Outputs.lean ====
section
/-! DEFINITION. What the output pins carry at one tick, computed from the state: the eye on the projector output, the overlay list ahead of
it, and the levels of the two serial lines (R69, R76 to R79, R122, R125, R156, sections 11.5 and 11.7).  The sound outputs are `State.soundOutput`. -/

namespace Sys2Proof.Machine

/-- Show ticks since the picture on the projector output was sent: since its release instant in PLAYING, since it was last sent again in
PAUSED and STALLED. -/
def State.sincePicture (s : State) : Nat :=
  match s.timeline.state with
  | .playing => ((s.timeline.interval.bind (fun u => (s.row u.reel).map (fun r => s.timeline.p - r.instant u.unit)))).getD 0
  | _ => ((s.picture.resend.bind (fun n => s.currentRow.map (fun r => r.reel.ticks - n)))).getD 0

/-- The ticks of the reel whose picture is on. -/
def State.pictureTicks (s : State) : Nat :=
  match s.timeline.state with
  | .playing => ((s.timeline.interval.bind (fun u => (s.row u.reel).map (fun r => r.reel.ticks)))).getD 0
  | _ => ((s.currentRow.map (fun r => r.reel.ticks))).getD 0

/-- The picture on the projector output, none for black: of a stereo pair the left eye goes out at the instant and the right eye T/2
ticks later (R77, R79, R69). -/
def State.projectorEye (s : State) : Option Content :=
  s.picture.shown.map (fun p =>
    match p.right with
    | none => p.left
    | some right => if s.pictureTicks / 2 ≤ s.sincePicture then right else p.left)

/-- The bytes of the overlay list that Picture Output sends ahead of its picture; none in the states that send no list (R122,
section 11.5). -/
def State.projectorOverlay (s : State) : Option (List Byte) := s.picture.overlay.map overlayBytes

/-- The level of a serial line `elapsed` ticks into a message of some bytes, each bit taking `per` ticks: a start bit at 0, eight data
bits least significant first, a stop bit at 1 (section 11.7). -/
def serialLevel (per : Nat) (bytes : List Byte) (elapsed : Nat) : Bool :=
  let bit := elapsed / per
  match bytes[bit / 10]? with
  | none => true
  | some b => if bit % 10 = 0 then false else if bit % 10 = 9 then true else b.getLsbD (bit % 10 - 1)

/-- The level of the booth line: 19,200 bit/s, at 1 while no message is sent (R156). -/
def State.boothLevel (s : State) : Bool :=
  match s.actions.line with
  | .sending m => serialLevel 5 (boothBytes m) (200 - s.actions.timer)
  | _ => true

/-- The level of the caption line: 48,000 bit/s, at 1 while no message is sent (R125). -/
def State.captionLevel (s : State) : Bool :=
  match s.cues.line with
  | .sending m => serialLevel 2 (captionBytes m) (captionTicks m - s.cues.timer)
  | _ => true

end Sys2Proof.Machine
end

