-- ==== Sys2Proof/Tests/Slice0.lean ====
section
/-! SUPPORT. Tests of the model on small states: worked figures of the manual, one step each, and for each statement a state that meets
its hypotheses. -/

namespace Sys2Proof.Tests

open Sys2Proof Sys2Proof.Machine

/- Each test's kernel evaluation finishes before the next begins, so that a compile of the whole text holds few threads. -/
set_option Elab.async false

/-! ## States to test on -/

/-- 10:13:59 on day 812. -/
def noon : TimeOfDay := { day := 812, hour := 10, minute := 13, second := 59 }

/-- A part with its link UP at a limit of 4,096, start-up COMPLETE and its clock SET. -/
def live : State :=
  { State.reset with
    signal := true,
    link := { LinkPort.reset with state := .up, limit := some 4096, laneCount := some 4, sending := .fill, out := .cell fillCell },
    counting := { Counting.reset with startup := .complete },
    clock := { isSet := true, now := noon, tick := 0 },
    events := Vector.replicate 26 EventRec.reset }

/-- A FEATURE reel of four units at 96 pictures a second, on P0 and S0. -/
def shortReel : Reel :=
  { ident := 11, kind := .feature, rate := 96, stereo := false, dur := 4, entry := 0, hi := false,
    pics := [{ lane := .pic 0, tag := 0 }], sounds := [{ lane := .snd 0, tag := 0, channels := 1, map := 0 }], texts := [],
    marks := [], hold := 0 }

/-- A TEST reel at 120 pictures a second with a sync mark at its unit 3. -/
def testReel : Reel := { shortReel with ident := 12, kind := .test, rate := 120, marks := [3] }

/-- An INTERMISSION reel with a hold of two seconds. -/
def breakReel : Reel := { shortReel with ident := 13, kind := .intermission, hold := 2 }

/-- A composition of the first two. -/
def shortComp : Composition := compositionOf 7 [] [shortReel, testReel]

/-- The showing context of an open showing of some reels. -/
def context (st : ShowState) (reels : List Reel) (k u : Nat) : Timeline :=
  { Timeline.reset with
    state := st, slot := some 0, mode := some .atOnce, table := reelTable 48000 reels,
    cursor := some { reel := k, unit := u, inGap := false } }

/-- An open showing of the short composition with its cursor at a unit. -/
def showing (st : ShowState) (k u : Nat) : State :=
  { live with
    comps := live.comps.set 0 (.inUse shortComp), timeline := context st [shortReel, testReel] k u,
    sound := { live.sound with cursor := some { reel := 0, unit := 0 } } }

/-- The state of an answer, where it is a next state. -/
def after (o : Host.Outcome State Fault Refusal) : Option State :=
  match o with
  | .next t => some t
  | _ => none

/-- A test on the next state of a command. -/
def gives (c : Instr) (s : State) (p : State → Bool) : Bool := ((after (exec c s)).map p).getD false

/-- The bytes of a cell with a good check word. -/
def cellBytes (kind tag comp reel unit frag : Nat) (payload : List Byte) : List Byte :=
  let covered := leBytes 1 kind ++ leBytes 1 tag ++ leBytes 4 comp ++ leBytes 1 reel ++ leBytes 3 unit ++ leBytes 2 frag ++
    leBytes 2 payload.length ++ payload
  covered ++ leBytes 4 (checkWord covered)

/-! ## Bytes, from the figures of chapters 9 and 11 -/

/-- Section 11.2: the check word over 0x31 to 0x39. -/
theorem test_check_word : checkWord [0x31#8, 0x32#8, 0x33#8, 0x34#8, 0x35#8, 0x36#8, 0x37#8, 0x38#8, 0x39#8] = 0xCBF43926 := by
  decide +kernel

/-- Section 11.2: that check word is sent as 0x26, 0x39, 0xF4, 0xCB. -/
theorem test_check_word_order : leBytes 4 0xCBF43926 = [0x26#8, 0x39#8, 0xF4#8, 0xCB#8] := by decide

/-- Section 9.7: the check bytes of four booth messages. -/
theorem test_booth_check_bytes :
    [boothBytes ⟨12, 1, 30⟩, boothBytes ⟨12, 1, 0⟩, boothBytes ⟨40, 7, 200⟩, boothBytes ⟨126, 255, 255⟩].map List.getLast? =
      [some 213#8, some 243#8, some 9#8, some 132#8] := by decide

/-- Section 11.7: CLEAR (T2, 213) on the caption line. -/
theorem test_caption_clear : captionBytes (.clear 2 213) = [126#8, 2#8, 2#8, 213#8, 0#8, 0#8, 0#8, 169#8] := by decide

/-- Section 11.7: the byte 12 on the booth line, five ticks a bit: start 0, then 0, 0, 1, 1, 0, 0, 0, 0 and stop 1. -/
theorem test_serial_level : (List.range 11).map (fun n => serialLevel 5 [12#8] (5 * n)) =
    [false, false, false, true, true, false, false, false, false, true, true] := by decide

/-- Section 11.6: a log record takes 40 bytes. -/
theorem test_log_record_size : (logBytes
    { place := 0, number := 1318, comp := 7, slot := some 0, allowance := some 9, serialAtOpen := some 3, usedAtOpen := some 1,
      sched := some 201, start := noon, ended := none, endUnset := false, presented := 0, repeated := 0, stalls := 0,
      outcome := .opened, miss := none, charged := false, exported := false }).length = 40 := by decide

/-- Section 11.2: the fields of a received cell, unassigned bits ignored. -/
theorem test_read_cell : readCell (cellBytes 1 0xF3 0x00C0FE41 0xC2 0xF00005 0x8001 [9#8]) false =
    some { kind := .picture, tag := 3, comp := 0x00C0FE41, reel := 2, unit := 5, frag := 1, lastFlag := true, lenField := 1,
           payload := [9#8], checkGood := true } := by decide +kernel

/-- R6: a cell cut by a new first-byte mark has a bad check. -/
theorem test_cut_cell : (readCell (cellBytes 1 0 7 0 0 0 []) true).map Cell.checkGood = some false := by decide +kernel

/-! ## Worked figures of chapters 4 to 10 -/

/-- The reels of the composition of chapter 4, as sections 4.8 and 5.11 give them. -/
def chapterFour : List Reel :=
  [ { shortReel with kind := .advert, rate := 24, dur := 1440 },
    { shortReel with kind := .trailer, rate := 24, dur := 3720, entry := 120 },
    { shortReel with rate := 48, stereo := true, dur := 86520, entry := 120 },
    { shortReel with rate := 48, stereo := true, dur := 72000 } ]

/-- Section 5.11: starts, gaps, the instant of unit 3,719 of reel 1 and the end of reel 3. -/
theorem test_reel_start_table :
    (reelTable 48000 chapterFour).map (fun r => (r.start, r.gap)) =
      [(0, 0), (5760000, 0), (20208000, 48000), (193008000, 0)] ∧
    ((reelTable 48000 chapterFour)[1]?).map (fun r => r.instant 3719) = some 20156000 ∧
    ((reelTable 48000 chapterFour)[3]?).map ReelRow.endTick = some 337008000 := by decide

/-- Section 5.11: Q = 126,844 for a feature span of 158,400 at coverage 205. -/
theorem test_count_point : (compositionOf 7 [] chapterFour).span = 158400 ∧ countPoint 205 158400 = 126844 := by decide

/-- The row of reel 2 of the composition of chapter 5 (section 7.7). -/
def rowTwo : ReelRow := { reel := { shortReel with rate := 48, stereo := true, dur := 86520, entry := 120 }, start := 20208000, gap := 48000 }

/-- Cue 212 of section 7.7, converted. -/
def cueTwelve : CueEntry :=
  convertCue 2 rowTwo { lane := .txt 0, tag := 0, opened := true, cueRate := 250, language := 0 }
    { number := 212, timeIn := 1376, timeOut := 2125, fadeIn := 50, fadeOut := 25, region := 6, lines := 0, text := [] }

/-- Section 7.7: the times, fades and line count of cue 212. -/
theorem test_cue_converted : cueTwelve.tin = 20496384 ∧ cueTwelve.tout = 20784000 ∧ cueTwelve.fadeIn = 19200 ∧
    cueTwelve.fadeOut = 9600 ∧ cueTwelve.lines = 1 := by decide

/-- Section 7.7: the levels of cue 212 on the frames 145, 146, 152, 153, 283, 284, 285, 286 and 287. -/
theorem test_cue_levels :
    [145, 146, 152, 153, 283, 284, 285, 286, 287].map (fun n => cueLevel cueTwelve (20208000 + n * 2000) 2000) =
      [48, 74, 234, 255, 255, 213, 160, 106, 53] := by decide

/-- R107: a mean rounds to nearest with ties toward zero. -/
theorem test_mean_ties : meanTowardZero 5 2 = 2 ∧ meanTowardZero (-5) 2 = -2 ∧ meanTowardZero 8 3 = 3 := by decide

/-- Section 10.7: the limits that SET_LIMITS 301 and 302 leave, and the clamped mark of a high mark that 302 does not name. -/
theorem test_limits_clamped :
    let l := Limits.reset.apply [⟨2, 500000⟩, ⟨3, 520000⟩, ⟨11, 3⟩, ⟨10, 300⟩]
    let m := l.apply [⟨4, 600000⟩]
    l.lowPic = 500000 ∧ l.highPic = 548000 ∧ l.heartbeat = 5 ∧ l.coverage = 256 ∧ l.highSnd = 576000 ∧ m.highSnd = 648000 ∧
    (limitReply l m [⟨4, 600000⟩])[5]? = some (648000, true) ∧ (limitReply l m [⟨4, 600000⟩])[4]? = some (600000, false) := by
  decide +kernel

/-- Section 12.1: a live delay of 6,263 is a shift of 3,132 samples and an offset of 6,264 ticks. -/
theorem test_live_shift : shiftSamples 6263 2 = 3132 ∧ appliedOffset 6263 2 = 6264 ∧ shiftSamples 2000 2 = 1000 ∧
    shiftSamples (-6263) 2 = -3132 ∧ shiftSamples 6263 1 = 6263 := by decide

/-- R99: sums saturate to 24 bits. -/
theorem test_saturate : saturate24 9000000 = 8388607 ∧ saturate24 (-1000000) = -1000000 ∧ saturate24 (-9000000) = -8388608 := by
  decide

/-- R59: the clock wraps after day 65,535. -/
theorem test_clock_wraps : nextSecond { day := 65535, hour := 23, minute := 59, second := 59 } = timeZero ∧
    nextSecond noon = { day := 812, hour := 10, minute := 14, second := 0 } := by decide

/-- Section 6.6: the sync check ends with a correction of 6,263 from four VALID records. -/
theorem test_sync_result :
    let pair (mark : Nat) (p e : CapCount) (v : Validity) : PairRec :=
      { mark, light := some p, echo := some e, flashWidth := none, echoWidth := none, delay := 0, validity := some v }
    let s := { live with sync := { Sync.reset with armed := true, auto := true, target := some 0, pairs :=
      [pair 240 (.ticks 7310) (.ticks 1060) .valid, pair 720 (.ticks 7318) (.ticks 1056) .valid,
       pair 1200 (.ticks 7322) .noEdge .noEdge, pair 1680 (.ticks 7330) (.ticks 1060) .valid,
       pair 2160 (.ticks 7325) (.ticks 1054) .valid] } }
    (finishCheck s).sync.last.map (fun r => (r.records, r.valid, r.correction, r.proposed)) = some (5, 4, some 6263, some 6263) ∧
    (finishCheck s).sound.staged = 6263 ∧ (finishCheck s).sound.pending = true ∧ (finishCheck s).sound.live = 0 := by decide +kernel

/-! ## No word spells a command -/

/-- The opcode table gives no bits, so a word spells nothing and leaves the queue as it is. -/
theorem test_no_word : decodeTableWord 8 0x15 = none ∧ (State.reset.withFetchWord 8 0x15).pending = [] := by decide

/-! ## WellFormed: an ill-formed term for each check -/

theorem test_ill_tag : (Instr.identify 65536).wellFormed = false := by decide
theorem test_ill_payload_class : (Instr.abilityWordReceived 65536 [1]).wellFormed = false := by decide
theorem test_ill_lane_counts : (Instr.abilityWordReceived 1024 [3]).wellFormed = false ∧
    (Instr.abilityWordReceived 1024 [1, 1]).wellFormed = false := by decide
theorem test_ill_time : (Instr.setClock 1 { noon with day := 65536 }).wellFormed = false ∧
    (Instr.setClock 1 { noon with hour := 256 }).wellFormed = false ∧ (Instr.setClock 1 { noon with minute := 256 }).wellFormed = false ∧
    (Instr.setClock 1 { noon with second := 256 }).wellFormed = false := by decide
theorem test_ill_limits : (Instr.setLimits 1 [⟨256, 0⟩]).wellFormed = false ∧ (Instr.setLimits 1 [⟨0, 4294967296⟩]).wellFormed = false ∧
    (Instr.setLimits 1 (List.replicate 256 ⟨0, 0⟩)).wellFormed = false := by decide +kernel
theorem test_ill_slot : (Instr.clearSlot 1 256).wellFormed = false := by decide
theorem test_ill_composition : (Instr.loadComposition 1 (List.replicate 4097 0)).wellFormed = false := by decide +kernel
theorem test_ill_routing : (Instr.loadRouting 1 256 []).wellFormed = false ∧ (Instr.loadRouting 1 0 [⟨256, 0, 0⟩]).wellFormed = false ∧
    (Instr.loadRouting 1 0 [⟨0, 256, 0⟩]).wellFormed = false ∧ (Instr.loadRouting 1 0 [⟨0, 0, 256⟩]).wellFormed = false := by decide

/-- An action entry with every field in its bytes. -/
def smallAction : ActionArgs := { enabled := true, kind := 0, f0 := 0, f1 := 0, offset := 0, address := 12, command := 1, data := 2 }

theorem test_ill_action_trigger : (Instr.loadActions 1 256 []).wellFormed = false ∧
    (Instr.loadActions 1 0 [{ smallAction with kind := 256 }]).wellFormed = false ∧
    (Instr.loadActions 1 0 [{ smallAction with f0 := 256 }]).wellFormed = false ∧
    (Instr.loadActions 1 0 [{ smallAction with f1 := 256 }]).wellFormed = false := by decide
theorem test_ill_action_offset : (Instr.loadActions 1 0 [{ smallAction with offset := 2147483648 }]).wellFormed = false ∧
    (Instr.loadActions 1 0 [{ smallAction with offset := -2147483649 }]).wellFormed = false := by decide
theorem test_ill_action_message : (Instr.loadActions 1 0 [{ smallAction with address := 256 }]).wellFormed = false ∧
    (Instr.loadActions 1 0 [{ smallAction with command := 256 }]).wellFormed = false ∧
    (Instr.loadActions 1 0 [{ smallAction with data := 256 }]).wellFormed = false := by decide
theorem test_ill_mask : (Instr.setEventMask 1 [⟨256, true, true⟩]).wellFormed = false := by decide
theorem test_ill_event : (Instr.readEvent 1 256).wellFormed = false := by decide

/-- The arguments of an allowance for the composition 7. -/
def smallAllowance : AllowanceArgs :=
  { index := 4, comp := 7, fromDay := 10, fromMinute := 0, untilDay := 11, untilMinute := 0, allowed := some 3 }

theorem test_ill_allowance : (Instr.loadAllowance 1 { smallAllowance with index := 256 }).wellFormed = false ∧
    (Instr.loadAllowance 1 { smallAllowance with comp := 4294967296 }).wellFormed = false ∧
    (Instr.loadAllowance 1 { smallAllowance with allowed := some 65536 }).wellFormed = false := by decide
theorem test_ill_allowance_days : (Instr.loadAllowance 1 { smallAllowance with fromDay := 65536 }).wellFormed = false ∧
    (Instr.loadAllowance 1 { smallAllowance with fromMinute := 65536 }).wellFormed = false ∧
    (Instr.loadAllowance 1 { smallAllowance with untilDay := 65536 }).wellFormed = false ∧
    (Instr.loadAllowance 1 { smallAllowance with untilMinute := 65536 }).wellFormed = false := by decide
theorem test_ill_allowance_index : (Instr.revokeAllowance 1 256).wellFormed = false ∧
    (Instr.clearAllowance 1 256).wellFormed = false := by decide
theorem test_ill_log : (Instr.readLog 1 4294967296 1).wellFormed = false ∧ (Instr.readLog 1 1 256).wellFormed = false ∧
    (Instr.markExported 1 4294967296).wellFormed = false := by decide

/-- A schedule entry for the composition 7 on the test day. -/
def smallEntry : SchedEntry := { ident := 201, day := 812, minute := 700, comp := 7, allowance := none }

theorem test_ill_schedule : (Instr.scheduleAdd 1 { smallEntry with ident := 65536 }).wellFormed = false ∧
    (Instr.scheduleAdd 1 { smallEntry with day := 65536 }).wellFormed = false ∧
    (Instr.scheduleAdd 1 { smallEntry with minute := 65536 }).wellFormed = false ∧
    (Instr.scheduleAdd 1 { smallEntry with comp := 4294967296 }).wellFormed = false ∧
    (Instr.scheduleAdd 1 { smallEntry with allowance := some 256 }).wellFormed = false ∧
    (Instr.scheduleCancel 1 65536).wellFormed = false := by decide

/-- The arguments of a START of slot 0 at once. -/
def smallStart : StartArgs := { slot := 0, mode := 0, time := noon, allowance := none }

theorem test_ill_start : (Instr.start 1 { smallStart with slot := 256 }).wellFormed = false ∧
    (Instr.start 1 { smallStart with mode := 256 }).wellFormed = false ∧
    (Instr.start 1 { smallStart with allowance := some 256 }).wellFormed = false := by decide
theorem test_ill_sync : (Instr.setSync 1 2147483648).wellFormed = false ∧ (Instr.setSync 1 (-2147483649)).wellFormed = false := by
  decide
theorem test_ill_cell (bytes : List Byte) (h : bytes.length = 131072) : (Instr.cellReceived bytes false).wellFormed = false := by
  simp [Instr.wellFormed, h]
theorem test_ill_unknown : (Instr.unknownCommandCell [28, 0, 0]).wellFormed = false ∧
    (Instr.unknownCommandCell [29, 0, 0]).wellFormed = true ∧ (Instr.unknownCommandCell [1, 0]).wellFormed = true := by decide

/-! ## One step each -/

/-- R2: a class of 2,048 and the counts 1 and 2 bring the link UP at those. -/
theorem test_ability_word :
    gives (.abilityWordReceived 2048 [1, 2]) { State.reset with signal := true, link := LinkPort.reset.beginAttempt } (fun t =>
      decide (t.link.state = .up) && decide (t.link.limit = some 2048) && decide (t.link.laneCount = some 2)) = true := by
  decide +kernel

/-- R8: a cell beyond the limit with a good check is counted as OVERLONG and dropped. -/
theorem test_overlong_cell :
    gives (.cellReceived (cellBytes 4 0 0 0 0 0 [1]) false) { live with link := { live.link with limit := some 0 } } (fun t =>
      decide (t.counters.overlong = 1) && decide (t.link.queue = [])) = true := by decide +kernel

/-- Section 11.3: a MANAGE cell with code 6 is KEEPALIVE, with its tag least significant byte first. -/
theorem test_manage_cell :
    gives (.cellReceived (cellBytes 4 0 0 0 0 0 [6, 0x34, 0x12]) false) live (fun t =>
      decide (t.link.queue = [.reply 6 0x1234 none (.heartbeat 0 0)]) && decide (t.counters.good = 1)) = true := by decide +kernel

/-- R158: a cell that names no command is refused under its own tag. -/
theorem test_unknown_command :
    gives (.unknownCommandCell [29, 5, 0]) live (fun t =>
      decide (t.link.queue = [.reply 29 5 (some .unknownCommand) .nothing])) = true := by decide +kernel

/-- Section 11.4: a composition of one mono FEATURE reel, in slot 1. -/
def loadBytes : List Byte :=
  [1] ++ leBytes 4 7 ++ [0, 1] ++ leBytes 4 11 ++ [0, 96, 0] ++ leBytes 3 4 ++ leBytes 3 1 ++ [0, 1, 0, 0, 0, 0, 0, 0, 0]

/-- R57, R51: the composition is LOADED with its class and feature span. -/
theorem test_load_composition :
    gives (.loadComposition 3 loadBytes) live (fun t =>
      decide (t.link.queue = [.reply 8 3 none (.composition 1 true 3 1 none)]) &&
      decide ((t.comps[1].comp).map Composition.ident = some 7)) = true := by decide +kernel

/-- R53: a composition whose bytes end before its counts is TOO_LARGE. -/
theorem test_short_composition :
    gives (.loadComposition 3 (loadBytes.take 12)) live (fun t =>
      decide (t.link.queue = [.reply 8 3 (some .tooLarge) .nothing])) = true := by decide +kernel

/-- R129: the loaded allowance has the load serial 1, and its reply waits for the write. -/
theorem test_load_allowance :
    gives (.loadAllowance 3 smallAllowance) live (fun t =>
      decide ((t.place 4).serial = 1) && decide (t.counting.queue.length = 1) && decide (t.link.queue = [])) = true := by decide +kernel

/-- R60: SET_CLOCK out of range leaves the clock. -/
theorem test_set_clock_range :
    gives (.setClock 3 { noon with hour := 24 }) live (fun t =>
      decide (t.clock = live.clock) && decide (t.link.queue = [.reply 2 3 (some .badArgument) .nothing])) = true := by decide +kernel

/-- R97: a triple on a picture lane, and a pair named twice, are refused. -/
theorem test_bad_routes :
    gives (.loadRouting 3 1 [⟨0, 0, 0⟩]) live (fun t => decide (t.link.queue = [.reply 10 3 (some .badArgument) .nothing])) = true ∧
    gives (.loadRouting 3 1 [⟨2, 0, 0⟩, ⟨2, 0, 255⟩]) live (fun t =>
      decide (t.link.queue = [.reply 10 3 (some .badArgument) .nothing])) = true := by decide +kernel

/-- R150: the refusal names the first entry that fails; the address 127 does. -/
theorem test_bad_action :
    gives (.loadActions 3 10 [smallAction, { smallAction with address := 127 }]) live (fun t =>
      decide (t.link.queue = [.reply 11 3 (some .badArgument) (.index 11)])) = true := by decide +kernel

/-- An allowance for the composition 7 that is OPEN on the test day. -/
def openAllowance : Allowance :=
  { comp := 7, fromDay := 800, fromMinute := 0, untilDay := 900, untilMinute := 0, allowed := some 3, used := 0, revoked := false }

/-- Its place. -/
def openPlace : Place := { record := some openAllowance, serial := 1, state := .opened }

/-- The short composition LOADED in slot 0 and an OPEN allowance at index 4. -/
def ready : State :=
  { live with
    comps := live.comps.set 0 (.loaded shortComp),
    counting := { live.counting with places := live.counting.places.set 4 openPlace } }

/-- R71, R136: an accepted START of a FEATURE composition opens record 1 and binds the allowance. -/
theorem test_start :
    gives (.start 3 smallStart) ready (fun t =>
      decide (t.timeline.state = .cueing) && decide (t.counting.bound = some 4) && decide (t.counting.point = some 4) &&
      decide (t.wanted.map Wanted.index = [0]) && decide (t.counting.log.map LogRecord.number = [1])) = true := by decide +kernel

/-- R70, R131: without an OPEN allowance a FEATURE composition is refused. -/
theorem test_start_without_allowance :
    gives (.start 3 smallStart) { ready with counting := live.counting } (fun t =>
      decide (t.link.queue = [.reply 21 3 (some .noAllowance) .nothing]) && decide (t.timeline.state = .idle)) = true := by
  decide +kernel

/-- R79: a missing picture release repeats, and the 12th miss in a row is taken at the end of its interval (R82). -/
theorem test_missing_release :
    gives .pictureReleaseInstant (showing .playing 0 2) (fun t =>
      decide (t.timeline.missing = 1) && decide (t.timeline.repeated = 1) && t.isAsserted .pictureRepeat &&
      decide (t.timeline.presented = 0) && decide (t.timeline.p = 2000)) = true := by decide +kernel

/-- R84: PAUSE in PLAYING waits for the end of the interval. -/
theorem test_pause :
    gives (.pause 3) (showing .playing 0 1) (fun t =>
      decide (t.timeline.state = .playing) && t.timeline.pausePending) = true := by decide +kernel

/-- R85: RESUME without the resume lead stalls the showing. -/
theorem test_resume :
    gives (.resume 3) (showing .paused 0 1) (fun t =>
      decide (t.timeline.state = .stalled) && decide (t.timeline.stalls = 1) && t.isAsserted .stall) = true := by decide +kernel

/-- R88: STOP in PAUSED closes as STOPPED. -/
theorem test_stop :
    gives (.stop 3) (showing .paused 0 1) (fun t =>
      decide (t.timeline.state = .closing) && decide (t.timeline.outcome = some .stopped)) = true := by decide +kernel

/-- R105: a SYNC_CHECK targets the TEST reel whose mark lies ahead. -/
theorem test_sync_check :
    gives (.syncCheck 3 true) (showing .playing 0 1) (fun t => t.sync.armed && decide (t.sync.target = some 1)) = true := by
  decide +kernel

/-- R100: a delay beyond 24,000 ticks is clamped, and SYNC_LIMIT occurs. -/
theorem test_set_sync :
    gives (.setSync 3 (-30000)) live (fun t =>
      decide (t.sound.staged = -24000) && decide (t.sound.live = 0) && decide ((t.event .syncLimit).count = 1)) = true := by
  decide +kernel

/-- R10: the 17th damaged cell of a second asserts CELL_DAMAGE. -/
theorem test_cell_damage :
    gives (.cellReceived [1, 2, 3] false) { live with link := { live.link with damage := 16 } } (fun t =>
      t.isAsserted .cellDamage && decide (t.link.damage = 17)) = true := by decide +kernel

/-- R59: the second roll takes the clock over a minute. -/
theorem test_second_roll :
    gives .secondRoll live (fun t => decide (t.clock.now = { day := 812, hour := 10, minute := 14, second := 0 })) = true := by
  decide +kernel

/-- R166: the RESET pin holds the part, and only the clock takes a second roll. -/
theorem test_reset_line :
    gives .resetLine live (fun t =>
      decide (t.counting.startup = .heldInReset) && decide (t.link.state = .down) && decide (t.clock = live.clock) &&
      decide (t.mgmt.cause = .resetLine) && decide (t.mgmt.resets = 1)) = true := by decide +kernel

/-- R156: an action message on a resting line is sent at once, in 200 ticks. -/
theorem test_action_fires :
    let entry : ActionEntry := { enabled := true, trigger := some (.state .closing), message := ⟨12, 1, 30⟩, resolved := none, fired := false }
    gives (.stop 3) { showing .paused 0 1 with actions := { ActionUnit.reset with table := ActionUnit.reset.table.set 7 entry } }
      (fun t => decide (t.actions.line = .sending ⟨12, 1, 30⟩) && decide (t.actions.timer = 200)) = true := by decide +kernel

/-! ## For each statement with hypotheses, states that meet them -/

theorem witness_StepRunsFrontCommand : (live.pushFront .powerOn).pending = .powerOn :: [] := by decide +kernel

/-- A part in TRAINING. -/
def training : State := { State.reset with signal := true, link := LinkPort.reset.beginAttempt }

/-- A part whose training attempt is 100 ms old. -/
def attemptDue : State := { training with link := { training.link with attempt := some 9600 } }

theorem witness_EmptyQueueStepTicks :
    State.reset.pending = [] ∧
    ({ live with powered := false }.pending = [] ∧ { live with powered := false }.powered = false) ∧
    ({ live with resetPin := true }.pending = [] ∧ { live with resetPin := true }.powered = true) ∧
    (attemptDue.pending = [] ∧ attemptDue.running = true ∧ ∃ t, serveDue attemptDue = some t) ∧
    (State.reset.running = true ∧ serveDue State.reset = none) :=
  ⟨by decide +kernel, by decide +kernel, by decide +kernel,
    ⟨by decide +kernel, by decide +kernel, Option.isSome_iff_exists.mp (by decide +kernel)⟩, by decide +kernel⟩

/-- An OPEN record of the short composition. -/
def openRec : LogRecord :=
  { place := 0, number := 1, comp := 7, slot := some 0, allowance := some 4, serialAtOpen := some 1, usedAtOpen := some 0,
    sched := none, start := noon, ended := none, endUnset := false, presented := 0, repeated := 0, stalls := 0, outcome := .opened,
    miss := none, charged := false, exported := false }

/-- A store entry of a kind for that record. -/
def storeEntry (kind : EntryKind) : StoreEntry := { kind, record := some openRec, place := none, marks := [], owed := none }

/-- A part with some entries in its store queue. -/
def writing (q : List StoreEntry) : State := { live with counting := { live.counting with queue := q } }

theorem witness_ResetReturnsVolatileState :
    live.counting.queue = [] ∧ (writing [storeEntry .creation]).counting.queue = storeEntry .creation :: [] := by decide +kernel

theorem witness_PowerAndResetPin :
    (live.powered = true ∧ live.resetPin = false) ∧
    ({ State.reset with resetPin := true }.powered = true ∧ { State.reset with resetPin := true }.signal = false) ∧
    ({ State.reset with resetPin := true, signal := true }.powered = true ∧
      { State.reset with resetPin := true, signal := true }.link.state = .down) ∧
    (writing [storeEntry .creation]).counting.queue = storeEntry .creation :: [] := by decide +kernel

theorem witness_TrainingAttemptsBegin :
    (State.reset.running = true ∧ State.reset.link.state = .down) ∧ (live.running = true ∧ live.link.state ≠ .down) ∧
    (training.running = true ∧ training.link.state = .training) := by decide +kernel

theorem witness_AbilityWordDecides :
    (training.running = true ∧ training.link.state = .training ∧ training.link.decided = false) ∧
    (1024 ∈ [1024, 2048, 4096] ∧ 4096 ∈ [1024, 2048, 4096] ∧ ∃ n ∈ [4], n ∈ [1, 2, 4]) ∧
    (1023 ∉ [1024, 2048, 4096] ∧ 4097 ∉ [1024, 2048, 4096] ∧ ∀ n ∈ [3, 8], n ∉ [1, 2, 4]) ∧
    ({ training with link := { training.link with decided := true } }.link.state = .training ∧ State.reset.link.state = .down) ∧
    (live.running = true ∧ live.link.state = .up ∧ live.link.holdsRestart = false) := by decide +kernel

theorem witness_LeavingUp :
    (live.running = true ∧ live.link.state = .up ∧ live.link.holdsRestart = false) ∧
    (training.running = true ∧ training.link.state = .training) ∧ (State.reset.running = true ∧ State.reset.link.state = .down) := by
  decide +kernel

/-- A part that sends the reply of an accepted RESTART. -/
def restarting : State :=
  { live with
    mgmt := { live.mgmt with restartPending := true },
    link := { live.link with queue := [.reply 7 5 none .nothing], sending := .report } }

theorem witness_RestartTakesPlace :
    restarting.running = true ∧ restarting.link.state = .up ∧ restarting.link.holdsRestart = true ∧
    restarting.link.sending = .report ∧ restarting.link.queue = .reply 7 5 none .nothing :: [] := by decide +kernel

/-- A cell with a length field, three payload bytes and a check that is good or bad. -/
def cellOf (lenField : Nat) (good : Bool) : Cell :=
  { kind := .picture, tag := 0, comp := 7, reel := 0, unit := 1, frag := 0, lastFlag := true, lenField, payload := [1, 2, 3],
    checkGood := good }

theorem witness_CellClasses :
    (2 < max (cellOf 3 false).lenField (cellOf 3 false).payload.length ∧ (cellOf 3 false).checkGood = false) ∧
    (2 < max (cellOf 3 true).lenField (cellOf 3 true).payload.length ∧ (cellOf 3 true).checkGood = true) ∧
    (max (cellOf 2 false).lenField (cellOf 2 false).payload.length ≤ 3 ∧ (cellOf 2 false).checkGood = false) ∧
    (max (cellOf 3 true).lenField (cellOf 3 true).payload.length ≤ 3 ∧ (cellOf 3 true).checkGood = true) ∧
    (live.running = true ∧ live.link.state = .up ∧ (List.replicate 17 (0 : Byte)).length < 18 ∧ ([] : List Byte).length < 18) ∧
    16 ≤ { live with link := { live.link with damage := 16 } }.link.damage ∧
    (State.reset.running = true ∧ State.reset.link.state ≠ .up) := by decide +kernel

/-- A one-byte cell of a kind as it is read, cut or whole, has a kind and a class under a limit. -/
def classed (code : Nat) (cut : Bool) (limit : Nat) (kind : CellKind) (k : CellClass) : Prop :=
  ∃ c, readCell (cellBytes code 0 7 0 1 0 [9]) cut = some c ∧ c.kind = kind ∧ classOf limit (some c) = k

theorem witness_CellClasses_disposal :
    (live.link.limit.getD 1024 = 4096 ∧ { live with link := { live.link with limit := some 0 } }.link.limit.getD 1024 = 0 ∧
      live.link.retrainRun < 7 ∧ 6 < 7) ∧
    (classed 1 false 4096 .picture .good ∧ classed 2 false 4096 .sound .good ∧ classed 3 false 4096 .text .good ∧
      classed 6 false 4096 .fill .good ∧ classed 5 false 4096 .report .good ∧ classed 7 false 4096 .wrong .good) ∧
    (classed 1 true 4096 .picture .damaged ∧ classed 4 true 4096 .manage .damaged ∧ classed 6 true 4096 .fill .damaged ∧
      classed 5 true 4096 .report .damaged ∧ classed 0 true 4096 .wrong .damaged) ∧
    (classed 1 false 0 .picture .overlong ∧ classed 7 false 0 .wrong .overlong ∧ classed 1 true 0 .picture .overlongDamaged ∧
      classed 7 true 0 .wrong .overlongDamaged) := by
  refine ⟨by decide +kernel, ⟨?_, ?_, ?_, ?_, ?_, ?_⟩, ⟨?_, ?_, ?_, ?_, ?_⟩, ?_, ?_, ?_, ?_⟩ <;>
    exact ⟨_, rfl, by decide +kernel, by decide +kernel⟩

/-- A header that promises 5,000 bytes, with no payload. -/
def longHeader : List Byte := [1, 0] ++ leBytes 4 7 ++ List.replicate 6 0 ++ leBytes 2 5000 ++ [0, 0, 0, 0]

theorem witness_EighthOverlongDamagedRetrains :
    let s := { live with link := { live.link with retrainRun := 7 } }
    s.running = true ∧ s.link.state = .up ∧ s.link.holdsRestart = false ∧ s.link.retrainRun = 7 ∧
    ∃ c, readCell longHeader false = some c ∧ classOf (s.link.limit.getD 1024) (some c) = .overlongDamaged :=
  ⟨by decide +kernel, by decide +kernel, by decide +kernel, by decide +kernel, _, rfl, by decide +kernel⟩

/-- A part with `n` reports queued. -/
def withReports (n : Nat) : State := { live with link := { live.link with queue := List.replicate n (.reply 6 1 none .nothing) } }

theorem witness_ManageCellAdmission :
    (withReports 47).link.queue.length ≤ 47 ∧ 48 ≤ (withReports 48).link.queue.length ∧ live.running = true ∧ live.link.state = .up ∧
    ∃ c, readCell (cellBytes 4 0 0 0 0 0 [6, 1, 0]) false = some c ∧ c.kind = .manage ∧
      classOf (live.link.limit.getD 1024) (some c) = .good :=
  ⟨by decide +kernel, by decide +kernel, by decide +kernel, by decide +kernel, _, rfl, by decide +kernel, by decide +kernel⟩

/-- The short FEATURE reel wanted, with its base on P0 at unit 1. -/
def wantedShort : Wanted :=
  { comp := 7, index := 0, reel := shortReel, finished := false,
    bases := ((Lanes.all none).set (.pic 0) (some 1)).set (.snd 0) (some 0) }

/-- A slot of P0 that holds one whole unit of the short reel. -/
def fullSlot (u : Nat) : AsmSlot :=
  { reel := 0, unit := u, content := { stride := 4096, frags := [(0, [1, 2, 3])], key := 0 }, last := some 0, damaged := false,
    regions := [0], complete := true, size := 3 }

/-- A showing that wants the short reel, with some slots of P0 filled. -/
def assembling (slots : List AsmSlot) : State :=
  ({ showing .playing 0 1 with wanted := [wantedShort], buffer := { live.buffer with pool := 32768 - slots.length } }).setSlots
    (.pic 0) slots

theorem witness_ContentCellDrops :
    (∀ w ∈ (assembling []).wanted, w.comp ≠ 7 ∨ w.index ≠ 1) ∧
    ((assembling []).wanted.find? (fun w => decide (w.comp = 7) && decide (w.index = 0)) = some wantedShort ∧
      wantedShort.reel.laneFor .picture 5 = none) ∧
    (assembling []).base 0 (.pic 0) = some 1 ∧ (0 < 1 ∧ 1 + 3 < 5) ∧
    (1 ≤ 4 ∧ 4 ≤ 1 + 3 ∧ (∀ i, Lane.pic 0 ≠ .txt i) ∧ shortReel.dur ≤ 4) ∧
    (let s := assembling [fullSlot 1, fullSlot 2, fullSlot 3, { fullSlot 0 with reel := 1 }]
     (∀ x ∈ s.laneSlots (.pic 0), x.reel ≠ 0 ∨ x.unit ≠ 4) ∧ 4 ≤ (s.laneSlots (.pic 0)).length ∧ 4 < 8) ∧
    (let s := assembling [fullSlot 2]
     (∀ x ∈ s.laneSlots (.pic 0), x.reel = 0 → x.unit = 2 → x.complete = true ∨ x.has 0 = true) ∧
       ∃ x ∈ s.laneSlots (.pic 0), x.reel = 0 ∧ x.unit = 2) := by decide +kernel

theorem witness_AbilityWordDecides_reports :
    training.wanted.length ≤ 2 ∧ training.link.out = .words [.ability 4096 [1, 2, 4]] ∧
    (assembling [{ fullSlot 1 with complete := false }]).misfits 2048 (.pic 0) = [{ fullSlot 1 with complete := false }] ∧
    (assembling [{ fullSlot 1 with complete := false }]).misfits 4096 (.pic 0) = [] := by decide +kernel

/-- A slot of P0 with nothing placed, and with its fragment 0 placed. -/
def emptySlot (u : Nat) : AsmSlot :=
  { reel := 0, unit := u, content := { stride := 4096, frags := [], key := 0 }, last := none, damaged := false, regions := [],
    complete := false, size := 0 }
def begunSlot (u : Nat) : AsmSlot := { emptySlot u with content := { stride := 4096, frags := [(0, [1])], key := 0 }, regions := [0] }

/-- A fragment of three bytes. -/
def frag (index : Nat) (lastFlag damaged : Bool) : Fragment := { index, lastFlag, damaged, payload := [1, 2, 3] }

theorem witness_ContentCellDrops_placement :
    ((assembling [begunSlot 1]).base 0 (.pic 0) = some 1 ∧
      ((assembling [begunSlot 1]).laneSlots (.pic 0)).find? (fun x => decide (x.reel = 0) && decide (x.unit = 1)) = some (begunSlot 1) ∧
      1 < shortReel.dur) ∧
    ((∀ x ∈ (assembling [fullSlot 1, fullSlot 2, fullSlot 3]).laneSlots (.pic 0), x.reel ≠ 0 ∨ x.unit ≠ 4) ∧
      ((assembling [fullSlot 1, fullSlot 2, fullSlot 3]).laneSlots (.pic 0)).length < 4 ∧ 4 < 5) ∧
    ((frag 1023 false false).damaged = false ∧ ((assembling []).freshSlot 0 1).contradicts (.pic 0) (frag 1023 false true) = false ∧
      (frag 1024 false true).damaged = true ∧ ((assembling []).freshSlot 0 1).contradicts (.pic 0) (frag 1024 false true) = true) ∧
    ((emptySlot 1).complete = false ∧ (emptySlot 1).has 0 = false ∧ (begunSlot 1).complete = false ∧ (begunSlot 1).has 1 = false ∧
      (begunSlot 1).contradicts (.pic 0) (frag 1024 false true) = true ∧ (begunSlot 1).contradicts (.pic 0) (frag 1024 true false) = true) ∧
    (let s := { assembling [emptySlot 1] with buffer := { live.buffer with pool := 0 } }
     (emptySlot 1).contradicts (.pic 0) (frag 0 true false) = false ∧
       ¬ ((frag 0 true false).payload.length = 0 ∨ 0 * 4096 / 65536 ∈ (emptySlot 1).regions) ∧ s.buffer.pool = 0 ∧
       (s.laneSlots (.pic 0)).filter (fun y => decide (y.reel = 0) && decide (y.unit = 1)) = [emptySlot 1]) ∧
    ((begunSlot 1).contradicts (.pic 0) (frag 1 true false) = false ∧ 1 * 4096 / 65536 ∈ (begunSlot 1).regions ∧
      0 < (assembling []).buffer.pool) := by decide +kernel

theorem witness_UnitsJoinInOrder :
    (∀ i, Lane.pic 0 ≠ .txt i) ∧
    ((joinLane (.pic 0) (assembling [fullSlot 1])).queue (.pic 0)).map UnitRec.unit = [1] ∧
    (joinLane (.pic 0) (assembling [fullSlot 1])).counters.assembled = 1 := by decide +kernel

theorem witness_UnitsJoinInOrder_turn :
    (assembling [fullSlot 1]).joiner (.pic 0) = some (fullSlot 1) ∧ (assembling [fullSlot 2]).joiner (.pic 0) = none ∧
    (wantedShort ∈ (assembling []).turns (.pic 0)) ∧ (assembling []).turns (.pic 1) = [] ∧ Lane.pic 1 ≠ .pic 0 ∧
    (assembling [fullSlot 1]).base 0 (.pic 0) = some 1 ∧ Lane.txt 3 = .txt 3 := by decide +kernel

/-- Two wanted reels on S0: the first with its last unit still to come, the second with its first unit complete in a slot. -/
def overtaken : State :=
  let names (k b : Nat) : Wanted := { wantedShort with index := k, bases := (Lanes.all none).set (.snd 0) (some b) }
  { showing .playing 1 1 with
    wanted := [names 0 3, names 1 0],
    slots := (Lanes.all []).set (.snd 0) [{ fullSlot 3 with complete := false }, { fullSlot 0 with reel := 1 }] }

theorem witness_UnitsJoinInOrder_removal :
    (∀ i, Lane.snd 0 ≠ .txt i) ∧ Lane.txt 0 = .txt 0 ∧ { fullSlot 0 with reel := 1 } ∈ overtaken.laneSlots (.snd 0) ∧
    overtaken.joiner (.snd 0) = none := by decide +kernel

/-- R31: where reel 0 leaves, the turn of reel 1 comes on S0, and its complete base unit joins. -/
theorem test_removal_joins_the_next_reel :
    (removeReel 0 overtaken).queue (.snd 0) = [({ fullSlot 0 with reel := 1 } : AsmSlot).record] ∧
    (removeReel 0 overtaken).laneSlots (.snd 0) = [] ∧ (removeReel 0 overtaken).base 1 (.snd 0) = some 1 ∧
    (removeReel 0 overtaken).counters.abandoned = 1 := by decide +kernel

/-- A part whose oldest report is on the link. -/
def reporting (r : Report) (sending : Outbound) : State := { live with link := { live.link with queue := [r], sending } }

theorem witness_OutboundCellsLeave :
    (let s := reporting (.reply 4 5 none (.status live.status)) .report
     s.running = true ∧ s.link.state = .up ∧ s.link.sending = .report ∧ s.link.queue = .reply 4 5 none (.status live.status) :: [] ∧
       (Report.reply 4 5 none (.status live.status)).isRestart = false) ∧
    (live.running = true ∧ live.link.state = .up ∧ live.link.sending = .fill) := by decide +kernel

theorem witness_OutboundCellsLeave_payload (code tag : Nat) (refusal : Option Reason) (lo hi : Option Nat) (n : Nat)
    (records : List LogRecord)
    (h : Report.reply 16 3 none (.log (some 1) (some 16) 16 (List.replicate 16 openRec)) = .reply code tag refusal (.log lo hi n records)) :
    records.length ≤ 16 := by
  cases h; decide

/-- An EVENT report, a REPLY and a HOLD of P0. -/
def anEvent : Report := .event 0 .asserted 1 none
def aReply : Report := .reply 6 1 none .nothing
def aHold : Report := .hold (.pic 0) [0] 200

/-- A Link Port in UP with some reports queued. -/
def portWith (q : List Report) : LinkPort := { live.link with queue := q, sending := .report }

theorem witness_ReportAdmission :
    LinkPort.reset.state ≠ .up ∧
    ((portWith (List.replicate 63 aReply)).state = .up ∧ aReply.holdLane = none ∧ (portWith (List.replicate 63 aReply)).queue.length < 64) ∧
    (anEvent.isEvent = true ∧ 64 ≤ (portWith (List.replicate 64 aReply)).queue.length) ∧
    (let l := portWith (aReply :: anEvent :: List.replicate 62 aReply)
     aReply.isEvent = false ∧ l.queue = [aReply] ++ anEvent :: List.replicate 62 aReply ∧ 64 ≤ l.queue.length ∧
       l.inFlight ≤ [aReply].length ∧ ∀ x ∈ List.replicate 62 aReply, x.isEvent = false) ∧
    (let l := portWith (anEvent :: List.replicate 63 aReply)
     64 ≤ l.queue.length ∧ ∀ x ∈ l.queue.drop l.inFlight, x.isEvent = false) ∧
    (let l := portWith [aHold, aReply, aHold]
     aHold.holdLane = some (.pic 0) ∧ l.queue = [aHold, aReply] ++ aHold :: [] ∧ l.inFlight ≤ [aHold, aReply].length ∧
       ∀ x ∈ [aHold, aReply].drop l.inFlight, x.holdLane ≠ some (.pic 0)) ∧
    (let l := portWith [aHold, aReply]
     (∀ x ∈ l.queue.drop l.inFlight, x.holdLane ≠ some (.pic 0)) ∧ l.queue.length < 64) ∧
    (portWith (List.replicate 64 aReply)).queue.length ≤ 64 := by decide +kernel

/-- A showing with one member in its wanted set, finished on its pictures, its cursors in reel `k`. -/
def oneWanted (k : Nat) : State :=
  { showing .playing k 1 with
    wanted := [{ wantedShort with finished := true }],
    sound := { live.sound with cursor := some { reel := k, unit := 1 } } }

theorem witness_ReportAdmission_wanted :
    (∃ next, (oneWanted 0).row 1 = some next ∧ (oneWanted 0).reelTaken 1 next.reel = false ∧ (oneWanted 1).row 1 = some next ∧
      (oneWanted 1).reelTaken 1 next.reel = false) ∧
    (oneWanted 0).instantsTaken { wantedShort with finished := true } = false ∧
    (oneWanted 1).instantsTaken { wantedShort with finished := true } = true ∧
    (oneWanted 1).link.state = .up ∧ (oneWanted 1).link.queue.length < 64 :=
  ⟨⟨_, rfl, by decide +kernel, rfl, by decide +kernel⟩, by decide +kernel, by decide +kernel, by decide +kernel, by decide +kernel⟩

/-- A part whose lane P0 is HELD with a lead. -/
def heldAt (lead : Nat) (full : Bool) : State :=
  (if full then live.setEvent .bufferFull { EventRec.reset with asserted := true } else live).setHold (.pic 0)
    { held := true, pace := 0, refresh := some 0, lead }

theorem witness_HoldRefreshFires :
    ((heldAt 576001 false).running = true ∧ ((heldAt 576001 false).hold (.pic 0)).held = true ∧
      (heldAt 576001 false).isAsserted .bufferFull = false ∧
      (heldAt 576001 false).holdMark (.pic 0) < ((heldAt 576001 false).hold (.pic 0)).lead) ∧
    ((heldAt 192000 true).isAsserted .bufferFull = true ∧
      (heldAt 192000 true).effLow (.pic 0) ≤ ((heldAt 192000 true).hold (.pic 0)).lead) ∧
    (let s := heldAt 576000 false
     ¬ ((s.isAsserted .bufferFull = false ∧ s.holdMark (.pic 0) < (s.hold (.pic 0)).lead) ∨
       (s.isAsserted .bufferFull = true ∧ s.effLow (.pic 0) ≤ (s.hold (.pic 0)).lead))) := by decide +kernel

theorem witness_HoldRefreshFires_exhaustion :
    ((heldAt 191999 false).hold (.pic 0)).lead < (heldAt 191999 false).effLow (.pic 0) ∧
    (heldAt 192000 false).effLow (.pic 0) ≤ ((heldAt 192000 false).hold (.pic 0)).lead ∧
    ((withReports 56).link.state = .up ∧ (withReports 56).link.queue.length ≤ 56) ∧
    (2047 < 2048 ∧ 2048 ≤ 2047 + 1) ∧ 2046 + 1 < 2048 ∧ 2048 ≤ live.buffer.pool := by decide +kernel

/-- A queued unit of a reel. -/
def queued (k u : Nat) : UnitRec :=
  { reel := k, unit := u, size := 3, regions := [0], damaged := false, content := { stride := 4096, frags := [(0, [1, 2, 3])], key := 0 } }

/-- A showing that wants the short reel, with some units queued on P0. -/
def fed (st : ShowState) (u : Nat) (units : List UnitRec) : State :=
  ({ showing st 0 u with wanted := [wantedShort], buffer := { live.buffer with pool := 32768 - units.length } }).setQueue (.pic 0) units

theorem witness_LeadFallOpensLane :
    let s := (fed .playing 1 [queued 0 1, queued 0 2]).setHold (.pic 0) { held := true, pace := 0, refresh := some 9, lead := 3000 }
    s.running = true ∧ s.timeline.state = .playing ∧ (s.hold (.pic 0)).held = true ∧
    (s.hold (.pic 0)).lead = s.leadNow (.pic 0) ∧ 0 < s.effLow (.pic 0) := by decide +kernel

theorem witness_PaceFollowsOutcome :
    AvLane.snd 0 ≠ .pic 0 ∧ (live.hold (.pic 0)).pace ≤ 1 ∧
    ((live.setHold (.pic 0) { LaneHold.reset with pace := 1 }).hold (.pic 0)).pace ≤ 1 := by decide +kernel

/-- A showing that wants the short reel, two of its units queued on P0, whose marks of picture lanes are low. -/
def lowMarks : State :=
  let s := fed .playing 1 [queued 0 1, queued 0 2]
  { s with mgmt := { s.mgmt with limits := { s.mgmt.limits with lowPic := 10, highPic := 100 } } }

theorem witness_PaceFollowsOutcome_settles :
    (lowMarks.holdMark (.pic 0) < lowMarks.leadNow (.pic 0) ∧ (live.hold (.pic 0)).lead ≤ live.holdMark (.pic 0)) ∧
    (let s := (fed .playing 1 [queued 0 1]).setHold (.pic 0) { held := true, pace := 0, refresh := some 9, lead := 3000 }
     (s.hold (.pic 0)).held = true ∧ s.leadNow (.pic 0) < s.effLow (.pic 0)) ∧
    (¬ (live.holdMark (.pic 0) < live.leadNow (.pic 0)) ∧ (live.hold (.pic 0)).held = false) ∧
    ((withReports 58).link.state = .up ∧ (withReports 58).link.queue.length ≤ 58) ∧
    ∃ row, (showing .playing 0 1).row 0 = some row :=
  ⟨by decide +kernel, by decide +kernel, by decide +kernel, by decide +kernel, _, rfl⟩

/-- R45 and R94: the release HOLD of a missing last sound instant carries the tag of the reel that then leaves. -/
theorem test_hold_before_removal :
    let reel : Reel := { shortReel with sounds := [{ lane := .snd 0, tag := 7, channels := 1, map := 0 }] }
    let s := ({ showing .playing 0 1 with
      timeline := { (showing .playing 1 1).timeline with table := reelTable 48000 [reel, testReel] },
      wanted := [{ wantedShort with reel := reel }] }).setHold (.snd 0)
        { held := true, pace := 0, refresh := some 9, lead := 0 }
    .hold (.snd 0) [7] 0 ∈ (soundInstant 0 3 s).link.queue := by decide +kernel

/-- The last second of the clock. -/
def lastSecond : TimeOfDay := { day := 65535, hour := 23, minute := 59, second := 59 }

theorem witness_SecondRollServed :
    (timeInRange noon = true ∧ noon ≠ lastSecond) ∧ timeInRange lastSecond = true ∧
    ({ live with resetPin := true }.powered = true ∧ { live with resetPin := true }.resetPin = true) ∧
    (live.powered = true ∧ live.resetPin = false ∧ 59 ≤ live.clock.now.second ∧ live.link.damage = 0 ∧ live.schedule.queue = [] ∧
      live.timeline.state ≠ .ready) ∧
    { live with clock := { live.clock with now := timeZero } }.clock.now.second < 59 ∧
    (let s := { live with
      mgmt := { live.mgmt with limits := { live.mgmt.limits with heartbeat := 5 } }, schedule := { queue := [], heartbeat := 4 } }
     s.mgmt.limits.heartbeat ≠ 0 ∧ s.mgmt.limits.heartbeat ≤ min 3600 (s.schedule.heartbeat + 1)) := by decide +kernel

/-- A part at a minute of day 812 with one schedule entry, due at 10:13:00. -/
def scheduled (s : State) (e : SchedEntry) (hour minute second : Nat) : State :=
  { s with schedule := { queue := [e], heartbeat := 0 }, clock := { s.clock with now := ⟨812, hour, minute, second⟩ } }

/-- The entry due at 10:13:00 on day 812. -/
def due : SchedEntry := { smallEntry with minute := 613 }

theorem witness_ScheduleHeadCheck :
    (scheduled ready due 10 23 1).schedule.queue = due :: [] ∧
    (let s := scheduled ready due 10 23 1
     entrySecs due + s.mgmt.limits.lateMinutes * 60 < s.nowSecs) ∧
    (let s := scheduled ready due 10 11 29
     s.nowSecs ≤ entrySecs due + s.mgmt.limits.lateMinutes * 60 ∧ s.nowSecs + s.mgmt.limits.cueAdvance < entrySecs due) ∧
    (let s := scheduled (showing .playing 0 1) due 10 11 30
     s.nowSecs ≤ entrySecs due + s.mgmt.limits.lateMinutes * 60 ∧ entrySecs due ≤ s.nowSecs + s.mgmt.limits.cueAdvance ∧
       s.timeline.state ≠ .idle) ∧
    (let s := scheduled ready due 10 23 0
     s.nowSecs ≤ entrySecs due + s.mgmt.limits.lateMinutes * 60 ∧ entrySecs due ≤ s.nowSecs + s.mgmt.limits.cueAdvance ∧
       s.timeline.state = .idle ∧ s.isAsserted .heartbeatLost = false ∧ startTests (s.headCall due) s = .ok (0, shortComp, some 4)) ∧
    (let s := scheduled live due 10 13 0
     startTests (s.headCall due) s = .error .notFound) ∧
    (let s := scheduled { ready with counting := live.counting } due 10 13 0
     startTests (s.headCall due) s = .error .noAllowance) ∧
    (let s := scheduled ({ ready with counting := { ready.counting with startup := .reading } }) due 10 13 0
     startTests (s.headCall due) s = .error .starting ∧ Reason.starting ≠ .notFound ∧ Reason.starting ≠ .noAllowance) := by
  refine ⟨by decide +kernel, by decide +kernel, by decide +kernel, by decide +kernel, ⟨by decide +kernel, by decide +kernel,
    by decide +kernel, by decide +kernel, rfl⟩, rfl, rfl, rfl, by decide, by decide⟩

/-- A store entry that owes a reply. -/
def owing : StoreEntry :=
  { kind := .allowance, record := none, place := some (4, openPlace.stored), marks := [],
    owed := some { code := 13, tag := 3, results := .allowanceLoaded 4 .opened 1 none } }

/-- A part that misses `due`, with a log and a store queue. -/
def missing (log : List LogRecord) (queue : List StoreEntry) : State :=
  let s := scheduled ready due 10 23 1
  { s with counting := { s.counting with log, queue, next := 9 } }

theorem witness_ScheduleHeadCheck_miss :
    (missing [openRec] (List.replicate 4 owing)).schedule.queue = due :: [] ∧
    ((missing [openRec] (List.replicate 4 owing)).logRoom = true ∧ (missing [openRec] (List.replicate 4 owing)).counting.queue.length < 5 ∧
      (missing [openRec] (List.replicate 4 owing)).counting.log.length < 512) ∧
    5 ≤ (missing [openRec] (List.replicate 5 owing)).counting.queue.length ∧
    (missing (List.replicate 512 openRec) []).logRoom = false ∧
    (let s := missing (List.replicate 512 { openRec with outcome := .completed, exported := true }) []
     s.logRoom = true ∧ s.counting.queue.length < 5 ∧ 512 ≤ s.counting.log.length ∧
       s.counting.log.find? LogRecord.exported = some { openRec with outcome := .completed, exported := true }) := by decide +kernel

theorem witness_HeartbeatTimer :
    (live.running = true ∧ live.mgmt.limits.heartbeat = 0) ∧
    (let s := { live with mgmt := { live.mgmt with limits := { live.mgmt.limits with heartbeat := 5 } } }
     s.running = true ∧ s.mgmt.limits.heartbeat ≠ 0) := by decide +kernel

theorem witness_GeneralRefusals :
    ((Instr.stop 3).command = some (24, 3) ∧ State.reset.running = true ∧ State.reset.counting.startup ≠ .complete) ∧
    (restarting.running = true ∧ restarting.counting.startup = .complete ∧ restarting.mgmt.restartPending = true) ∧
    live.serves = true ∧ ((0 : Byte).toNat = 0 ∧ 28 < (29 : Byte).toNat) ∧ ([] : List Byte).length < 3 ∧
    ([28, 0] : List Byte).length < 3 := by decide +kernel

theorem witness_ReadingCommandsReply :
    live.serves = true ∧ (1 ≤ 1 ∧ 16 ≤ 16) ∧ 26 ≤ 26 ∧ (0 = 0 ∧ 16 < 17) := by decide +kernel

/-- A part that has started up with its link DOWN. -/
def unlinked : State := { live with link := LinkPort.reset }

theorem witness_RestartWaitsForReply :
    (live.serves = true ∧ live.link.state = .up ∧ (acceptCommand live).link.queue.length < 64) ∧
    ((withReports 63).serves = true ∧ (acceptCommand (withReports 63)).link.queue.length < 64) ∧
    (unlinked.serves = true ∧ unlinked.link.state ≠ .up ∧ unlinked.link.holdsRestart = false) := by decide +kernel

theorem witness_SetClockSets :
    live.serves = true ∧ timeInRange lastSecond = true ∧ timeInRange { noon with hour := 24 } = false := by decide +kernel

theorem witness_SetLimitsInstalls :
    live.serves = true ∧ 18 < (List.replicate 19 (LimitArgs.mk 0 0)).length ∧
    (∃ a ∈ [LimitArgs.mk 18 0], 17 < a.number) ∧ ¬ (([⟨2, 0⟩, ⟨2, 1⟩] : List LimitArgs).map LimitArgs.number).Nodup ∧
    (let settings := (List.range 18).map (fun n => LimitArgs.mk n 0)
     settings ≠ [] ∧ settings.length ≤ 18 ∧ (∀ a ∈ settings, a.number ≤ 17) ∧ (settings.map LimitArgs.number).Nodup) ∧
    Limits.reset.inRange := by
  unfold Limits.inRange
  decide +kernel

theorem witness_SetLimitsInstalls_values :
    let settings : List LimitArgs := [⟨2, 500000⟩, ⟨17, 256⟩]
    (∀ a ∈ settings, a.number ≤ 17) ∧ (settings.map LimitArgs.number).Nodup ∧ (∀ a ∈ settings, a.number ≠ 3) ∧
    (∀ a ∈ settings, a.number ≠ 5) ∧ (∀ a ∈ settings, a.number ≠ 0) ∧ (∀ a ∈ settings, a.number ≠ 16) ∧
    (Limits.reset.apply settings).values[17]? = some 255 ∧ (Limits.reset.apply settings).values[3]? = some 576000 ∧
    Limits.reset.values[3]? = some 576000 := by decide +kernel

/-- The short reel without sound. -/
def muteReel : Reel := { shortReel with sounds := [] }

/-- A showing of that reel at its first unit, some of its units queued on P0, with a start mode and a cue timer. -/
def opening (st : ShowState) (mode : StartMode) (cueTimer : Nat) (units : List UnitRec) : State :=
  let s := fed st 0 units
  { s with
    timeline := { s.timeline with table := reelTable 48000 [muteReel], mode := some mode, cueTimer },
    wanted := [{ wantedShort with reel := muteReel }] }

/-- All four units of that reel. -/
def allUnits : List UnitRec := (List.range 4).map (queued 0)

/-- Limits with other timers and another warning. -/
def otherLimits : Limits := { Limits.reset with cueSeconds := 10, stallSeconds := 5, warn := 3 }

/-- What the leads come to as a part takes other limits. -/
def limited (s : State) : State := settleLeads s { s with mgmt := { s.mgmt with limits := otherLimits } }

/-- A STALLED showing at its second unit, with a stall timer. -/
def stalledFor (ticks : Nat) (units : List UnitRec) : State :=
  let s := opening .stalled .atOnce 0 units
  { s with timeline := { s.timeline with cursor := some { reel := 0, unit := 1, inGap := false }, p := 1000, stallTimer := some ticks } }

theorem witness_SetLimitsInstalls_owners :
    (ready.timeline.state ≠ .cueing ∧ ready.timeline.state ≠ .ready ∧ ready.timeline.state ≠ .stalled ∧
      otherLimits.warn ≠ ready.mgmt.limits.warn ∧ Limits.reset.warn = ready.mgmt.limits.warn ∧
      (ready.place 4).state = .opened ∧ (ready.place 4).record = some openAllowance) ∧
    ((limited (opening .cueing .atOnce 0 allUnits)).startMet = true ∧ (opening .cueing .atOnce 0 allUnits).startReached = true ∧
      (opening .cueing (.atTime lastSecond) 0 allUnits).startReached = false) ∧
    ((limited (opening .cueing .atOnce 0 [])).startMet = false ∧
      otherLimits.cueSeconds * 96000 < (opening .cueing .atOnce 960001 []).timeline.cueTimer ∧
      ¬ otherLimits.cueSeconds * 96000 < (opening .cueing .atOnce 960000 []).timeline.cueTimer) ∧
    ((limited (opening .ready (.atTime lastSecond) 0 allUnits)).startMet = true ∧
      (limited (opening .ready (.atTime lastSecond) 960001 [])).startMet = false) ∧
    ((limited (stalledFor 480001 (allUnits.drop 1))).resumeMet = true ∧ (limited (stalledFor 480001 [])).resumeMet = false ∧
      otherLimits.stallSeconds * 96000 < 480001 ∧ ¬ otherLimits.stallSeconds * 96000 < 480000) := by decide +kernel

/-- The bytes of the composition of `loadBytes` after its slot. -/
def compBytes : List Byte := loadBytes.drop 1

/-- The composition that those bytes carry. -/
def rawComp : RawComposition :=
  { ident := 7, title := [], reels :=
    [{ ident := 11, kind := 0, rate := 96, stereo := 0, dur := 4, entry := 1, hi := 0, pics := [(0, 0)], sounds := [], texts := [],
       marks := [], hold := 0 }] }

/-- Its reel. -/
def rawReels : List Reel := [{ shortReel with entry := 1, sounds := [] }]

theorem witness_LoadCompositionInstalls :
    live.serves = true ∧ takeNat 1 loadBytes = some (1, compBytes) ∧ (takeNat 1 (4 :: compBytes) = some (4, compBytes) ∧ 3 < 4) ∧
    takeComposition compBytes = some rawComp ∧ (1 : Nat) = (1 : Fin 4).val ∧
    ({ live with comps := live.comps.set 1 (.inUse shortComp) }.slotInUse 1 = true) ∧
    (live.slotInUse 1 = false ∧ { rawComp with ident := 0 }.inRange = false ∧ rawComp.inRange = true) ∧
    (reelsOf 0 (rawComp.reels.map (fun r => { r with dur := 1 })) = .error (.badArgument, 0)) ∧
    reelsOf 0 rawComp.reels = .ok rawReels ∧
    { live with comps := live.comps.set 0 (.loaded shortComp) }.heldElsewhere 1 7 = true ∧
    (let big := compositionOf 8 [] (List.replicate 64 shortReel)
     let s := { live with comps := (live.comps.set 0 (.loaded big)).set 2 (.loaded { big with ident := 9 }) }
     s.heldElsewhere 1 7 = false ∧ 128 < s.entriesOutside 1 + rawReels.length) ∧
    (live.heldElsewhere 1 7 = false ∧ live.entriesOutside 1 + rawReels.length ≤ 128) :=
  ⟨by decide +kernel, by decide +kernel, by decide +kernel, by decide +kernel, rfl, by decide +kernel, by decide +kernel, rfl, rfl,
    by decide +kernel, by decide +kernel, by decide +kernel⟩

theorem witness_LoadCompositionInstalls_short :
    takeNat 1 [] = none ∧ takeNat 1 (3 :: compBytes.take 11) = some (3, compBytes.take 11) ∧ 3 ≤ 3 ∧
    takeComposition (compBytes.take 11) = none := by decide +kernel

theorem witness_ClearSlotEmpties :
    live.serves = true ∧ 3 < 4 ∧ live.comps[(3 : Fin 4)] = .empty ∧ (showing .playing 0 1).comps[(0 : Fin 4)] = .inUse shortComp ∧
    ready.comps[(0 : Fin 4)] = .loaded shortComp ∧
    ∀ j : Fin 4, j ≠ 0 → (ready.comps[j].comp).map Composition.ident ≠ some shortComp.ident := by decide +kernel

/-- A routing of two channels of S0. -/
def twoRoutes : List RouteArgs := [⟨2, 0, 24⟩, ⟨2, 1, 255⟩]

/-- A table entry that cannot be read. -/
def badAction : ActionArgs := { smallAction with address := 0 }

theorem witness_TableCommandsInstall :
    live.serves = true ∧
    (allOf routeOf twoRoutes = some [((0 : Fin 4), 0, some 24), (0, 1, none)] ∧ twoRoutes.length ≤ 64 ∧
      (([((0 : Fin 4), 0, some 24), (0, 1, none)] : List (Fin 4 × Nat × Option Nat)).map (fun x => x.1.val * 16 + x.2.1)).Nodup) ∧
    (7 < 8 ∧ allOf routeOf [⟨0, 0, 0⟩] = none) ∧
    64 < 64 + [smallAction].length ∧
    ([smallAction, badAction] = [smallAction] ++ badAction :: [] ∧ 62 + [smallAction, badAction].length ≤ 64 ∧
      (∀ a ∈ [smallAction], (entryOf a).isSome = true) ∧ entryOf badAction = none) ∧
    ([smallAction] ≠ [] ∧ 63 + [smallAction].length ≤ 64) ∧
    (let bad : List MaskArgs := [⟨26, true, true⟩]
     let good : List MaskArgs := [⟨0, true, false⟩, ⟨25, false, true⟩]
     (∃ a ∈ bad, 25 < a.kind) ∧ good ≠ [] ∧ (∀ a ∈ good, a.kind ≤ 25) ∧ (good.map MaskArgs.kind).Nodup ∧
       ¬ ((good ++ good).map MaskArgs.kind).Nodup) := by decide +kernel

theorem witness_TableCommandsInstall_repeated :
    (∃ l, allOf routeOf [⟨2, 0, 0⟩, ⟨2, 0, 255⟩] = some l ∧ ¬ (l.map (fun x => (x.1, x.2.1))).Nodup) ∧
    64 < (List.replicate 65 (RouteArgs.mk 2 0 0)).length := ⟨⟨_, rfl, by decide +kernel⟩, by decide⟩

theorem witness_AllowanceCommandsQueueWrite :
    live.serves = true ∧ ready.serves = true ∧ 32 ≤ 32 ∧ allowanceInRange { smallAllowance with untilDay := 9 } = false ∧
    (live.place 31).record = none ∧
    (smallAllowance.index = (4 : Fin 32).val ∧ allowanceInRange smallAllowance = true ∧
      { ready with counting := { ready.counting with bound := some 4 } }.counting.bound = some 4) ∧
    (let s := { ready with counting := { ready.counting with queue := List.replicate 5 (storeEntry .creation) } }
     s.serves = true ∧ s.reserves 4 = false ∧ (s.place 4).record = some openAllowance ∧ openAllowance.revoked = false) ∧
    (let s := ready.setPlace 4 { openPlace with record := some { openAllowance with revoked := true } }
     s.serves = true ∧ (s.place 4).record = some { openAllowance with revoked := true }) ∧
    (let s := { ready with counting := { ready.counting with queue := List.replicate 4 (storeEntry .creation) } }
     s.serves = true ∧ s.reserves 4 = true ∧ (s.place 4).record = some openAllowance ∧ (s.place 4).record ≠ none ∧
       s.counting.bound ≠ some 4) := by decide +kernel

/-- A part with one closed and one open record in its log. -/
def logged (q : List StoreEntry) : State :=
  { live with counting := { live.counting with
    log := [{ openRec with outcome := .completed }, { openRec with number := 2, place := 1 }], queue := q } }

theorem witness_MarkExportedMarks :
    (logged []).serves = true ∧ 1 ≠ 0 ∧ (∃ r ∈ (logged []).counting.log, r.marks 1 = true) ∧ (logged []).reservesExport = true ∧
    (logged [storeEntry .marking]).reservesExport = false ∧ (∀ r ∈ live.counting.log, r.marks 1 = false) := by decide +kernel

theorem witness_ScheduleAddKeepsOrder :
    live.serves = true ∧ schedInRange { smallEntry with minute := 1440 } = false ∧ schedInRange smallEntry = true ∧
    { live with clock := Clock.reset }.clock.isSet = false ∧ live.clock.isSet = true ∧
    (∃ x ∈ (scheduled live smallEntry 10 0 0).schedule.queue, x.ident = smallEntry.ident) ∧
    ((∀ x ∈ live.schedule.queue, x.ident ≠ smallEntry.ident) ∧
      (let s := scheduled live smallEntry 11 50 1
       entrySecs smallEntry + s.mgmt.limits.lateMinutes * 60 < s.nowSecs) ∧
      (let s := scheduled live smallEntry 11 50 0
       s.nowSecs ≤ entrySecs smallEntry + s.mgmt.limits.lateMinutes * 60)) ∧
    16 ≤ { live with schedule := { queue := List.replicate 16 due, heartbeat := 0 } }.schedule.queue.length ∧
    { live with schedule := { queue := List.replicate 15 due, heartbeat := 0 } }.schedule.queue.length < 16 ∧
    inStartOrder (List.replicate 15 due) := by
  unfold inStartOrder
  decide +kernel

theorem witness_ScheduleCancelAndClear :
    (scheduled live smallEntry 10 0 0).serves = true ∧
    (∃ x ∈ (scheduled live smallEntry 10 0 0).schedule.queue, x.ident = 201) ∧
    (∀ x ∈ (scheduled live smallEntry 10 0 0).schedule.queue, x.ident ≠ 202) := by decide +kernel

theorem witness_StartTestedInOrder :
    State.reset.counting.startup ≠ .complete ∧
    ((showing .playing 0 1).counting.startup = .complete ∧ (showing .playing 0 1).timeline.state ≠ .idle) ∧
    (live.counting.startup = .complete ∧ live.timeline.state = .idle ∧ (startCallOf { smallStart with slot := 4 }).inRange = false) ∧
    (startCallOf smallStart).inRange = true ∧ { live with clock := Clock.reset }.clock.isSet = false ∧
    startTests (startCallOf smallStart) ready = .ok (0, shortComp, some 4) ∧ shortComp.feature = true ∧
    (let house := compositionOf 7 [] [testReel]
     let s := { live with comps := live.comps.set 0 (.loaded house) }
     startTests (startCallOf smallStart) s = .ok (0, house, none) ∧ house.feature = false) ∧
    live.serves = true ∧ ready.serves = true ∧ startTests (startCallOf smallStart) (acceptCommand live) = .error .notFound ∧
    startTests (startCallOf smallStart) (acceptCommand ready) = .ok (0, shortComp, some 4) :=
  ⟨by decide +kernel, by decide +kernel, by decide +kernel, by decide +kernel, by decide +kernel, rfl, by decide +kernel,
    ⟨rfl, by decide +kernel⟩, by decide +kernel, by decide +kernel, rfl, rfl⟩

theorem witness_StartTestedInOrder_late_tests :
    let a := startCallOf smallStart
    let fault := ready.setEvent .storeFault { EventRec.reset with asserted := true }
    let spent : State := { ready with counting := { ready.counting with next := 4294967296 } }
    let house := compositionOf 7 [] [testReel]
    (ready.counting.startup = .complete ∧ ready.timeline.state = .idle ∧ a.inRange = true ∧ ready.clock.isSet = true) ∧
    (fault.counting.startup = .complete ∧ fault.timeline.state = .idle ∧ fault.clock.isSet = true ∧ fault.isAsserted .storeFault = true) ∧
    (spent.isAsserted .storeFault = false ∧ spent.logRoom = false) ∧
    (live.isAsserted .storeFault = false ∧ live.logRoom = true ∧ ∀ i : Fin 4, a.slot = some i.val → live.comps[i] = .empty) ∧
    (ready.logRoom = true ∧ a.slot = some (0 : Fin 4).val ∧ ready.comps[(0 : Fin 4)] = .loaded shortComp ∧ shortComp.feature = true ∧
      ready.matchAllowance shortComp.ident a.allowance = some 4 ∧
      { ready with counting := live.counting }.matchAllowance shortComp.ident a.allowance = none) ∧
    house.feature = false := by decide +kernel

/-- A READY showing of the short reel whose live delay starts sound `x` ticks into it. -/
def soundingAt (x : Int) : State :=
  (fed .ready 0 allUnits).mapSound (fun d => { d with live := -x, cursor := some { reel := 0, unit := 0 } })

/-- A STALLED showing at the start of the gap before its second reel, whose first unit is queued. -/
def stalledAtGap : State :=
  let s := opening .stalled .atOnce 0 ((List.range 4).map (queued 1))
  let second : Reel := { testReel with sounds := [] }
  { s with
    timeline := { s.timeline with
      table := reelTable 48000 [muteReel, second], cursor := some { reel := 1, unit := 0, inGap := false }, p := 4000,
      stallTimer := some 0 },
    wanted := [{ wantedShort with index := 1, reel := second }] }

theorem witness_StartTestedInOrder_presentation :
    (let s := opening .cueing .atOnce 0 allUnits
     s.timeline.state = .cueing ∧ (settleLeads s s).startMet = true ∧ s.startReached = true ∧
       s.timeline.cursor = some { reel := 0, unit := 0, inGap := false } ∧
       ∃ row, s.row 0 = some row ∧ (0 : Int) ≤ shiftSamples s.sound.live row.reel.sampleTicks * row.reel.sampleTicks) ∧
    (let s := soundingAt 2000
     s.timeline.state = .ready ∧ s.startReached = true ∧ s.sound.pending = false ∧ s.sound.cursor = some { reel := 0, unit := 0 } ∧
       ∃ row, s.row 0 = some row ∧ shiftSamples s.sound.live row.reel.sampleTicks * row.reel.sampleTicks = -2000 ∧ row.reel.entry ≤ 0 ∧
         0 + 2 < row.reel.dur ∧ (row.instant (0 + 2) : Int) ≤ 2000 ∧ (2000 : Int) < (row.instant (0 + 2) : Int) + row.reel.ticks) ∧
    (let s := opening .cueing (.atTime lastSecond) 0 allUnits
     (settleLeads s s).startMet = true ∧ s.startReached = false) ∧
    (let s := opening .cueing .atOnce 0 []
     (settleLeads s s).startMet = false) ∧
    (let s := opening .ready (.atTime lastSecond) 0 allUnits
     s.timeline.state = .ready ∧ (settleLeads s s).startMet = true ∧ s.startReached = false ∧
       (opening .ready (.atTime noon) 0 allUnits).startReached = true) ∧
    (let s := opening .ready (.atTime lastSecond) 0 []
     (settleLeads s s).startMet = false) :=
  ⟨⟨by decide +kernel, by decide +kernel, by decide +kernel, by decide +kernel, _, rfl, by decide +kernel⟩,
   ⟨by decide +kernel, by decide +kernel, by decide +kernel, by decide +kernel, _, rfl, by decide +kernel, by decide +kernel,
    by decide +kernel, by decide +kernel, by decide +kernel⟩, by decide +kernel, by decide +kernel, by decide +kernel, by decide +kernel⟩

theorem witness_StartTestedInOrder_stalled :
    (let s := stalledFor 0 (allUnits.drop 1)
     s.timeline.state = .stalled ∧ (settleLeads s s).resumeMet = true ∧
       s.timeline.cursor = some { reel := 0, unit := 1, inGap := false } ∧
       ∃ row, s.row 0 = some row ∧ row.reel.entry < 1 ∧ row.instant 1 = s.timeline.p ∧
         row.instant 1 ≠ { s.timeline with p := 900 }.p) ∧
    (let s := stalledFor 0 []
     (settleLeads s s).resumeMet = false) ∧
    (stalledAtGap.timeline.state = .stalled ∧ (settleLeads stalledAtGap stalledAtGap).resumeMet = true ∧
      stalledAtGap.timeline.cursor = some { reel := 1, unit := 0, inGap := false } ∧
      ∃ row next, stalledAtGap.row 0 = some row ∧ stalledAtGap.row 1 = some next ∧ next.reel.entry = 0 ∧
        row.endTick = stalledAtGap.timeline.p ∧ 0 < next.gap) ∧
    (ready.timeline.state ≠ .ready ∧ ready.timeline.state ≠ .cueing ∧ ready.timeline.state ≠ .stalled) :=
  ⟨⟨by decide +kernel, by decide +kernel, by decide +kernel, _, rfl, by decide +kernel, by decide +kernel, by decide +kernel⟩,
   by decide +kernel, ⟨by decide +kernel, by decide +kernel, by decide +kernel, _, _, rfl, rfl, by decide +kernel, by decide +kernel,
    by decide +kernel⟩, by decide +kernel⟩

theorem witness_ShowingOpens :
    (∃ t, openShowing 0 shortComp none (startCallOf smallStart) ready = t) ∧ (some 4 : Option (Fin 32)) = some 4 ∧
    (openShowing 0 shortComp (some 4) (startCallOf smallStart) ready).counting.point = some 4 := ⟨⟨_, rfl⟩, rfl, by decide +kernel⟩

/-- An enabled POSITION entry at the end of the first reel, 5,000 ticks before it. -/
def cueEntry : ActionEntry :=
  { enabled := true, trigger := some (.position (.index 0) true (-5000)), message := ⟨12, 1, 30⟩, resolved := none, fired := true }

/-- The part ready to show with that entry in its table. -/
def readyToCue : State := { ready with actions := { ActionUnit.reset with table := ActionUnit.reset.table.set 7 cueEntry } }

theorem witness_ShowingOpens_wanted :
    (readyToCue.wanted = [] ∧ shortComp.reels = shortReel :: [testReel] ∧ shortReel.entry < shortReel.dur ∧ shortReel.pics ≠ [] ∧
      readyToCue.link.state = .up ∧ readyToCue.link.queue.length ≤ 40 ∧ (withReports 40).link.queue.length ≤ 40) ∧
    (readyToCue.actions.table[7].enabled = true ∧ readyToCue.actions.table[7].trigger = some (.position (.index 0) true (-5000)) ∧
      readyToCue.actions.table[8].enabled = false) ∧
    (let t := openShowing 0 shortComp (some 4) (startCallOf smallStart) readyToCue
     t.wanted.map (fun w => (w.index, w.bases.get (.pic 0), w.bases.get (.pic 1))) = [(0, some 0, none)] ∧
       t.link.queue = [.want 7 0 11 0 false] ∧ (t.actions.table[7].resolved, t.actions.table[7].fired) = (some 0, false)) := by
  decide +kernel

theorem witness_AllowanceMatchAndCountPoint :
    ready.matchesAt 7 4 = true ∧ (∀ j < (4 : Fin 32), ready.matchesAt 7 j = false) ∧ (∀ i, live.matchesAt 7 i = false) ∧
    (1 ≤ 1 ∧ 256 ≤ 256) ∧ (∀ r ∈ [shortReel], r.entry < r.dur) ∧ (compositionOf 7 [] [shortReel]).feature = true := by decide +kernel

/-- A showing bound to the allowance at index 4 with Q = 4 and an OPEN record. -/
def bound (presented : Nat) : State :=
  { showing .playing 0 3 with
    timeline := { (showing .playing 0 3).timeline with presented },
    counting := { ready.counting with bound := some 4, point := some 4, log := [openRec], next := 2 } }

theorem witness_AllowanceMatchAndCountPoint_charge :
    ((bound 3).counting.bound = some 4 ∧ (bound 3).counting.charged = false ∧
      (bound 3).counting.point = some ((bound 3).timeline.presented + 1)) ∧
    (bound 2).counting.point ≠ some ((bound 2).timeline.presented + 1) ∧ live.counting.bound = none ∧
    ((bound 3).openRecord = some openRec ∧ ((bound 3).place 4).record = some openAllowance ∧ (5 : Fin 32) ≠ 4) := by decide +kernel

theorem witness_AllowanceMatchAndCountPoint_states :
    let a := openAllowance
    (a.revoked = false ∧ (∀ n, a.allowed = some n → a.used < n) ∧ live.clock.isSet = true ∧ Clock.reset.isSet = false) ∧
    { a with revoked := true }.revoked = true ∧ ({ a with used := 3 }.allowed = some 3 ∧ 3 ≤ { a with used := 3 }.used) ∧
    (a.fromDay * 86400 + a.fromMinute * 60 ≤ live.nowSecs ∧ live.nowSecs < a.untilDay * 86400 + a.untilMinute * 60) ∧
    (812 * 86400 + 613 * 60 ≤ live.nowSecs ∧ live.nowSecs < 812 * 86400 + 614 * 60) := by
  refine ⟨⟨rfl, ?_, rfl, rfl⟩, rfl, by decide, by decide +kernel, by decide +kernel⟩
  intro n h; cases h; decide

theorem witness_PauseRules :
    ((showing .playing 0 1).serves = true ∧ (showing .playing 0 1).timeline.state = .playing ∧
      (showing .playing 0 1).instantDue = false) ∧
    ((showing .stalled 0 1).serves = true ∧ (showing .stalled 0 1).timeline.state = .stalled) ∧
    (live.serves = true ∧ live.timeline.state ≠ .playing ∧ live.timeline.state ≠ .stalled) := by decide +kernel

/-- A PAUSED showing of the short reel whose last unit, and only it, is still to come, queued on P0 or not, with an intermission timer. -/
def pausedAt (units : List UnitRec) : State :=
  let s := fed .paused 3 units
  { s with
    timeline := { s.timeline with table := reelTable 48000 [{ shortReel with sounds := [] }], intermission := some 5, p := 3000 },
    wanted := [{ wantedShort with reel := { shortReel with sounds := [] } }] }

theorem witness_ResumeFollowsLead :
    (live.serves = true ∧ live.timeline.state ≠ .paused) ∧
    (let s := pausedAt []
     s.timeline.state = .paused ∧ s.resumeMet = false ∧ s.serves = true ∧ s.running = true ∧ s.timeline.intermission.isSome = true) ∧
    (let s := pausedAt [queued 0 3]
     s.timeline.state = .paused ∧ s.resumeMet = true ∧ s.serves = true ∧ s.running = true ∧
       s.timeline.intermission.isSome = true) := by decide +kernel

theorem witness_ClosingLeaves :
    (∃ t, enterClosing .stopped (showing .playing 0 1) = t) ∧ 63 < 64 := ⟨⟨_, rfl⟩, by decide⟩

/-- A reel with a CLOSED track on T0. -/
def closedTrack : TextTrack := { lane := .txt 0, tag := 0, opened := false, cueRate := 24, language := 5 }
def closedReel : Reel := { shortReel with texts := [closedTrack] }

/-- A showing of that reel with S0 HELD, a caption message waiting and one going out. -/
def captioned : State :=
  let s := fed .playing 1 [queued 0 1]
  { s with
    timeline := context .playing [closedReel] 0 1,
    cues := { s.cues with inView := some 0, queue := [.clear 0 9], line := .sending (.clear 0 8) },
    holds := s.holds.set (.snd 0) { LaneHold.reset with held := true } }

theorem witness_ClosingLeaves_reports :
    (captioned.link.state = .up ∧ captioned.link.queue.length ≤ 40 ∧ captioned.wanted.length ≤ 2) ∧ wantedShort ∈ captioned.wanted ∧
    (captioned.hold (.snd 0)).held = true ∧ captioned.closedInView = [0] ∧
    (enterClosing .stopped captioned).cues.queue = [.clearAll 0] := by decide +kernel

theorem witness_StopClosesAtOnce :
    (live.serves = true ∧ live.timeline.state = .idle) ∧
    ((showing .closing 0 1).serves = true ∧ (showing .closing 0 1).timeline.state = .closing) ∧
    ((showing .cueing 0 1).serves = true ∧ (showing .cueing 0 1).timeline.state ≠ .idle ∧
      (showing .cueing 0 1).timeline.state ≠ .closing) := by decide +kernel

/-- A showing of the short FEATURE reel with an interval running and `next` still to come. -/
def between (u : Nat) (next : Option Cursor) (reels : List Reel) (change : Timeline → Timeline) : State :=
  let s := showing .playing 0 u
  { s with timeline := change { context .playing reels 0 u with
      cursor := next, interval := some { reel := 0, unit := u }, p := 1000 * u } }

theorem witness_LimitsAndEndClose :
    ((showing .cueing 0 1).running = true ∧ (showing .cueing 0 1).timeline.state = .cueing) ∧
    (live.running = true ∧ live.timeline.state ≠ .cueing ∧ live.timeline.state ≠ .stalled) ∧
    ((showing .stalled 0 1).running = true ∧ (showing .stalled 0 1).timeline.state = .stalled) ∧
    (let s := between 3 none [shortReel] id
     s.running = true ∧ s.timeline.state = .playing ∧ s.timeline.cursor = none ∧ s.timeline.interval = some { reel := 0, unit := 3 } ∧
       ∃ row, s.row 0 = some row ∧ s.timeline.p ≤ row.instant 3 + row.reel.ticks) :=
  ⟨by decide +kernel, by decide +kernel, by decide +kernel, by decide +kernel, by decide +kernel, by decide +kernel, by decide +kernel,
    _, rfl, by decide +kernel⟩

theorem witness_UnitDueAnswers :
    live.queue (.pic 0) = [] ∧
    ((fed .playing 1 [queued 0 1, queued 0 2]).queue (.pic 0) = queued 0 1 :: [queued 0 2] ∧ (queued 0 1).reel = 0 ∧
      (queued 0 1).unit = 1) ∧
    (0 < (queued 0 1).reel ∨ (queued 0 1).reel = 0 ∧ 0 < (queued 0 1).unit) ∧
    ((fed .playing 1 [queued 0 0, queued 0 1]).queue (.pic 0) = [queued 0 0] ++ queued 0 1 :: [] ∧
      ∀ b ∈ [queued 0 0], b.reel < 0 ∨ b.reel = 0 ∧ b.unit < 1) ∧ Lane.snd 0 ≠ .pic 0 := by decide +kernel

theorem witness_UnitDueAnswers_deadline :
    (assembling []).base 1 (.pic 0) = none ∧ ((assembling []).base 0 (.pic 0) = some 1 ∧ 0 < 1 ∧ 1 ≤ 1) ∧
    ((assembling [fullSlot 1, fullSlot 2]).laneSlots (.pic 0)).filter
      (fun x => decide (x.reel = 0) && decide (1 ≤ x.unit) && decide (x.unit ≤ 1)) = [fullSlot 1] := by decide +kernel

theorem witness_PictureInstantDecides :
    (let s := fed .playing 1 [queued 0 1]
     s.running = true ∧ s.timeline.state = .playing ∧ s.timeline.cursor = some { reel := 0, unit := 1, inGap := false } ∧
       s.timeline.interval = none ∧
       ∃ row, s.row 0 = some row ∧ s.timeline.p ≤ row.instant 1 ∧
         (pictureDue 0 0 1 (reachTick (row.instant 1) s)).1 = some (queued 0 1) ∧ (queued 0 1).damaged = false ∧ row.reel.stereo = false) ∧
    (let s := fed .playing 1 []
     ∃ row, s.row 0 = some row ∧ s.passes (pictureDue 0 0 1 (reachTick (row.instant 1) s)).1 = false) :=
  ⟨⟨by decide +kernel, by decide +kernel, by decide +kernel, by decide +kernel, _, rfl, by decide +kernel, by decide +kernel,
    by decide +kernel, by decide +kernel⟩, _, rfl, by decide +kernel⟩

/-- A stereo FEATURE reel at 48 pictures a second. -/
def stereoReel : Reel := { shortReel with rate := 48, stereo := true, pics := [{ lane := .pic 0, tag := 0 }, { lane := .pic 1, tag := 1 }] }

/-- A showing of that reel at unit 1 with some units queued on P0 and P1, one presented unit short of Q. -/
def stereoAt (left right : List UnitRec) : State :=
  let s := showing .playing 0 1
  let t := context .playing [stereoReel] 0 1
  ({ s with
    timeline := t,
    counting := { ready.counting with bound := some 4, point := some 1, log := [openRec], next := 2 } }.setQueue (.pic 0) left).setQueue
      (.pic 1) right

theorem witness_PictureInstantDecides_stereo :
    (let s := stereoAt [queued 0 1] [queued 0 1]
     s.running = true ∧ s.timeline.interval = none ∧ s.counting.bound = some 4 ∧ s.counting.charged = false ∧
       s.counting.point = some (s.timeline.presented + 1) ∧ (s.place 4).record = some openAllowance ∧
       ∃ row, s.row 0 = some row ∧ row.reel.stereo = true ∧ row.reel.kind = .feature ∧ s.timeline.p ≤ row.instant 1 ∧
         s.passes (pictureDue 0 0 1 (reachTick (row.instant 1) s)).1 = true ∧
         s.passes (pictureDue 1 0 1 (pictureDue 0 0 1 (reachTick (row.instant 1) s)).2).1 = true) ∧
    (let s := stereoAt [queued 0 1] []
     ∃ row, s.row 0 = some row ∧ s.passes (pictureDue 0 0 1 (reachTick (row.instant 1) s)).1 = true ∧
       s.passes (pictureDue 1 0 1 (pictureDue 0 0 1 (reachTick (row.instant 1) s)).2).1 = false) :=
  ⟨⟨by decide +kernel, by decide +kernel, by decide +kernel, by decide +kernel, by decide +kernel, by decide +kernel, _, rfl,
    by decide +kernel, by decide +kernel, by decide +kernel, by decide +kernel, by decide +kernel⟩, _, rfl, by decide +kernel,
    by decide +kernel⟩

/-- The cursor at a unit of the short composition. -/
def at_ (k u : Nat) : Cursor := { reel := k, unit := u, inGap := false }

theorem witness_UnitIntervalEnds :
    (let s := between 2 (some (at_ 0 3)) [shortReel, testReel] (fun t => { t with pausePending := true })
     s.running = true ∧ s.timeline.state = .playing ∧ s.timeline.interval = some { reel := 0, unit := 2 } ∧
       s.timeline.cursor = some (at_ 0 3) ∧ s.timeline.pausePending = true ∧
       ∃ row, s.row 0 = some row ∧ 2 + 1 < row.reel.dur ∧ s.timeline.p ≤ row.instant 2 + row.reel.ticks) ∧
    (let s := between 2 (some (at_ 0 3)) [shortReel, testReel] (fun t => { t with missing := 12 })
     s.timeline.pausePending = false ∧ 12 ≤ s.timeline.missing ∧
       ∃ row, s.row 0 = some row ∧ (reachTick (row.instant 2 + row.reel.ticks) s).resumeMet = false) ∧
    (let s := between 2 (some (at_ 0 3)) [shortReel, testReel] (fun t => { t with missing := 11 })
     s.timeline.pausePending = false ∧ s.timeline.missing < 12) :=
  ⟨⟨by decide +kernel, by decide +kernel, by decide +kernel, by decide +kernel, by decide +kernel, _, rfl, by decide +kernel,
    by decide +kernel⟩, ⟨by decide +kernel, by decide +kernel, _, rfl, by decide +kernel⟩, by decide +kernel⟩

/-- A PLAYING showing of the short reel without sound at the end of its unit 2's interval, its last unit queued on P0. -/
def stalling : State :=
  let s := pausedAt [queued 0 3]
  { s with timeline := { s.timeline with
      state := .playing, interval := some { reel := 0, unit := 2 }, missing := 12, intermission := none } }

theorem witness_UnitIntervalEnds_resumes :
    stalling.running = true ∧ stalling.timeline.state = .playing ∧ stalling.timeline.interval = some { reel := 0, unit := 2 } ∧
    stalling.timeline.cursor = some { reel := 0, unit := 2 + 1, inGap := false } ∧ stalling.timeline.pausePending = false ∧
    12 ≤ stalling.timeline.missing ∧
    ∃ row, stalling.row 0 = some row ∧ 2 + 1 < row.reel.dur ∧ row.reel.entry ≤ 2 ∧ stalling.timeline.p ≤ row.instant 2 + row.reel.ticks ∧
      (reachTick (row.instant 2 + row.reel.ticks) stalling).resumeMet = true :=
  ⟨by decide +kernel, by decide +kernel, by decide +kernel, by decide +kernel, by decide +kernel, by decide +kernel, _, rfl,
    by decide +kernel, by decide +kernel, by decide +kernel, by decide +kernel⟩

/-- The short reel again, as a second reel without a gap before it. -/
def secondReel : Reel := { shortReel with ident := 14 }

theorem witness_PauseRules_instants :
    (let s := between 2 (some (at_ 0 3)) [shortReel, secondReel] (fun t => { t with p := 3000, missing := 11 })
     s.serves = true ∧ s.timeline.state = .playing ∧ s.timeline.interval = some { reel := 0, unit := 2 } ∧
       s.timeline.cursor = some { reel := 0, unit := 2 + 1, inGap := false } ∧ s.timeline.pausePending = false ∧
       s.timeline.missing < 12 ∧
       ∃ row, s.row 0 = some row ∧ 2 + 1 < row.reel.dur ∧ row.reel.entry ≤ 2 ∧ s.timeline.p = row.instant 2 + row.reel.ticks) ∧
    (let s := between 3 (some (at_ 1 0)) [shortReel, secondReel] (fun t => { t with p := 4000, missing := 11 })
     s.serves = true ∧ s.timeline.state = .playing ∧ s.timeline.interval = some { reel := 0, unit := 3 } ∧
       s.timeline.cursor = some (at_ 1 0) ∧ (at_ 1 0).inGap = false ∧ s.timeline.pausePending = false ∧ s.timeline.missing < 12 ∧
       ∃ row next, s.row 0 = some row ∧ s.row 1 = some next ∧ row.reel.dur ≤ 3 + 1 ∧ row.reel.kind ≠ .intermission ∧
         next.gap = 0 ∧ s.timeline.p = row.instant 3 + row.reel.ticks ∧ next.instant 0 ≤ s.timeline.p) :=
  ⟨⟨by decide +kernel, by decide +kernel, by decide +kernel, by decide +kernel, by decide +kernel, by decide +kernel, _, rfl,
    by decide +kernel, by decide +kernel, by decide +kernel⟩,
   ⟨by decide +kernel, by decide +kernel, by decide +kernel, by decide +kernel, by decide +kernel, by decide +kernel, by decide +kernel,
    _, _, rfl, rfl, by decide +kernel, by decide +kernel, by decide +kernel, by decide +kernel, by decide +kernel⟩⟩

theorem witness_ReelBoundaries :
    (let s := between 3 (some (at_ 1 0)) [breakReel, testReel] id
     s.running = true ∧ s.timeline.state = .playing ∧ s.timeline.interval = some { reel := 0, unit := 3 } ∧
       s.timeline.cursor = some (at_ 1 0) ∧
       ∃ row next, s.row 0 = some row ∧ s.row 1 = some next ∧ row.reel.dur ≤ 3 + 1 ∧
         s.timeline.p ≤ row.instant 3 + row.reel.ticks ∧ row.reel.kind = .intermission) ∧
    (let s := between 3 (some (at_ 1 0)) [shortReel, testReel] id
     s.timeline.pausePending = false ∧ s.timeline.missing < 12 ∧
       ∃ row next, s.row 0 = some row ∧ s.row 1 = some next ∧ row.reel.kind ≠ .intermission ∧ 0 < next.gap ∧
         formatsDiffer row.reel next.reel = true) ∧
    (let s := between 3 (some { at_ 1 0 with inGap := true }) [shortReel, testReel] (fun t => { t with interval := none })
     s.timeline.cursor = some { at_ 1 0 with inGap := true } ∧ s.timeline.pausePending = false ∧
       ∃ row, s.row 1 = some row ∧ s.timeline.p ≤ row.start) :=
  ⟨⟨by decide +kernel, by decide +kernel, by decide +kernel, by decide +kernel, _, _, rfl, rfl, by decide +kernel, by decide +kernel,
    by decide +kernel⟩, ⟨by decide +kernel, by decide +kernel, _, _, rfl, rfl, by decide +kernel, by decide +kernel, by decide +kernel⟩,
    by decide +kernel, by decide +kernel, _, rfl, by decide +kernel⟩

/-- A gapless boundary into a reel of one unit, behind which a reel of another rate follows. -/
theorem witness_ReelBoundaries_one_unit :
    let one : Reel := { secondReel with dur := 1 }
    let s := between 3 (some (at_ 1 0)) [shortReel, one, testReel] id
    s.running = true ∧ s.timeline.interval = some { reel := 0, unit := 3 } ∧ s.timeline.cursor = some (at_ 1 0) ∧
    (s.row 0).map (fun r => r.reel.framePeriod) = (s.row 1).map (fun r => r.reel.framePeriod) ∧
    gives .unitIntervalEnd s (fun t => decide (t.expectedPeriod = 800)) = true := by decide +kernel

theorem witness_ReelBoundaries_gapless :
    (let s := between 3 (some (at_ 1 0)) [shortReel, secondReel] id
     s.running = true ∧ s.timeline.state = .playing ∧ s.timeline.interval = some { reel := 0, unit := 3 } ∧
       s.timeline.cursor = some (at_ 1 0) ∧ (at_ 1 0).inGap = false ∧ s.timeline.pausePending = false ∧ s.timeline.missing < 12 ∧
       ∃ row next, s.row 0 = some row ∧ s.row 1 = some next ∧ row.reel.dur ≤ 3 + 1 ∧ row.reel.kind ≠ .intermission ∧
         next.gap = 0 ∧ s.timeline.p ≤ row.instant 3 + row.reel.ticks) ∧
    (let s := between 3 (some (at_ 1 0)) [shortReel, testReel] (fun t => { t with table := reelTable 0 [shortReel, testReel] })
     ∃ row next, s.row 0 = some row ∧ s.row 1 = some next ∧ next.gap = 0 ∧ row.reel.framePeriod ≠ next.reel.framePeriod) ∧
    (let s := between 3 (some { at_ 1 0 with inGap := true }) [shortReel, testReel] (fun t =>
       { t with interval := none, pausePending := true })
     s.running = true ∧ s.timeline.state = .playing ∧ s.timeline.cursor = some { at_ 1 0 with inGap := true } ∧
       s.timeline.pausePending = true ∧ ∃ row, s.row 1 = some row ∧ s.timeline.p ≤ row.start) :=
  ⟨⟨by decide +kernel, by decide +kernel, by decide +kernel, by decide +kernel, by decide +kernel, by decide +kernel, by decide +kernel,
    _, _, rfl, rfl, by decide +kernel, by decide +kernel, by decide +kernel, by decide +kernel⟩,
   ⟨_, _, rfl, rfl, by decide +kernel, by decide +kernel⟩,
   by decide +kernel, by decide +kernel, by decide +kernel, by decide +kernel, _, rfl, by decide +kernel⟩

theorem witness_HeldPictureSentAgain :
    ((showing .paused 0 1).running = true ∧ (showing .paused 0 1).timeline.state = .paused ∧
      ∃ row, (showing .paused 0 1).currentRow = some row) ∧
    (showing .stalled 0 1).timeline.state = .stalled :=
  ⟨⟨by decide +kernel, by decide +kernel, _, rfl⟩, by decide +kernel⟩

theorem witness_SoundInstantTaken :
    (let s := showing .playing 0 1
     s.running = true ∧ s.timeline.state = .playing ∧ s.sound.cursor = some { reel := 0, unit := 0 } ∧ s.sound.pending = false ∧
       ∃ row, s.row 0 = some row ∧ row.reel.sounds ≠ []) ∧
    (let s := (showing .playing 0 1).mapSound (fun d => { d with staged := 6263, pending := true })
     s.sound.pending = true ∧ s.inGap = false ∧
       0 < shiftSamples s.sound.staged (s.sampleTicksAt 0) - shiftSamples s.sound.live (s.sampleTicksAt 0)) :=
  ⟨⟨by decide +kernel, by decide +kernel, by decide +kernel, by decide +kernel, _, rfl, by decide +kernel⟩, by decide +kernel⟩

/-- The end of the gap before the second reel of the short composition, where P stands at that reel's start. -/
def gapOver : State :=
  let s := showing .playing 1 0
  { s with timeline := { s.timeline with cursor := some { reel := 1, unit := 0, inGap := true }, p := 52000 } }

theorem witness_PauseRules_gap :
    gapOver.serves = true ∧ gapOver.timeline.state = .playing ∧ gapOver.timeline.pausePending = false ∧
    gapOver.timeline.cursor = some { reel := 1, unit := 0, inGap := true } ∧
    ∃ row, gapOver.row 1 = some row ∧ row.reel.entry = 0 ∧ row.start = gapOver.timeline.p :=
  ⟨by decide +kernel, by decide +kernel, by decide +kernel, by decide +kernel, _, rfl, by decide +kernel, by decide +kernel⟩

/-- R84: a PAUSE at the tick of a gap's end pauses at the end of the interval that the reel's first instant begins. -/
theorem test_pause_at_gap_end : gives (.pause 1) gapOver (fun t => decide (t.timeline.state = .playing) &&
    t.timeline.pausePending && decide (t.timeline.interval = some { reel := 1, unit := 0 })) = true := by decide +kernel

/-- A showing whose live delay of 2,000 ticks is to become another one, reel 0 sounding. -/
def delaying (staged : Int) : State :=
  (showing .playing 0 1).mapSound (fun d => { d with live := 2000, offset := 2000, staged, pending := true, reel := some 0 })

theorem witness_SoundInstantTaken_changes :
    ((delaying 2000).sound.pending = true ∧ (delaying 2000).inGap = false ∧
      shiftSamples (delaying 2000).sound.staged ((delaying 2000).sampleTicksAt 0) -
        shiftSamples (delaying 2000).sound.live ((delaying 2000).sampleTicksAt 0) = 0) ∧
    (shiftSamples (delaying 0).sound.staged ((delaying 0).sampleTicksAt 0) -
        shiftSamples (delaying 0).sound.live ((delaying 0).sampleTicksAt 0) = -1000 ∧ (delaying 0).sampleTicksAt 0 = 2 ∧
      (delaying 0).sound.reel = some 0 ∧ (delaying 0).sound.cursor = some { reel := 0, unit := 0 } ∧
      ∃ row, (delaying 0).row 0 = some row ∧ row.reel.entry ≤ 0 ∧ 0 + 2 < row.reel.dur ∧
        (row.instant (0 + 2) : Int) ≤ (row.instant 0 : Int) - (-1000) * 2 ∧
        (row.instant 0 : Int) - (-1000) * 2 < (row.instant (0 + 2) : Int) + row.reel.ticks) ∧
    ((shortReel.sounds.map SoundGroup.lane).Nodup ∧ (showing .playing 0 1).sound.reel ≠ some 0 ∧
      ∀ g ∈ shortReel.sounds, g.lane ≠ .snd 1) ∧
    ((delaying 0).lastOn 0 [] = none ∧
      (delaying 0).lastOn 0 [{ reel := 0, unit := 0 }, { reel := 0, unit := 1 }] = some { reel := 0, unit := 1 }) :=
  ⟨by decide +kernel, ⟨by decide +kernel, by decide +kernel, by decide +kernel, by decide +kernel, _, rfl, by decide +kernel,
    by decide +kernel, by decide +kernel, by decide +kernel⟩, by decide +kernel, by decide +kernel⟩

/-- The sound group of the short reel. -/
def oneGroup : SoundGroup := { lane := .snd 0, tag := 0, channels := 1, map := 0 }

/-- A showing in which S0 sounds a unit on the output 3. -/
def sounding : State :=
  (showing .playing 0 1).mapSound (fun d => { d with
    plays := d.plays.set 0 (some
      { reel := 0, unit := 0, channels := 1, size := 1500, content := (queued 0 0).content, silent := false }),
    routing := d.routing.set 0 (some [{ lane := 0, channel := 0, output := 3 }]) })

theorem witness_SoundInstantTaken_lanes :
    (oneGroup.lane = .snd 0 ∧
      (let s := (showing .playing 0 1).setQueue (.snd 0) [{ queued 0 0 with size := 1500 }]
       ∃ q, (unitDue (.snd 0) 0 0 (deadline (.snd 0) 0 0 s)).1 = some q ∧ q.damaged = false ∧ q.size = groupBytes shortReel oneGroup) ∧
      (unitDue (.snd 0) 0 0 (deadline (.snd 0) 0 0 (showing .playing 0 1))).1 = none) ∧
    (live.timeline.state ≠ .playing ∧ (sounding.timeline.state = .playing ∧ sounding.inGap = false) ∧
      (∀ (i : Fin 4) (p : SoundPlay), live.sound.plays[i] = some p → p.silent = true)) ∧
    sounding.sound.plays[(1 : Fin 4)] = none ∧
    (∃ p row, sounding.sound.plays[(0 : Fin 4)] = some p ∧ sounding.row p.reel = some row ∧
      sounding.sound.routing[(0 : Fin 4)] = some [{ lane := 0, channel := 0, output := 3 }] ∧ 0 < p.channels ∧
      0 ≤ (sounding.timeline.p : Int) - sounding.sound.offset - (row.instant p.unit : Int) ∧
      (sounding.timeline.p : Int) - sounding.sound.offset - (row.instant p.unit : Int) < row.reel.ticks ∧
      sounding.lastCut row p.unit ((sounding.timeline.p : Int) - sounding.sound.offset - (row.instant p.unit : Int)) = false) := by
  refine ⟨⟨rfl, ⟨_, rfl, by decide +kernel, by decide +kernel⟩, by decide +kernel⟩, ⟨by decide +kernel, by decide +kernel, ?_⟩,
    by decide +kernel, _, _, rfl, rfl, rfl, by decide +kernel, by decide +kernel, by decide +kernel, by decide +kernel⟩
  intro i p h
  have h0 : ∀ i : Fin 4, live.sound.plays[i] = none := by decide +kernel
  rw [h0 i] at h
  cases h

theorem witness_SyncCommands :
    live.serves = true ∧ ((-24000 : Int) ≤ 24000 ∧ (24000 : Int) ≤ 24000) ∧ ((-24001 : Int) < -24000 ∨ (24000 : Int) < 24001) ∧
    (let s := (showing .playing 0 1).mapSync (fun y => { y with armed := true })
     s.serves = true ∧ s.sync.armed = true) ∧
    (live.sync.armed = false ∧ live.timeline.state = .idle) ∧
    (let s := showing .playing 0 1
     s.serves = true ∧ s.sync.armed = false ∧ s.timeline.state ≠ .idle ∧ s.timeline.state ≠ .closing ∧ s.checkTarget = some 1) ∧
    (between 1 (some (at_ 0 2)) [shortReel] id).checkTarget = none := by decide +kernel

/-- A pair record of a mark with counts and a validity. -/
def pairRec (p e : Option CapCount) (validity : Option Validity) : PairRec :=
  { mark := 3, light := p, echo := e, flashWidth := none, echoWidth := none, delay := 0, validity }

/-- A VALID one with the difference `d`. -/
def validPair (d : Nat) : PairRec := pairRec (some (.ticks (1000 + d))) (some (.ticks 1000)) (some .valid)

/-- A showing of the second reel with an ARMED check, some pair records, and a count for the last mark that runs or not. -/
def checking (runs : Bool) (pairs : List PairRec) : State :=
  (showing .playing 1 3).mapSync (fun y => { y with
    armed := true, target := some 1, auto := true, pairs,
    light := if runs then { mode := .markDelay, state := .counting, count := .ticks 7, judged := false } else channelIn .off })

theorem witness_SyncCommands_marks :
    ((∃ row, (checking false []).row 1 = some row ∧ row.reel.kind = .test ∧ row.reel.marks.contains 3 = true) ∧
      (checking false []).sync.armed = true ∧ (checking false []).sync.target = some 1 ∧ (checking false []).sync.marking = false ∧
      live.sync.armed = false) ∧
    ((checking true [validPair 1, pairRec none none none]).sync.marking = true ∧
      (checking true [validPair 1, pairRec none none none]).sync.pairs = [validPair 1] ++ [pairRec none none none] ∧
      (pairRec none none none).validity = none ∧ (checking true [pairRec none none (some .missing)]).sync.marking = true ∧
      (pairRec none none (some .missing)).validity ≠ none) ∧
    (let s := (checking false [validPair 1]).mapSound (fun d => { d with staged := 5, pending := true })
     s.sound.staged ≠ s.sound.live ∧ s.sync.armed = true) := by
  refine ⟨⟨⟨_, rfl, ?_, ?_⟩, ?_⟩, ?_, ?_⟩ <;> decide +kernel

theorem witness_SyncCommands_results :
    ((validPair 6250).difference = some 6250 ∧ (pairRec (some (.ticks 5)) (some .noEdge) (some .noEdge)).difference = none) ∧
    ((checking false [validPair 1, validPair 2]).sync.pairs.filterMap PairRec.difference).length < 3 ∧
    (let s := checking false [validPair 1, validPair 2, pairRec none none none, validPair 4]
     let diffs := s.sync.pairs.filterMap PairRec.difference
     diffs = [1, 2, 4] ∧ 3 ≤ diffs.length ∧ max (-24000) (min 24000 (s.sound.live + 2)) = s.sound.live + 2) ∧
    (let s := (checking false (List.replicate 3 (validPair 2))).mapSound (fun d => { d with live := 23999 })
     3 ≤ (s.sync.pairs.filterMap PairRec.difference).length ∧ max (-24000) (min 24000 (s.sound.live + 2)) ≠ s.sound.live + 2) ∧
    (let diffs := (checking false [validPair 1, validPair 1, validPair 2, validPair 2]).sync.pairs.filterMap PairRec.difference
     2 * (diffs.sum - 1 * diffs.length).natAbs = diffs.length) := by decide +kernel

/-- A part whose LIGHT and ECHO count for a mark and whose FRAME counts in a mode. -/
def counting (m : CapMode) : State :=
  live.mapSync (fun y => { y with
    light := { mode := .markDelay, state := .counting, count := .ticks 7, judged := false },
    echo := { mode := .markDelay, state := .counting, count := .ticks 7, judged := false },
    frame := { mode := m, state := .counting, count := .ticks 9, judged := false } })

theorem witness_CaptureChannels :
    (counting .period).running = true ∧
    (counting .period).sync.light = { mode := .markDelay, state := .counting, count := .ticks 7, judged := false } ∧
    (counting .period).sync.echo = { mode := .markDelay, state := .counting, count := .ticks 7, judged := false } ∧
    (counting .period).sync.finishDue = false ∧ (counting .period).sync.light.mode = .markDelay ∧
    (counting .period).sync.light.state = .counting ∧ (counting .period).sync.frame.state = .counting ∧
    (counting .period).sync.frame.judged = false ∧ (counting .period).sync.frame.mode = .period ∧
    (counting .lowWidth).sync.frame.mode ≠ .period := by decide +kernel

/-- Where the next unit to release is of a reel with another expected period: none, the 96 mono reel's after the last unit, and the
120 mono reel's from the last instant of the first reel on. -/
theorem witness_CaptureChannels_reels :
    (let s := between 3 (some (at_ 1 0)) [shortReel, testReel] id
     s.timeline.cursor = some (at_ 1 0) ∧ (s.row 1).map ReelRow.reel = some testReel ∧ s.expectedPeriod = 800) ∧
    (let s := between 3 none [shortReel] id
     s.timeline.cursor = none ∧ s.timeline.interval = some { reel := 0, unit := 3 } ∧ (s.row 0).map ReelRow.reel = some shortReel ∧
       s.expectedPeriod = 1000) := by decide +kernel

/-- R108: at the last instant of a reel the count that runs is given up where the next reel has another expected period, and only there. -/
theorem test_frame_at_last_instant :
    let s (u : Nat) := (showing .playing 0 u).mapSync (fun y => { y with
      frame := { mode := .period, state := .counting, count := .ticks 9, judged := false } })
    gives .pictureReleaseInstant (s 3) (fun t => decide (t.sync.frame = channelIn .period)) = true ∧
    gives .pictureReleaseInstant (s 2) (fun t => decide (t.sync.frame = (s 2).sync.frame)) = true := by decide +kernel

/-- R122: no list is sent at reset and in CLOSING, and one without entries, the byte 0, in a frame without an OPEN track. -/
theorem test_overlay_lists :
    State.reset.projectorOverlay = none ∧
    gives .pictureReleaseInstant (showing .playing 0 2) (fun t => decide (t.projectorOverlay = some [0])) = true ∧
    gives (.stop 3) (showing .playing 0 1) (fun t => decide (t.projectorOverlay = none)) = true := by decide +kernel

/-- A PLAYING showing whose FRAME has counted `n` ticks in PERIOD; the expected period is 1,000. -/
def framed (n bad good : Nat) : State :=
  (between 1 (some (at_ 0 2)) [shortReel] id).mapSync (fun y => { y with
    frame := { mode := .period, state := .counting, count := .ticks n, judged := false }, bad, good })

theorem witness_CaptureChannels_period :
    ((framed 1015 0 15).running = true ∧ (framed 1015 0 15).timeline.interval = some { reel := 0, unit := 1 } ∧
      (framed 1015 0 15).expectedPeriod = 1000) ∧
    (1015 ≤ 1000 + 1000 / 64 ∧ 1000 ≤ 985 + 1000 / 64 ∧ ¬ 1016 ≤ 1000 + 1000 / 64 ∧ ¬ 1000 ≤ 984 + 1000 / 64) ∧
    (15 ≤ (framed 985 0 15).sync.good ∧ (framed 985 0 14).sync.good < 15 ∧ 3 ≤ (framed 1016 3 0).sync.bad ∧
      (framed 984 2 0).sync.bad < 3) := by decide +kernel

/-- A part with a caption line and a booth line in some state. -/
def lines (c : Line CaptionMsg) (cq : List CaptionMsg) (b : Line Message) (bq : List Message) (full : Bool) : State :=
  let s := { live with cues := { live.cues with line := c, queue := cq }, actions := { live.actions with line := b, queue := bq } }
  if full then s.setEvent .actionOverflow { EventRec.reset with asserted := true } else s

theorem witness_SerialLinesProceed :
    (let s := lines (.sending (.clear 2 213)) [] (.sending ⟨12, 1, 30⟩) [] false
     s.running = true ∧ s.cues.line = .sending (.clear 2 213) ∧ s.actions.line = .sending ⟨12, 1, 30⟩) ∧
    (let s := lines .spacing [] .spacing [] false
     s.cues.line = .spacing ∧ s.cues.queue = [] ∧ s.actions.line = .spacing ∧ s.actions.queue = []) ∧
    (let s := lines .spacing [.clear 2 213] .spacing [⟨12, 1, 30⟩] false
     s.cues.queue = .clear 2 213 :: [] ∧ s.actions.queue = ⟨12, 1, 30⟩ :: [] ∧ s.isAsserted .actionOverflow = false) ∧
    (let s := lines .spacing [.clear 2 213, .clear 2 214] .spacing [⟨12, 1, 30⟩] true
     s.running = true ∧ s.cues.queue = .clear 2 213 :: [.clear 2 214] ∧ [CaptionMsg.clear 2 214] ≠ [] ∧ s.actions.line = .spacing ∧
       s.actions.queue = [⟨12, 1, 30⟩] ∧ s.isAsserted .actionOverflow = true ∧
       (s.actions.triggered (.event EventKind.actionOverflow.num false)).length ≤ 16) := by decide +kernel

theorem witness_StoreWriteEnds :
    (let s := writing [storeEntry .creation]
     s.running = true ∧ s.counting.queue = storeEntry .creation :: [] ∧ (storeEntry .creation).kind = .creation ∧
       (storeEntry .creation).owed = none) ∧
    ((writing [owing]).counting.queue = owing :: [] ∧ owing.kind = .allowance ∧
      owing.owed = some { code := 13, tag := 3, results := .allowanceLoaded 4 .opened 1 none }) ∧
    (let s := { showing .closing 0 1 with counting := (writing [storeEntry .close]).counting }
     s.running = true ∧ s.counting.queue = storeEntry .close :: [] ∧ (storeEntry .close).kind = .close ∧
       (storeEntry .close).record = some openRec ∧ s.timeline.slot = some 0 ∧ s.comps[(0 : Fin 4)] = .inUse shortComp) := by
  decide +kernel

theorem witness_StoreWriteEnds_reconciliation :
    (writing [storeEntry .reconciliation]).running = true ∧
    (writing [storeEntry .reconciliation]).counting.queue = storeEntry .reconciliation :: [] ∧
    (storeEntry .reconciliation).kind = .reconciliation := by decide +kernel

theorem witness_StoreWriteContents :
    (owing.place = some (4, openPlace.stored) ∧ (4 : Fin 32) ≠ 5 ∧ owing.marks = [] ∧ owing.record = none) ∧
    ((storeEntry .creation).marks = [] ∧ (storeEntry .creation).record = some openRec) := by decide +kernel

/-- A part that reads its store at start-up, with some records in it. -/
def starting (log : List LogRecord) : State := { State.reset with store := { NvStore.blank with log, next := 9, fresh := false } }

theorem witness_StartupReadEnds :
    ((starting [{ openRec with outcome := .completed }]).running = true ∧
      (starting [{ openRec with outcome := .completed }]).counting.startup = .reading ∧
      ∀ r ∈ (starting [{ openRec with outcome := .completed }]).store.log, r.outcome ≠ .opened) ∧
    ((starting [openRec]).counting.startup = .reading ∧
      (starting [openRec]).store.log.find? (fun x => decide (x.outcome = .opened)) = some openRec) := by decide +kernel

/-- A part that reconciles an OPEN record, its stored and its volatile place as given. -/
def reconciling (used : Nat) : State :=
  { live with
    counting := { ready.counting with startup := .reconciling, log := [openRec] },
    store := { NvStore.blank with
      allowances := NvStore.blank.allowances.set 4 { record := some { openAllowance with used := used }, serial := 1 }
      log := [openRec]
      fresh := false } }

theorem witness_StartupReadEnds_places :
    ((reconciling 0).openRecord = some openRec ∧ openRec.charged = false ∧ openRec.allowance = some (4 : Fin 32).val ∧
      (reconciling 0).store.allowances[(4 : Fin 32)].record = some openAllowance ∧ openAllowance.comp = openRec.comp ∧
      openRec.serialAtOpen = some (reconciling 0).store.allowances[(4 : Fin 32)].serial ∧ openRec.usedAtOpen = some openAllowance.used ∧
      (reconciling 0).counting.startup = .reconciling) ∧
    ((reconciling 1).openRecord = some openRec ∧
      ∀ (i : Fin 32) (a : Allowance), (reconciling 1).store.allowances[i].record = some a → openRec.usedAtOpen ≠ some a.used) ∧
    (∀ r ∈ live.counting.log, r.outcome ≠ .opened) := by
  refine ⟨by decide +kernel, ⟨by decide +kernel, ?_⟩, by decide +kernel⟩
  have h : ∀ i : Fin 32, (reconciling 1).store.allowances[i].record = none ∨
      (reconciling 1).store.allowances[i].record = some { openAllowance with used := 1 } := by decide +kernel
  intro i a ha
  rcases h i with h0 | h0 <;> rw [h0] at ha <;> cases ha
  decide

/-- R144: the used showings of the stored place are raised by 1, whatever an earlier reconciliation left in the volatile one. -/
theorem test_reconciliation_raises_the_stored_count :
    let s := (reconciling 0).setPlace 4 { openPlace with record := some { openAllowance with used := 1 } }
    ((reconcileNext s).place 4).record = some { openAllowance with used := 1 } := by decide +kernel

theorem witness_EventRecordsFollow :
    (heldAt 0 true).isAsserted .bufferFull = true ∧ live.isAsserted .bufferFull = false ∧
    EventKind.bufferFull ≠ .actionOverflow ∧ EventKind.stall ≠ .bufferFull := by decide +kernel

/-- A part with an entry that STALL fires and an entry whose tick is 500, and some messages waiting for the booth line. -/
def acting (n : Nat) (line : Line Message) : State :=
  let on (t : Trigger) (tick : Option Nat) : ActionEntry :=
    { enabled := true, trigger := some t, message := ⟨12, 1, 30⟩, resolved := tick, fired := false }
  { live with actions := { ActionUnit.reset with
      table := (ActionUnit.reset.table.set 7 (on (.event 6 true) none)).set 9 (on (.position (.index 0) false 500) (some 500)),
      queue := List.replicate n ⟨12, 1, 30⟩, line } }

theorem witness_EventRecordsFollow_messages :
    ((acting 15 .spacing).actions.queue.length + ((acting 15 .spacing).actions.triggered (.event 6 true)).length ≤ 16 ∧
      (acting 0 .idle).actions.queue = []) ∧
    (16 ≤ (acting 16 .spacing).actions.queue.length ∧ (acting 16 .spacing).actions.triggered (.event 6 true) ≠ []) ∧
    (acting 15 .spacing).actions.queue.length + (((acting 15 .spacing).actions.table.toList.filter (fun e =>
      e.enabled && !e.fired && (e.resolved.map (fun n => decide (n ≤ 500))).getD false)).map ActionEntry.message).length ≤ 16 := by
  decide +kernel

theorem witness_CueTablesBounded :
    ((live.cueTable 0).length ≤ 384 ∧ textInUse (live.cueTable 0) ≤ 65536) ∧
    (let s := live.setCueTable 0 [cueTwelve, { cueTwelve with number := 213 }]
     ((s.cueTable 0).map CueEntry.number).Nodup) := by decide +kernel

/-- A CLOSED cue of reel 0 from tick 1,000 to tick 2,000. -/
def closedCue (number : Nat) (attempted : Bool) : CueEntry :=
  { cueTwelve with reel := 0, opened := false, number, tin := 1000, tout := 2000, text := [], attempted }

/-- A part with those cues on T0, in view of two reels that share a cue number, and some messages waiting for the caption line. -/
def cued (n : Nat) : State :=
  let s := { showing .playing 0 1 with cues := { live.cues with queue := List.replicate n (.clear 0 9), line := .spacing } }
  s.setCueTable 0 [closedCue 5 false, { closedCue 5 false with reel := 1 }]

theorem witness_CueTablesBounded_frames :
    ((((cued 0).cueTable 0).filter (fun e => decide (e.reel = 0))).map CueEntry.number).Nodup ∧
    (¬ (((cued 0).cueTable 0).map CueEntry.number).Nodup) ∧ (∃ row, (cued 0).row 0 = some row ∧ 0 = row.start) ∧
    ((cued 29).cues.queue.length + ([.track 0 5, .clear 0 4, .showCue 0 5 []] : List CaptionMsg).length ≤ 32 ∧
      announced 0 1000 0 (closedCue 5 false) = true ∧ announced 0 999 0 (closedCue 5 false) = false ∧
      announced 0 1999 0 (closedCue 5 false) = true ∧ announced 0 2000 0 (closedCue 5 false) = false) :=
  ⟨by decide +kernel, by decide +kernel, ⟨_, rfl, by decide +kernel⟩, by decide +kernel⟩

/-- A part with its first reel begun and P at a tick, and with some cues on T0. -/
def cueTable (p : Nat) (cues : List CueEntry) : State :=
  let s := { showing .playing 0 1 with cues := { live.cues with begun := [0] } }
  ({ s with timeline := { s.timeline with p } }).setCueTable 0 cues

theorem witness_CueTablesBounded_accepts :
    let e := closedCue 5 false
    (∃ x ∈ (cueTable 0 [e]).cueTable 0, x.reel = e.reel ∧ x.number = e.number) ∧
    ((¬ ∃ x ∈ (cueTable 2000 []).cueTable 0, x.reel = e.reel ∧ x.number = e.number) ∧ e.reel ∈ (cueTable 2000 []).cues.begun ∧
      e.tin ≤ (cueTable 2000 []).timeline.p ∧ e.tout ≤ (cueTable 2000 []).timeline.p) ∧
    (¬ e.tout ≤ (cueTable 1999 []).timeline.p ∧ e.tin ≤ (cueTable 1000 []).timeline.p ∧ ¬ e.tin ≤ (cueTable 999 []).timeline.p) ∧
    384 ≤ (List.replicate 384 (closedCue 6 false)).length ∧
    (let cues := [{ e with number := 7, text := List.replicate 10 0#8 }]
     65536 < textInUse cues + 65527 ∧ ¬ 65536 < textInUse cues + 65526) := by decide +kernel

/-- A record of a cue. -/
def rawCue (number timeIn timeOut : Nat) (text : List Byte) : RawCue :=
  { number, timeIn, timeOut, fadeIn := 0, fadeOut := 0, region := 9, lines := 0, text }

/-- The row of the closed reel, whose four frames take 4,000 ticks, and its track at 250 cue ticks a second, 384 show ticks each. -/
def closedRow : ReelRow := { reel := closedReel, start := 0, gap := 0 }
def slowTrack : TextTrack := { closedTrack with cueRate := 250 }

theorem witness_CueTablesBounded_reads :
    (¬ ((rawCue 1 1 2 (List.replicate 480 0#8)).number = 0 ∨ 480 < (rawCue 1 1 2 (List.replicate 480 0#8)).text.length)) ∧
    480 < (rawCue 1 1 2 (List.replicate 481 0#8)).text.length ∧ (rawCue 0 1 2 []).number = 0 ∧ (rawCue 1 2 2 []).timeOut ≤ 2 ∧
    (let place (n : Nat) : Int := (closedRow.start : Int) + n * (96000 / slowTrack.cueRate) - closedRow.reel.entry * closedRow.reel.ticks
     place 0 ≤ closedRow.start ∧ (closedRow.endTick : Int) ≤ place 11 ∧
       ¬ (place 2 ≤ closedRow.start ∨ (closedRow.endTick : Int) ≤ place 10)) ∧
    (0 ∈ { live.cues with ended := [0] }.ended ∧ 0 ∉ live.cues.ended) := by decide +kernel

/-- A text unit with some bytes. -/
def textUnit (damaged : Bool) (bytes : List Byte) : UnitRec :=
  { queued 0 0 with damaged, size := bytes.length, content := { stride := 4096, frags := [(0, bytes)], key := 0 } }

theorem witness_CueTablesBounded_blocks :
    (textUnit true [1, 0]).damaged = true ∧
    ((textUnit false [1, 0]).damaged = false ∧ (captioned.row (textUnit false [1, 0]).reel).isSome = true ∧
      closedReel.textOn 0 = some closedTrack ∧ takeNat 2 (textUnit false [1, 0]).content.bytes = some (1, [])) ∧
    takeCue [] = none ∧ ((takeCue ([5, 0] ++ List.replicate 40 0)).isSome = true) := by decide +kernel

/-- The reset state meets the invariants, and an idle step from it answers a next state. -/
theorem witness_invariants : State.reset.totalBlocks = 32768 ∧ State.reset.sound.live = 0 ∧ State.reset.counting.queue = [] ∧
    (∀ i, (State.reset.place i).record = none) ∧ (after (step State.reset)).isSome = true := by decide +kernel

theorem witness_BlocksConservedByStep : State.reset.blocksConserved ∧ ∃ t, step State.reset = .next t :=
  ⟨⟨by decide +kernel, fun l => by cases l <;> rename_i i <;> revert i <;> unfold State.slotsDistinct <;> decide +kernel⟩, _, rfl⟩

theorem witness_DelaysStayInRange :
    (live.mapSound (fun d => { d with live := -24000, staged := 24000 })).delaysInRange ∧
    ∃ t, step (live.mapSound (fun d => { d with live := -24000, staged := 24000 })) = .next t :=
  ⟨by unfold State.delaysInRange; decide +kernel, _, rfl⟩

theorem witness_UsedShowingsWithinLimits :
    (starting []).reconciliationsKept ∧ ready.reconciliationsKept ∧ ready.usedWithinLimits ∧ ready.counting.startup = .complete ∧
    ∃ t, step ready = .next t ∧ t.counting.startup = .complete := by
  refine ⟨by unfold State.reconciliationsKept; decide +kernel, by unfold State.reconciliationsKept; decide +kernel, ?_,
    by decide +kernel, _, rfl, by decide +kernel⟩
  intro i a n h hn
  have h4 : ∀ i : Fin 32, (ready.place i).record = none ∨ (ready.place i).record = some openAllowance := by decide +kernel
  rcases h4 i with h0 | h0
  · rw [h0] at h; cases h
  · rw [h0] at h
    cases h
    cases hn
    decide +revert

end Sys2Proof.Tests
end

/-! PROOF. CLEAR_SLOT (R58), SCHEDULE_CANCEL and SCHEDULE_CLEAR (R63): what each body does once the command has been accepted. -/

namespace Sys2Proof.Machine

/-! ## Accepting a command -/

/-- A part that executes commands runs the body of a general-tested command on the accepted state. -/
theorem whenRunning_manage_of_serves {s : State} (h : s.serves = true) (code tag : Nat) (body : State → State) :
    whenRunning (manage code tag body) s = body (acceptCommand s) := by
  rw [whenRunning_of_running (State.serves_running h), manage_of_serves h]

@[simp] theorem acceptCommand_comps (s : State) : (acceptCommand s).comps = s.comps := (acceptCommand_reports s).comps_eq

@[simp] theorem acceptCommand_schedule (s : State) :
    (acceptCommand s).schedule = { s.schedule with heartbeat := 0 } := (acceptCommand_reports s).schedule_eq

/-- Replacing the schedule queue of an accepted state keeps the heartbeat timer that acceptance has restarted. -/
theorem setSchedule_acceptCommand (s : State) (q : List SchedEntry) :
    (acceptCommand s).setSchedule q = { acceptCommand s with schedule := { queue := q, heartbeat := 0 } } := by
  simp [State.setSchedule]

/-! ## Composition slots -/

@[simp] theorem slotIndex_val (i : Fin 4) : slotIndex i.val = some i := by simp [slotIndex]

theorem slotIndex_of_gt {n : Nat} (h : 3 < n) : slotIndex n = none := by
  simp [slotIndex, Nat.not_lt.mpr h]

/-- The reel entries that a slot holds (section 4.1). -/
def Slot.entryCount (c : Slot) : Nat := (c.comp.map (fun x => x.reels.length)).getD 0

@[simp] theorem Slot.entryCount_empty : Slot.empty.entryCount = 0 := rfl
@[simp] theorem Slot.entryCount_loaded (c : Composition) : (Slot.loaded c).entryCount = c.reels.length := rfl

theorem State.entriesInUse_eq_sum (s : State) : s.entriesInUse = (s.comps.toList.map Slot.entryCount).sum := by
  rw [List.sum_eq_foldl]; rfl

/-- Replacing an element of a list exchanges its part of a sum. -/
theorem sum_map_set_add {α : Type} (f : α → Nat) (a : α) :
    ∀ (l : List α) (i : Nat) (h : i < l.length), ((l.set i a).map f).sum + f l[i] = (l.map f).sum + f a
  | b :: l, 0, _ => by simp; omega
  | b :: l, i + 1, h => by
    have ih := sum_map_set_add f a l i (by simpa using h)
    simp only [List.set_cons_succ, List.map_cons, List.sum_cons, List.getElem_cons_succ]
    omega

/-- Replacing a slot exchanges its reel entries in the number in use. -/
theorem entriesInUse_set_add (s : State) (i : Fin 4) (c : Slot) :
    ({ s with comps := s.comps.set i c } : State).entriesInUse + s.comps[i].entryCount = s.entriesInUse + c.entryCount := by
  have h := sum_map_set_add Slot.entryCount c s.comps.toList i.val (by simp)
  simpa [State.entriesInUse_eq_sum, Vector.toList_set] using h

/-- An identity that no slot holds is found in none. -/
theorem slotOf_eq_none {s : State} {ident : Nat} (h : ∀ j : Fin 4, (s.comps[j].comp).map Composition.ident ≠ some ident) :
    s.slotOf ident = none := by
  refine List.find?_eq_none.mpr fun j _ => ?_
  have hj := h j
  cases hc : s.comps[j].comp with
  | none => simp
  | some c =>
    rw [hc] at hj
    simpa using hj

/-- An identity that one slot alone holds is found in none once that slot is emptied. -/
theorem slotOf_set_empty {s : State} {i : Fin 4} {ident : Nat}
    (h : ∀ j : Fin 4, j ≠ i → (s.comps[j].comp).map Composition.ident ≠ some ident) :
    ({ s with comps := s.comps.set i .empty } : State).slotOf ident = none := by
  refine slotOf_eq_none fun j => ?_
  by_cases hj : j = i
  · subst hj; simp [Slot.comp]
  · have hne : i.val ≠ j.val := fun e => hj (Fin.ext e.symm)
    simpa [Vector.getElem_set, hne] using h j hj

/-! ## CLEAR_SLOT -/

/-- The state after CLEAR_SLOT names slot `i`, by what the slot holds (R58). -/
def clearSlotAt (tag : Nat) (i : Fin 4) (s : State) : Slot → State
  | .empty => refuse 9 tag .notFound s
  | .inUse _ => refuse 9 tag .busy s
  | .loaded c =>
    let s1 := { s with comps := s.comps.set i .empty }
    reply 9 tag (.slotCleared c.ident c.title s1.entriesInUse) s1

theorem exec_clearSlot_of_gt {s : State} (h : s.serves = true) (tag : Nat) {slot : Nat} (hs : 3 < slot) :
    exec (.clearSlot tag slot) s = .next (refuse 9 tag .badArgument (acceptCommand s)) := by
  change Host.Outcome.next (whenRunning (serveClearSlot tag slot) s) = _
  rw [serveClearSlot, whenRunning_manage_of_serves h, slotIndex_of_gt hs]

theorem exec_clearSlot_of_serves {s : State} (h : s.serves = true) (tag : Nat) (i : Fin 4) :
    exec (.clearSlot tag i.val) s = .next (clearSlotAt tag i (acceptCommand s) s.comps[i]) := by
  change Host.Outcome.next (whenRunning (serveClearSlot tag i.val) s) = _
  rw [serveClearSlot, whenRunning_manage_of_serves h, slotIndex_val, ← acceptCommand_comps s]
  dsimp only
  cases hc : (acceptCommand s).comps[i] <;> rfl

/-- Settles O29: the refusals by the slot named, and the LOADED slot emptied with its entries given back. -/
theorem clearSlotEmpties : Obligations.ClearSlotEmpties := by
  unfold Obligations.ClearSlotEmpties
  intro tag s hs
  refine ⟨fun slot hslot => exec_clearSlot_of_gt hs tag hslot, ?_, ?_, ?_⟩
  · intro i hi
    rw [exec_clearSlot_of_serves hs, hi]; rfl
  · intro i c hi
    rw [exec_clearSlot_of_serves hs, hi]; rfl
  · intro i c hi
    refine ⟨?_, ?_, slotOf_set_empty⟩
    · rw [exec_clearSlot_of_serves hs, hi]
      simp [clearSlotAt, State.entriesInUse_eq_sum]
    · have hsum := entriesInUse_set_add s i .empty
      rw [hi, Slot.entryCount_loaded, Slot.entryCount_empty] at hsum
      omega

/-! ## SCHEDULE_CANCEL and SCHEDULE_CLEAR -/

theorem exec_scheduleCancel_of_serves {s : State} (h : s.serves = true) (tag ident : Nat) :
    exec (.scheduleCancel tag ident) s = .next (
      if s.schedule.queue.any (fun x => decide (x.ident = ident)) then
        reply 19 tag .nothing { acceptCommand s with schedule :=
          { queue := s.schedule.queue.filter (fun x => decide (x.ident ≠ ident)), heartbeat := 0 } }
      else refuse 19 tag .notFound (acceptCommand s)) := by
  change Host.Outcome.next (whenRunning (serveScheduleCancel tag ident) s) = _
  rw [serveScheduleCancel, whenRunning_manage_of_serves h, setSchedule_acceptCommand, acceptCommand_schedule]

theorem exec_scheduleClear_of_serves {s : State} (h : s.serves = true) (tag : Nat) :
    exec (.scheduleClear tag) s = .next (reply 20 tag (.schedCleared s.schedule.queue.length)
      { acceptCommand s with schedule := { queue := [], heartbeat := 0 } }) := by
  change Host.Outcome.next (whenRunning (serveScheduleClear tag) s) = _
  rw [serveScheduleClear, whenRunning_manage_of_serves h, setSchedule_acceptCommand, acceptCommand_schedule]

/-- Settles O34: SCHEDULE_CANCEL by whether the queue holds the identity, and SCHEDULE_CLEAR without a test. -/
theorem scheduleCancelAndClear : Obligations.ScheduleCancelAndClear := by
  unfold Obligations.ScheduleCancelAndClear
  intro tag s hs
  refine ⟨fun ident hheld => ?_, fun ident hfree => ?_, exec_scheduleClear_of_serves hs tag⟩
  · have hany : s.schedule.queue.any (fun x => decide (x.ident = ident)) = true := by simpa using hheld
    rw [exec_scheduleCancel_of_serves hs, if_pos hany]
  · have hany : ¬ s.schedule.queue.any (fun x => decide (x.ident = ident)) = true := by simpa using hfree
    rw [exec_scheduleCancel_of_serves hs, if_neg hany]

end Sys2Proof.Machine

/-! PROOF. STOP (R88): where it is accepted, and what entering CLOSING does to the Timeline and to the charge (R90). -/

namespace Sys2Proof.Machine

/-! ## The Timeline and the Showing Counter under the operations of CLOSING -/

theorem contentFrom.timeline_eq {u t : State} (h : contentFrom u t) : t.timeline = u.timeline := by
  rw [show t = _ from h]

theorem contentFrom.counting_eq {u t : State} (h : contentFrom u t) : t.counting = u.counting := by
  rw [show t = _ from h]

@[simp] theorem acceptCommand_timeline (s : State) : (acceptCommand s).timeline = s.timeline :=
  (acceptCommand_reports s).timeline_eq

@[simp] theorem acceptCommand_counting (s : State) : (acceptCommand s).counting = s.counting :=
  (acceptCommand_reports s).counting_eq

@[simp] theorem enqueueStore_timeline (e : StoreEntry) (s : State) : (enqueueStore e s).timeline = s.timeline := rfl

@[simp] theorem enqueueStore_charged (e : StoreEntry) (s : State) :
    (enqueueStore e s).counting.charged = s.counting.charged := rfl

@[simp] theorem unresolveActions_timeline (s : State) : (unresolveActions s).timeline = s.timeline := rfl
@[simp] theorem unresolveActions_counting (s : State) : (unresolveActions s).counting = s.counting := rfl
@[simp] theorem closeSound_timeline (s : State) : (closeSound s).timeline = s.timeline := rfl
@[simp] theorem closeSound_counting (s : State) : (closeSound s).counting = s.counting := rfl
@[simp] theorem queueClosingReports_timeline (s : State) : (queueClosingReports s).timeline = s.timeline := rfl
@[simp] theorem queueClosingReports_counting (s : State) : (queueClosingReports s).counting = s.counting := rfl

@[simp] theorem purgeLanes_timeline (s : State) : (purgeLanes s).timeline = s.timeline := (purgeLanes_content s).timeline_eq
@[simp] theorem purgeLanes_counting (s : State) : (purgeLanes s).counting = s.counting := (purgeLanes_content s).counting_eq
@[simp] theorem cueClosing_timeline (s : State) : (cueClosing s).timeline = s.timeline := (cueClosing_content s).timeline_eq
@[simp] theorem cueClosing_counting (s : State) : (cueClosing s).counting = s.counting := (cueClosing_content s).counting_eq

@[simp] theorem retuneFrame_timeline (s : State) : (retuneFrame s).timeline = s.timeline := by
  unfold retuneFrame; split <;> rfl

@[simp] theorem retuneFrame_counting (s : State) : (retuneFrame s).counting = s.counting := by
  unfold retuneFrame; split <;> rfl

/-- Entering a state changes nothing of the Timeline but the state itself. -/
@[simp] theorem enterState_timeline (st : ShowState) (s : State) :
    (enterState st s).timeline = { s.timeline with state := st } := by
  simp [enterState]

@[simp] theorem enterState_counting (st : ShowState) (s : State) : (enterState st s).counting = s.counting := by
  simp [enterState]

@[simp] theorem stageDelay_timeline (n : Int) (s : State) : (stageDelay n s).timeline = s.timeline := by
  unfold stageDelay
  dsimp only
  split <;> simp

@[simp] theorem stageDelay_counting (n : Int) (s : State) : (stageDelay n s).counting = s.counting := by
  unfold stageDelay
  dsimp only
  split <;> simp

@[simp] theorem finishCheck_timeline (s : State) : (finishCheck s).timeline = s.timeline := by
  simp [finishCheck, apply_ite State.timeline]

@[simp] theorem finishCheck_counting (s : State) : (finishCheck s).counting = s.counting := by
  simp [finishCheck, apply_ite State.counting]

@[simp] theorem checkClosing_timeline (s : State) : (checkClosing s).timeline = s.timeline := by
  unfold checkClosing; split <;> simp

@[simp] theorem checkClosing_counting (s : State) : (checkClosing s).counting = s.counting := by
  unfold checkClosing; split <;> simp

/-- The whole Timeline on entry to CLOSING (R90). -/
@[simp] theorem enterClosing_timeline (o : ShowOutcome) (s : State) :
    (enterClosing o s).timeline = { s.timeline.closing o with state := .closing } := by
  simp [enterClosing, queueClose]

/-- Closing queues the close entry and takes no charge (R90, R133). -/
@[simp] theorem enterClosing_charged (o : ShowOutcome) (s : State) :
    (enterClosing o s).counting.charged = s.counting.charged := by
  simp [enterClosing, queueClose]

/-! ## STOP -/

theorem exec_stop_of_serves {s : State} (h : s.serves = true) (tag : Nat) :
    exec (.stop tag) s = .next (
      if s.timeline.state = .idle ∨ s.timeline.state = .closing then refuse 24 tag .badState (acceptCommand s)
      else reply 24 tag .nothing (enterClosing .stopped (acceptCommand s))) := by
  change Host.Outcome.next (whenRunning (serveStop tag) s) = _
  rw [serveStop, whenRunning_manage_of_serves h, acceptCommand_timeline]
  cases s.timeline.state <;> rfl

/-- Settles O41: STOP by the showing state, and the CLOSING of an accepted one read off the Timeline that closing leaves. -/
theorem stopClosesAtOnce : Obligations.StopClosesAtOnce := by
  unfold Obligations.StopClosesAtOnce
  intro tag s hs
  refine ⟨fun hrefused => ?_, fun hidle hclosing => ⟨enterClosing .stopped (acceptCommand s), ?_, rfl, ?_⟩⟩
  · rw [exec_stop_of_serves hs, if_pos hrefused]
  · rw [exec_stop_of_serves hs, if_neg (not_or.mpr ⟨hidle, hclosing⟩)]
  · simp [Timeline.closing]

end Sys2Proof.Machine

/-! PROOF. The reset cause record (R167): what each kind of reset writes, and what READ_STATUS (R161) and READ_COUNTERS (R163) carry. -/

namespace Sys2Proof.Machine

/-! ## The record that a reset writes -/

@[simp] theorem Management.afterReset_cause (m : Management) (cause : ResetCause) : (m.afterReset cause).cause = cause := rfl

@[simp] theorem Management.afterReset_unread (m : Management) (cause : ResetCause) : (m.afterReset cause).unread = true := rfl

/-- Power-on starts the count of resets again. -/
@[simp] theorem Management.afterReset_resets_powerOn (m : Management) : (m.afterReset .powerOn).resets = 0 := rfl

/-- A RESET_LINE or a RESTART is counted, up to the largest value of the count. -/
theorem Management.afterReset_resets_of_ne_powerOn {cause : ResetCause} (h : cause ≠ .powerOn) (m : Management) :
    (m.afterReset cause).resets = min 255 (m.resets + 1) := by
  cases cause with
  | powerOn => exact absurd rfl h
  | resetLine => rfl
  | restart => rfl

/-- Of the Management block before a reset, only the count of resets bears on the block after it. -/
@[simp] theorem resetTo_mgmt (cause : ResetCause) (s : State) : (resetTo cause s).mgmt = s.mgmt.afterReset cause := by
  rw [resetTo_eq]

/-- The record after a reset that is counted. -/
theorem resetTo_record_of_ne_powerOn {cause : ResetCause} (h : cause ≠ .powerOn) (s : State) :
    (resetTo cause s).mgmt.cause = cause ∧ (resetTo cause s).mgmt.resets = min 255 (s.mgmt.resets + 1) ∧
      (resetTo cause s).mgmt.unread = true := by
  simp [Management.afterReset_resets_of_ne_powerOn h]

/-! ## The record as the two commands carry it -/

@[simp] theorem State.status_cause (s : State) : s.status.cause = s.mgmt.cause := rfl
@[simp] theorem State.status_resets (s : State) : s.status.resets = s.mgmt.resets := rfl
@[simp] theorem State.status_unread (s : State) : s.status.unread = s.mgmt.unread := rfl
@[simp] theorem State.takeSnapshot_resets (s : State) : s.takeSnapshot.resets = s.mgmt.resets := rfl

/-- Settles O4: power-on writes a fresh record, the two counted resets share one argument, and the status and the snapshot carry the
record as it stands. -/
theorem resetCauseRecord : Obligations.ResetCauseRecord := by
  unfold Obligations.ResetCauseRecord
  intro s
  refine ⟨?powerOn, resetTo_record_of_ne_powerOn (by decide) s, resetTo_record_of_ne_powerOn (by decide) s, ?carried⟩
  case powerOn => simp
  case carried => simp

end Sys2Proof.Machine

/-! PROOF. Finer frames of the content path: the Cue Engine leaves wanted set, slots, buffer and holds alone, and the Lead Monitor changes
the holds and what it reports alone. -/

namespace Sys2Proof.Machine

/-! ## The Cue Engine -/

/-- `t` is `u` but for what the Cue Engine may change: cues, counters, and what reaches the Event Table. -/
def cuesFrom (u t : State) : Prop :=
  t = { u with
    cues := t.cues, counters := t.counters, events := t.events,
    actions := { u.actions with queue := t.actions.queue, line := t.actions.line, timer := t.actions.timer },
    link := { u.link with queue := t.link.queue } }

theorem cuesFrom_refl (s : State) : cuesFrom s s := rfl

theorem cuesFrom_trans {s t u : State} (h : cuesFrom s t) (h' : cuesFrom t u) : cuesFrom s u := by
  unfold cuesFrom at *
  rw [h'] at *
  rw [h]

theorem cuesFrom_of_reports {s t : State} (h : reportsFrom s t) : cuesFrom s t := by
  unfold cuesFrom
  unfold reportsFrom at h
  rw [h]

theorem cuesFrom_foldl {α : Type} {f : State → α → State} (h : ∀ s a, cuesFrom s (f s a)) :
    ∀ (l : List α) (s : State), cuesFrom s (l.foldl f s)
  | [], s => cuesFrom_refl s
  | a :: l, s => cuesFrom_trans (h s a) (cuesFrom_foldl h l (f s a))

theorem cuesFrom_ite {s t u : State} {p : Prop} [Decidable p] (h : cuesFrom s t) (h' : cuesFrom s u) :
    cuesFrom s (if p then t else u) := by
  split <;> assumption

/-- What the Cue Engine leaves alone. -/
theorem cuesFrom.fields {u t : State} (h : cuesFrom u t) :
    t.wanted = u.wanted ∧ t.slots = u.slots ∧ t.buffer = u.buffer ∧ t.holds = u.holds ∧ t.draws = u.draws := by
  unfold cuesFrom at h
  rw [h]
  exact ⟨rfl, rfl, rfl, rfl, rfl⟩

theorem count_cues_from (s : State) (f : Counters → Counters) : cuesFrom s (s.count f) := rfl

theorem setCueTable_cuesFrom (s : State) (i : Fin 4) (t : List CueEntry) : cuesFrom s (s.setCueTable i t) := rfl

theorem setCues_cuesFrom (s : State) (c : CueEngine) : cuesFrom s { s with cues := c } := rfl

theorem countOccur_cuesFrom (k : EventKind) (f : Counters → Counters) (s : State) : cuesFrom s (occur k (s.count f)) :=
  cuesFrom_trans (count_cues_from s f) (cuesFrom_of_reports (occur_reports k _))

theorem offerCaption_cuesFrom (m : CaptionMsg) (s : State) : cuesFrom s (offerCaption m s).1 := by
  unfold offerCaption
  dsimp only
  split
  · rfl
  · exact cuesFrom_trans (count_cues_from s _) (cuesFrom_of_reports (assertEvent_reports _ _))

theorem queueCaption_cuesFrom (m : CaptionMsg) (s : State) : cuesFrom s (queueCaption m s) := offerCaption_cuesFrom m s

theorem acceptCue_cuesFrom (i : Fin 4) (e : CueEntry) (s : State) : cuesFrom s (acceptCue i e s) := by
  have placed : cuesFrom s ((s.setCueTable i (insertBy cueBefore e (s.cueTable i))).count
      (fun k => { k with cuesAccepted := bump32 1 k.cuesAccepted })) :=
    cuesFrom_trans (setCueTable_cuesFrom s i _) (count_cues_from _ _)
  exact cuesFrom_ite (count_cues_from s _) (cuesFrom_ite (countOccur_cuesFrom _ _ s) (cuesFrom_ite (countOccur_cuesFrom _ _ s)
    (cuesFrom_ite (cuesFrom_trans placed (cuesFrom_of_reports (occur_reports _ _))) placed)))

theorem readCue_cuesFrom (i : Fin 4) (k : Nat) (row : ReelRow) (t : TextTrack) (c : RawCue) (s : State) :
    cuesFrom s (readCue i k row t c s) :=
  cuesFrom_ite (count_cues_from s _) (cuesFrom_ite (count_cues_from s _) (cuesFrom_ite (count_cues_from s _)
    (cuesFrom_ite (countOccur_cuesFrom _ _ s) (acceptCue_cuesFrom i _ s))))

theorem readCues_cuesFrom (i : Fin 4) (k : Nat) (row : ReelRow) (t : TextTrack) : ∀ (n : Nat) (bs : List Byte) (s : State),
    cuesFrom s (readCues i k row t n bs s)
  | 0, _, s => cuesFrom_refl s
  | n + 1, bs, s => by
    unfold readCues
    split
    · exact count_cues_from s _
    · exact cuesFrom_trans (readCue_cuesFrom i k row t _ s) (readCues_cuesFrom i k row t n _ _)

theorem takeCueBlock_cuesFrom (i : Fin 4) (u : UnitRec) (s : State) : cuesFrom s (takeCueBlock i u s) := by
  unfold takeCueBlock
  split
  · exact count_cues_from s _
  split
  · exact cuesFrom_refl s
  split
  · exact readCues_cuesFrom _ _ _ _ _ _ _
  · exact cuesFrom_refl s

theorem noteLeft_cuesFrom (e : CueEntry) (s : State) : cuesFrom s (noteLeft e s) :=
  cuesFrom_ite (cuesFrom_refl s) (cuesFrom_ite (countOccur_cuesFrom _ _ s) (count_cues_from s _))

theorem queueClears_cuesFrom (i : Fin 4) (l : List CueEntry) (s : State) : cuesFrom s (queueClears i l s) :=
  cuesFrom_foldl (fun s _ => queueCaption_cuesFrom _ s) _ _

theorem dropCues_cuesFrom (i : Fin 4) (p : CueEntry → Bool) (s : State) : cuesFrom s (dropCues i p s) :=
  cuesFrom_trans (setCueTable_cuesFrom s i _) (cuesFrom_foldl (fun s e => noteLeft_cuesFrom e s) _ _)

theorem openFrame_cuesFrom (i : Fin 4) (k f ticks : Nat) (s : State) : cuesFrom s (openFrame i k f ticks s).1 :=
  cuesFrom_trans (cuesFrom_trans (setCueTable_cuesFrom s i _) (count_cues_from _ _))
    (cuesFrom_foldl (fun s _ => cuesFrom_of_reports (occur_reports _ s)) _ _)

theorem offerShow_cuesFrom (i : Fin 4) (s : State) (e : CueEntry) : cuesFrom s (offerShow i s e) :=
  cuesFrom_ite (cuesFrom_trans (offerCaption_cuesFrom _ s) (count_cues_from _ _)) (offerCaption_cuesFrom _ s)

theorem closedFrame_cuesFrom (i : Fin 4) (k f : Nat) (first : Bool) (t : TextTrack) (left : List CueEntry) (s : State) :
    cuesFrom s (closedFrame i k f first t left s) :=
  cuesFrom_trans (cuesFrom_trans (cuesFrom_trans (cuesFrom_ite (queueCaption_cuesFrom _ s) (cuesFrom_refl s))
    (queueClears_cuesFrom i left _)) (cuesFrom_foldl (offerShow_cuesFrom i) _ _)) (setCueTable_cuesFrom _ i _)

/-- The OPEN lanes' parts of a frame, taken one after another, with the entries they give. -/
theorem openFrames_cuesFrom (k f ticks : Nat) : ∀ (l : List (Fin 4)) (acc : State × List OverlayEntry), cuesFrom acc.1
    (l.foldl (fun (acc : State × List OverlayEntry) i =>
      ((openFrame i k f ticks acc.1).1, acc.2 ++ (openFrame i k f ticks acc.1).2)) acc).1
  | [], _ => cuesFrom_refl _
  | i :: l, acc => cuesFrom_trans (openFrame_cuesFrom i k f ticks acc.1) (openFrames_cuesFrom k f ticks l _)

theorem frameStart_cuesFrom (k f : Nat) (s : State) : cuesFrom s (frameStart k f s) := by
  unfold frameStart
  split
  · exact cuesFrom_refl s
  rename_i row _
  refine cuesFrom_trans (cuesFrom_trans (cuesFrom_trans (cuesFrom_trans (setCues_cuesFrom s _)
    (cuesFrom_foldl (fun s i => dropCues_cuesFrom i _ s) _ _)) (openFrames_cuesFrom k f row.reel.ticks _ (_, [])))
    (setCues_cuesFrom _ _)) (cuesFrom_foldl (fun s i => ?_) _ _)
  split
  · exact cuesFrom_ite (cuesFrom_refl s) (closedFrame_cuesFrom i k f _ _ _ s)
  · exact cuesFrom_refl s

theorem cueReelEnd_cuesFrom (k : Nat) (s : State) : cuesFrom s (cueReelEnd k s) :=
  cuesFrom_trans (setCues_cuesFrom s _) (cuesFrom_foldl
    (fun s i => cuesFrom_trans (dropCues_cuesFrom i _ s) (queueClears_cuesFrom i _ _)) _ _)

theorem cueClosing_cuesFrom (s : State) : cuesFrom s (cueClosing s) :=
  cuesFrom_trans (cuesFrom_trans (setCues_cuesFrom s _) (cuesFrom_of_reports (deassertEvent_reports _ _)))
    (cuesFrom_foldl (fun s _ => queueCaption_cuesFrom _ s) _ _)

/-! ## The Lead Monitor -/

/-- `t` is `u` but for the holds and the report queue. -/
def holdsFrom (u t : State) : Prop := t = { u with holds := t.holds, link := { u.link with queue := t.link.queue } }

theorem holdsFrom_refl (s : State) : holdsFrom s s := rfl

theorem holdsFrom_trans {s t u : State} (h : holdsFrom s t) (h' : holdsFrom t u) : holdsFrom s u := by
  unfold holdsFrom at *
  rw [h'] at *
  rw [h]

theorem holdsFrom_foldl {α : Type} {f : State → α → State} (h : ∀ s a, holdsFrom s (f s a)) :
    ∀ (l : List α) (s : State), holdsFrom s (l.foldl f s)
  | [], s => holdsFrom_refl s
  | a :: l, s => holdsFrom_trans (h s a) (holdsFrom_foldl h l (f s a))

theorem holdsFrom_ite {s t u : State} {p : Prop} [Decidable p] (h : holdsFrom s t) (h' : holdsFrom s u) :
    holdsFrom s (if p then t else u) := by
  split <;> assumption

/-- What the Lead Monitor leaves alone. -/
theorem holdsFrom.fields {u t : State} (h : holdsFrom u t) :
    t.wanted = u.wanted ∧ t.slots = u.slots ∧ t.buffer = u.buffer ∧ t.cues = u.cues ∧ t.counters = u.counters ∧
    t.draws = u.draws ∧ t.events = u.events ∧ t.actions = u.actions := by
  unfold holdsFrom at h
  rw [h]
  exact ⟨rfl, rfl, rfl, rfl, rfl, rfl, rfl, rfl⟩

theorem setHold_holdsFrom (l : AvLane) (h : LaneHold) (s : State) : holdsFrom s (s.setHold l h) := rfl

theorem queueReport_holdsFrom (r : Report) (s : State) : holdsFrom s (queueReport r s) := by
  unfold holdsFrom queueReport
  rw [LinkPort.offer_eq]

theorem queueHold_holdsFrom (l : AvLane) (ms : Nat) (s : State) : holdsFrom s (queueHold l ms s) := queueReport_holdsFrom _ s

theorem holdLane_holdsFrom (l : AvLane) (s : State) : holdsFrom s (holdLane l s) :=
  holdsFrom_trans (setHold_holdsFrom l _ s) (queueHold_holdsFrom _ _ _)

theorem openLane_holdsFrom (l : AvLane) (s : State) : holdsFrom s (openLane l s) :=
  holdsFrom_trans (setHold_holdsFrom l _ s) (queueHold_holdsFrom _ _ _)

theorem settleLane_holdsFrom (before : State) (l : AvLane) (s : State) : holdsFrom s (settleLane before l s) :=
  holdsFrom_trans (setHold_holdsFrom l _ s) (holdsFrom_ite (holdLane_holdsFrom l _)
    (holdsFrom_ite (openLane_holdsFrom l _) (holdsFrom_refl _)))

theorem settleLeads_holdsFrom (before s : State) : holdsFrom s (settleLeads before s) :=
  holdsFrom_foldl (fun s l => settleLane_holdsFrom before l s) _ _

theorem exhaustLane_holdsFrom (l : AvLane) (s : State) : holdsFrom s (exhaustLane l s) :=
  holdsFrom_ite (holdsFrom_refl s) (holdsFrom_trans (setHold_holdsFrom l _ s) (queueHold_holdsFrom _ _ _))

end Sys2Proof.Machine

/-! PROOF. The frame store under the content path (R35): the blocks of slots, queued units and free pool keep their total, and a lane
keeps one slot for each unit. -/

namespace Sys2Proof.Machine

/-! ## Sums over the lanes -/

theorem mem_allLanes (l : Lane) : l ∈ allLanes := by
  cases l with
  | pic i => revert i; decide
  | snd i => revert i; decide
  | txt i => revert i; decide

theorem nodup_allLanes : allLanes.Nodup := by decide

theorem sumLanes_eq_sum (f : Lane → Nat) : sumLanes f = (allLanes.map f).sum := by
  rw [List.sum_eq_foldl]; rfl

/-- A sum over the lanes taken apart at one lane. -/
theorem sumLanes_eq_add (f : Lane → Nat) (l : Lane) : sumLanes f = f l + ((allLanes.erase l).map f).sum := by
  rw [sumLanes_eq_sum, ((List.perm_cons_erase (mem_allLanes l)).map f).sum_nat, List.map_cons, List.sum_cons]

/-- Two sums that differ on one lane alone. -/
theorem sumLanes_exchange {f g : Lane → Nat} (l : Lane) (h : ∀ m, m ≠ l → g m = f m) :
    sumLanes g + f l = sumLanes f + g l := by
  have hrest : (allLanes.erase l).map g = (allLanes.erase l).map f :=
    List.map_congr_left fun m hm => h m (nodup_allLanes.mem_erase_iff.mp hm).1
  rw [sumLanes_eq_add f l, sumLanes_eq_add g l, hrest]
  omega

theorem State.totalBlocks_eq (s : State) : s.totalBlocks = s.buffer.pool + sumLanes s.laneBlocks := rfl

/-! ## Blocks kept -/

/-- What conserves the blocks of `s` conserves those of `t`. -/
def keepsBlocks (s t : State) : Prop := s.blocksConserved → t.blocksConserved

theorem keepsBlocks_refl (s : State) : keepsBlocks s s := id

theorem keepsBlocks_trans {s t u : State} (h : keepsBlocks s t) (h' : keepsBlocks t u) : keepsBlocks s u := h' ∘ h

theorem keepsBlocks_foldl {α : Type} {f : State → α → State} (h : ∀ s a, keepsBlocks s (f s a)) :
    ∀ (l : List α) (s : State), keepsBlocks s (l.foldl f s)
  | [], s => keepsBlocks_refl s
  | a :: l, s => keepsBlocks_trans (h s a) (keepsBlocks_foldl h l (f s a))

/-- The invariant reads slots and buffer alone. -/
theorem keepsBlocks_of_eq {s t : State} (hs : t.slots = s.slots) (hb : t.buffer = s.buffer) : keepsBlocks s t := by
  have hq : ∀ l, t.queue l = s.queue l := queue_congr (by rw [hb])
  have hl : ∀ l, t.laneSlots l = s.laneSlots l := laneSlots_congr hs
  intro h
  simpa only [State.blocksConserved, State.totalBlocks, State.slotsDistinct, funext (fun l => show t.laneBlocks l = s.laneBlocks l by
    simp only [State.laneBlocks, hq, hl]), hl, hb] using h

theorem keepsBlocks_of_reports {s t : State} (h : reportsFrom s t) : keepsBlocks s t := keepsBlocks_of_eq h.slots_eq h.buffer_eq

theorem keepsBlocks_of_cues {s t : State} (h : cuesFrom s t) : keepsBlocks s t :=
  keepsBlocks_of_eq h.fields.2.1 h.fields.2.2.1

theorem keepsBlocks_of_holds {s t : State} (h : holdsFrom s t) : keepsBlocks s t :=
  keepsBlocks_of_eq h.fields.2.1 h.fields.2.2.1

/-- A change of one lane that exchanges blocks with the free pool, or between its slots and its queue. -/
theorem keepsBlocks_of_lane {s t : State} (l : Lane)
    (hother : ∀ m, m ≠ l → t.laneSlots m = s.laneSlots m ∧ t.queue m = s.queue m)
    (hblocks : s.slotsDistinct l → s.totalBlocks = Config.blocks → t.buffer.pool + t.laneBlocks l = s.buffer.pool + s.laneBlocks l)
    (hdistinct : s.slotsDistinct l → t.slotsDistinct l) : keepsBlocks s t := by
  rintro ⟨htotal, hone⟩
  have hlane : ∀ m, m ≠ l → t.laneBlocks m = s.laneBlocks m := fun m hm => by
    simp only [State.laneBlocks, (hother m hm).1, (hother m hm).2]
  have hsum := sumLanes_exchange l hlane
  have hpool := hblocks (hone l) htotal
  refine ⟨?_, fun m => ?_⟩
  · rw [← htotal, State.totalBlocks_eq, State.totalBlocks_eq]
    omega
  · by_cases hm : m = l
    · subst hm; exact hdistinct (hone m)
    · simpa only [State.slotsDistinct, (hother m hm).1] using hone m

/-! ## Slots of a lane -/

/-- Whether a slot holds the unit of another. -/
def AsmSlot.sameUnit (x y : AsmSlot) : Bool := decide (y.reel = x.reel) && decide (y.unit = x.unit)

theorem AsmSlot.sameUnit_iff {x y : AsmSlot} : x.sameUnit y = true ↔ (y.reel, y.unit) = (x.reel, x.unit) := by
  simp [AsmSlot.sameUnit]

/-- Distinct slots of a lane that hold one unit are one slot. -/
theorem filter_sameUnit {l : List AsmSlot} (hd : (l.map (fun x => (x.reel, x.unit))).Nodup) {x : AsmSlot} (hx : x ∈ l) :
    l.filter x.sameUnit = [x] := by
  induction l with
  | nil => cases hx
  | cons y ys ih =>
    rw [List.map_cons, List.nodup_cons] at hd
    obtain ⟨hy, hd⟩ := hd
    rcases List.mem_cons.mp hx with rfl | hx
    · have hrest : ys.filter x.sameUnit = [] := List.filter_eq_nil_iff.mpr fun z hz h =>
        hy (List.mem_map.mpr ⟨z, hz, AsmSlot.sameUnit_iff.mp h⟩)
      have hself : x.sameUnit x = true := AsmSlot.sameUnit_iff.mpr rfl
      rw [List.filter_cons_of_pos hself, hrest]
    · have hne : ¬ x.sameUnit y = true := fun h =>
        hy (List.mem_map.mpr ⟨x, hx, (AsmSlot.sameUnit_iff.mp h).symm⟩)
      rw [List.filter_cons_of_neg hne, ih hd hx]

/-- Taking one of some distinct slots away takes its blocks away. -/
theorem slotBlocks_without {l : List AsmSlot} (hd : (l.map (fun x => (x.reel, x.unit))).Nodup) {x : AsmSlot} (hx : x ∈ l) :
    x.regions.length + slotBlocks (l.filter (fun y => !x.sameUnit y)) = slotBlocks l := by
  rw [← slotBlocks_filter x.sameUnit l, filter_sameUnit hd hx]
  simp

/-- Slots that stay distinct where some leave. -/
theorem nodup_units_filter {l : List AsmSlot} (p : AsmSlot → Bool) (hd : (l.map (fun x => (x.reel, x.unit))).Nodup) :
    ((l.filter p).map (fun x => (x.reel, x.unit))).Nodup := hd.sublist (List.filter_sublist.map _)

/-- A slot's contents exchanged for other contents of the same unit. -/
theorem slotBlocks_exchange {l : List AsmSlot} (hd : (l.map (fun x => (x.reel, x.unit))).Nodup) {x y : AsmSlot} (hx : x ∈ l)
    (hr : y.reel = x.reel) (hu : y.unit = x.unit) :
    slotBlocks (l.map (fun z => if z.reel = y.reel ∧ z.unit = y.unit then y else z)) + x.regions.length =
      slotBlocks l + y.regions.length := by
  induction l with
  | nil => cases hx
  | cons z zs ih =>
    rw [List.map_cons, List.nodup_cons] at hd
    obtain ⟨hz, hd⟩ := hd
    rw [List.map_cons, slotBlocks_cons, slotBlocks_cons]
    rcases List.mem_cons.mp hx with rfl | hx
    · have hrest : zs.map (fun w => if w.reel = y.reel ∧ w.unit = y.unit then y else w) = zs :=
        (List.map_congr_left fun w hw => if_neg fun h => hz (List.mem_map.mpr ⟨w, hw, by rw [h.1, h.2, hr, hu]⟩)).trans
          (List.map_id zs)
      rw [if_pos ⟨hr.symm, hu.symm⟩, hrest]; omega
    · have hne : ¬ (z.reel = y.reel ∧ z.unit = y.unit) := fun h => hz (List.mem_map.mpr ⟨x, hx, by rw [h.1, h.2, hr, hu]⟩)
      rw [if_neg hne]
      have := ih hd hx
      omega

/-- Exchanging a slot's contents leaves the units of the slots. -/
theorem units_exchange (l : List AsmSlot) (y : AsmSlot) :
    (l.map (fun z => if z.reel = y.reel ∧ z.unit = y.unit then y else z)).map (fun x => (x.reel, x.unit)) =
      l.map (fun x => (x.reel, x.unit)) := by
  rw [List.map_map]
  refine List.map_congr_left fun z _ => ?_
  by_cases h : z.reel = y.reel ∧ z.unit = y.unit
  · simp [h]
  · simp [h]

/-! ## Slots and queues -/

theorem emptySlots_keepsBlocks (l : Lane) (goes : AsmSlot → Bool) (note : Nat → Counters → Counters) (s : State) :
    keepsBlocks s (emptySlots l goes note s) := by
  have hself : (emptySlots l goes note s).laneSlots l = (s.laneSlots l).filter (fun x => !goes x) := by
    rw [emptySlots_laneSlots, if_pos rfl]
  refine keepsBlocks_of_lane l (fun m hm => ⟨by rw [emptySlots_laneSlots, if_neg hm], emptySlots_queue l m goes note s⟩) ?_ ?_
  · intro _ _
    have hsplit := slotBlocks_filter goes (s.laneSlots l)
    rw [emptySlots_pool, State.laneBlocks, State.laneBlocks, hself, emptySlots_queue]
    omega
  · intro hd
    rw [State.slotsDistinct, hself]
    exact nodup_units_filter _ hd

theorem dropStaleHeads_keepsBlocks (l : Lane) (k u : Nat) (s : State) : keepsBlocks s (dropStaleHeads l k u s) := by
  have hslots : ∀ m, (dropStaleHeads l k u s).laneSlots m = s.laneSlots m := laneSlots_congr (dropStaleHeads_slots l k u s)
  refine keepsBlocks_of_lane l (fun m hm => ⟨hslots m, by rw [dropStaleHeads_queue, if_neg hm]⟩) ?_ ?_
  · intro _ _
    have hsplit := congrArg unitBlocks (List.takeWhile_append_dropWhile (p := fun q => unitBefore q k u) (l := s.queue l))
    rw [unitBlocks_append] at hsplit
    rw [dropStaleHeads_pool, State.laneBlocks, State.laneBlocks, hslots, dropStaleHeads_queue, if_pos rfl]
    omega
  · rw [State.slotsDistinct, State.slotsDistinct, hslots]
    exact id

/-- A lane's queue replaced while the blocks of the units that left it return. -/
theorem returnQueue_keepsBlocks (l : Lane) (v : List UnitRec) (n : Nat) (s : State) (h : n + unitBlocks v = unitBlocks (s.queue l)) :
    keepsBlocks s (returnBlocks n (s.setQueue l v)) := by
  have hslots : ∀ m, (returnBlocks n (s.setQueue l v)).laneSlots m = s.laneSlots m := laneSlots_congr (by simp)
  refine keepsBlocks_of_lane l (fun m hm => ⟨hslots m, by rw [returnBlocks_queue, queue_setQueue, if_neg hm]⟩) ?_ ?_
  · intro _ _
    have hpool : (returnBlocks n (s.setQueue l v)).buffer.pool = s.buffer.pool + n := by simp [State.setQueue]
    rw [hpool, State.laneBlocks, State.laneBlocks, hslots, returnBlocks_queue, queue_setQueue, if_pos rfl]
    omega
  · rw [State.slotsDistinct, State.slotsDistinct, hslots]
    exact id

theorem unitDue_keepsBlocks (l : Lane) (k u : Nat) (s : State) : keepsBlocks s (unitDue l k u s).2 := by
  have hdrop := dropStaleHeads_keepsBlocks l k u s
  rw [unitDue_eq]
  split
  case h_1 q qs hq =>
    split
    · refine keepsBlocks_trans hdrop (returnQueue_keepsBlocks l qs _ _ ?_)
      rw [dropStaleHeads_queue, if_pos rfl, hq, unitBlocks_cons]
    · exact hdrop
  case h_2 => exact hdrop

/-- One lane's part of the purge at CLOSING. -/
theorem purgeLane_keepsBlocks (l : Lane) (s : State) :
    keepsBlocks s (returnBlocks (unitBlocks (s.queue l)) ((emptySlots l (fun _ => true) noteAbandoned s).setQueue l [])) :=
  keepsBlocks_trans (emptySlots_keepsBlocks l _ _ s) (returnQueue_keepsBlocks l [] _ _ (by rw [emptySlots_queue]; rfl))

theorem purgeLanes_keepsBlocks (s : State) : keepsBlocks s (purgeLanes s) :=
  keepsBlocks_foldl (fun s l => purgeLane_keepsBlocks l s) _ _

theorem compareStrides_keepsBlocks (limit : Nat) (s : State) : keepsBlocks s (compareStrides limit s) :=
  keepsBlocks_foldl (fun s l => emptySlots_keepsBlocks l _ _ s) _ _

/-! ## Joining -/

/-- What joins is a complete slot of the lane whose reel is in turn, at that reel's base. -/
theorem joiner_some {s : State} {l : Lane} {x : AsmSlot} (h : s.joiner l = some x) :
    x ∈ s.laneSlots l ∧ x.complete = true ∧ ∃ w ∈ s.turns l, w.index = x.reel ∧ w.bases.get l = some x.unit := by
  obtain ⟨w, hw, hx⟩ := List.exists_of_findSome?_eq_some h
  have hmem := List.mem_of_find?_eq_some hx
  have hprop := List.find?_some hx
  simp only [Bool.and_eq_true, decide_eq_true_eq] at hprop
  obtain ⟨⟨hcomplete, hreel⟩, hbase⟩ := hprop
  exact ⟨hmem, hcomplete, w, hw, hreel.symm, hbase⟩

/-- The state of a joining unit before it reaches its queue or the Cue Engine: its slot is EMPTY, it is counted and its base moves. -/
def leaveSlot (l : Lane) (x : AsmSlot) (s : State) : State :=
  ((s.setSlots l ((s.laneSlots l).filter (fun y => !x.sameUnit y))).count
    (fun c => { c with assembled := bump32 1 c.assembled })).editWanted x.reel
      (fun w => { w with bases := w.bases.set l (some (x.unit + 1)) })

/-- Where a joining unit goes, by its lane (R31, R37). -/
theorem joinUnit_eq (l : Lane) (x : AsmSlot) (s : State) : joinUnit l x s = match l with
    | .txt i => returnBlocks x.regions.length (takeCueBlock i x.record (leaveSlot l x s))
    | _ => (leaveSlot l x s).setQueue l (s.queue l ++ [x.record]) := by
  cases l <;> rfl

theorem leaveSlot_laneSlots (l m : Lane) (x : AsmSlot) (s : State) :
    (leaveSlot l x s).laneSlots m = if m = l then (s.laneSlots l).filter (fun y => !x.sameUnit y) else s.laneSlots m :=
  laneSlots_setSlots s l m _

@[simp] theorem leaveSlot_buffer (l : Lane) (x : AsmSlot) (s : State) : (leaveSlot l x s).buffer = s.buffer := rfl

@[simp] theorem leaveSlot_queue (l m : Lane) (x : AsmSlot) (s : State) : (leaveSlot l x s).queue m = s.queue m := rfl

@[simp] theorem takeCueBlock_slots (i : Fin 4) (u : UnitRec) (s : State) : (takeCueBlock i u s).slots = s.slots :=
  (takeCueBlock_cuesFrom i u s).fields.2.1

@[simp] theorem takeCueBlock_buffer (i : Fin 4) (u : UnitRec) (s : State) : (takeCueBlock i u s).buffer = s.buffer :=
  (takeCueBlock_cuesFrom i u s).fields.2.2.1

theorem joinUnit_slots (l : Lane) (x : AsmSlot) (s : State) : (joinUnit l x s).slots = (leaveSlot l x s).slots := by
  rw [joinUnit_eq]
  cases l <;> simp

theorem joinUnit_laneSlots (l m : Lane) (x : AsmSlot) (s : State) :
    (joinUnit l x s).laneSlots m = if m = l then (s.laneSlots l).filter (fun y => !x.sameUnit y) else s.laneSlots m := by
  rw [laneSlots_congr (joinUnit_slots l x s), leaveSlot_laneSlots]

/-- A text unit goes to the Cue Engine; another joins the tail of its lane's queue (R31, R37). -/
theorem joinUnit_queue (l m : Lane) (x : AsmSlot) (s : State) : (joinUnit l x s).queue m =
    if m = l ∧ ∀ i, l ≠ .txt i then s.queue l ++ [x.record] else s.queue m := by
  rw [joinUnit_eq]
  cases l with
  | txt i =>
    rw [returnBlocks_queue, if_neg (fun h => h.2 i rfl)]
    exact queue_congr (by simp) m
  | pic i => simp [queue_setQueue]
  | snd i => simp [queue_setQueue]

/-- The block of a text unit returns as it joins (R37). -/
theorem joinUnit_pool (l : Lane) (x : AsmSlot) (s : State) : (joinUnit l x s).buffer.pool =
    match l with
    | .txt _ => s.buffer.pool + x.regions.length
    | _ => s.buffer.pool := by
  rw [joinUnit_eq]
  cases l <;> simp [State.setQueue]

theorem joinUnit_keepsBlocks {l : Lane} {x : AsmSlot} {s : State} (hx : x ∈ s.laneSlots l) : keepsBlocks s (joinUnit l x s) := by
  refine keepsBlocks_of_lane l (fun m hm => ?_) ?_ ?_
  · rw [joinUnit_laneSlots, joinUnit_queue, if_neg hm, if_neg (fun h => hm h.1)]
    exact ⟨rfl, rfl⟩
  · intro hd _
    have hwithout := slotBlocks_without hd hx
    rw [State.laneBlocks, State.laneBlocks, joinUnit_laneSlots, joinUnit_queue, joinUnit_pool, if_pos rfl]
    cases l <;> simp [AsmSlot.record] <;> omega
  · intro hd
    rw [State.slotsDistinct, joinUnit_laneSlots, if_pos rfl]
    exact nodup_units_filter _ hd

theorem joinRun_keepsBlocks (l : Lane) : ∀ (n : Nat) (s : State), keepsBlocks s (joinRun l n s)
  | 0, s => keepsBlocks_refl s
  | n + 1, s => by
    unfold joinRun
    split
    case h_1 x hx => exact keepsBlocks_trans (joinUnit_keepsBlocks (joiner_some hx).1) (joinRun_keepsBlocks l n _)
    case h_2 => exact keepsBlocks_refl s

theorem joinLane_keepsBlocks (l : Lane) (s : State) : keepsBlocks s (joinLane l s) := joinRun_keepsBlocks l _ s

theorem joinTurns_keepsBlocks (s : State) : keepsBlocks s (joinTurns s) :=
  keepsBlocks_foldl (fun s l => joinLane_keepsBlocks (avToLane l) s) _ _

/-! ## The wanted set -/

theorem addReel_keepsBlocks (k : Nat) (s : State) : keepsBlocks s (addReel k s) := by
  unfold addReel
  split
  · exact keepsBlocks_refl s
  · exact keepsBlocks_trans (t := { s with wanted := s.wanted ++ [_] }) (keepsBlocks_of_eq rfl rfl)
      (keepsBlocks_of_holds (queueReport_holdsFrom _ _))

theorem removeReel_keepsBlocks (k : Nat) (s : State) : keepsBlocks s (removeReel k s) :=
  keepsBlocks_trans (keepsBlocks_trans
    (t := { s with wanted := s.wanted.filter (fun w => decide (w.index ≠ k)) }) (keepsBlocks_of_eq rfl rfl)
    (keepsBlocks_foldl (fun s l => emptySlots_keepsBlocks l _ _ s) _ _)) (joinTurns_keepsBlocks _)

theorem noteFinished_keepsBlocks (s : State) : keepsBlocks s (noteFinished s) := keepsBlocks_of_eq rfl rfl

theorem sortWanted_keepsBlocks : ∀ (n : Nat) (s : State), keepsBlocks s (sortWanted n s)
  | 0, s => keepsBlocks_refl s
  | n + 1, s => by
    unfold sortWanted
    refine keepsBlocks_trans (noteFinished_keepsBlocks s) ?_
    dsimp only
    split
    · exact keepsBlocks_trans (addReel_keepsBlocks _ _) (sortWanted_keepsBlocks n _)
    split
    · exact keepsBlocks_trans (removeReel_keepsBlocks _ _) (sortWanted_keepsBlocks n _)
    · exact keepsBlocks_refl _

theorem updateWanted_keepsBlocks (s : State) : keepsBlocks s (updateWanted s) := sortWanted_keepsBlocks _ s

theorem settleLeads_keepsBlocks (before s : State) : keepsBlocks s (settleLeads before s) :=
  keepsBlocks_of_holds (settleLeads_holdsFrom before s)

theorem closeInstant_keepsBlocks (before s : State) : keepsBlocks s (closeInstant before s) :=
  keepsBlocks_trans (keepsBlocks_trans (settleLeads_keepsBlocks before s) (updateWanted_keepsBlocks _))
    (settleLeads_keepsBlocks _ _)

/-! ## Cells -/

theorem exhaustPool_keepsBlocks (s : State) : keepsBlocks s (exhaustPool s) :=
  keepsBlocks_trans (keepsBlocks_of_reports (assertEvent_reports _ s))
    (keepsBlocks_foldl (fun s l => keepsBlocks_of_holds (exhaustLane_holdsFrom l s)) _ _)

theorem afterAssembly_keepsBlocks (l : Lane) (s : State) : keepsBlocks s (afterAssembly l s) :=
  keepsBlocks_trans (joinLane_keepsBlocks l s) (updateWanted_keepsBlocks _)

/-- A slot's new contents, whose further blocks the free pool gives. -/
theorem putSlot_keepsBlocks {l : Lane} {x y : AsmSlot} {s : State} (hx : x ∈ s.laneSlots l) (hr : y.reel = x.reel)
    (hu : y.unit = x.unit) (n : Nat) (hn : n ≤ s.buffer.pool) (hy : y.regions.length = x.regions.length + n) :
    keepsBlocks s (putSlot l y { s with buffer := { s.buffer with pool := s.buffer.pool - n } }) := by
  obtain ⟨t, ht⟩ : ∃ t, putSlot l y { s with buffer := { s.buffer with pool := s.buffer.pool - n } } = t := ⟨_, rfl⟩
  rw [ht]
  have hslots : ∀ m, t.laneSlots m = if m = l
      then (s.laneSlots l).map (fun z => if z.reel = y.reel ∧ z.unit = y.unit then y else z) else s.laneSlots m :=
    fun m => by rw [← ht]; exact laneSlots_setSlots _ l m _
  have hqueue : ∀ m, t.queue m = s.queue m := fun _ => by rw [← ht]; rfl
  have hpool : t.buffer.pool = s.buffer.pool - n := by rw [← ht]; rfl
  refine keepsBlocks_of_lane l (fun m hm => ⟨by rw [hslots, if_neg hm], hqueue m⟩) ?_ ?_
  · intro hd _
    have := slotBlocks_exchange hd hx hr hu
    rw [hpool, State.laneBlocks, State.laneBlocks, hslots, hqueue, if_pos rfl]
    omega
  · intro hd
    rw [State.slotsDistinct, hslots, if_pos rfl, units_exchange]
    exact hd

/-- A placed fragment's slot holds one block more where the fragment needs one (R27). -/
theorem place_regions_length (x : AsmSlot) (f : Fragment) :
    (x.place f).regions.length = x.regions.length + (if x.needsBlock f then 1 else 0) := by
  unfold AsmSlot.place AsmSlot.needsBlock
  by_cases h : f.payload.length = 0
  · simp [h]
  · by_cases hr : x.regions.contains (f.index * x.content.stride / Config.blockBytes)
    · simp only [h, hr, false_or, if_true]; simp
    · have hp : f.payload ≠ [] := by simpa using h
      have hnew : f.index * x.content.stride / Config.blockBytes ∉ x.regions := by simpa using hr
      simp [hnew, hp]

/-- Completion changes no unit and no block. -/
theorem settle_same (x : AsmSlot) : x.settle.reel = x.reel ∧ x.settle.unit = x.unit ∧ x.settle.regions = x.regions ∧
    x.settle.content = x.content ∧ x.settle.last = x.last := by
  unfold AsmSlot.settle
  split
  · exact ⟨rfl, rfl, rfl, rfl, rfl⟩
  · split <;> exact ⟨rfl, rfl, rfl, rfl, rfl⟩

theorem placeFragment_keepsBlocks {l : Lane} {x : AsmSlot} {s : State} (hx : x ∈ s.laneSlots l) (f : Fragment) :
    keepsBlocks s (placeFragment l x f s) := by
  unfold placeFragment
  split
  · exact keepsBlocks_of_eq rfl rfl
  split
  · split
    · exact keepsBlocks_of_eq rfl rfl
    · have hput : keepsBlocks (dropOversize s) (putSlot l x.closed (dropOversize s)) :=
        putSlot_keepsBlocks (y := x.closed) (s := dropOversize s) hx rfl rfl 0 (Nat.zero_le _) rfl
      exact keepsBlocks_trans (keepsBlocks_trans (keepsBlocks_of_eq rfl rfl) hput) (afterAssembly_keepsBlocks l _)
  split
  · exact keepsBlocks_trans (emptySlots_keepsBlocks l _ _ s) (exhaustPool_keepsBlocks _)
  · rename_i hfound
    obtain ⟨hreel, hunit, hregions, -, -⟩ := settle_same (x.place f)
    refine keepsBlocks_trans (putSlot_keepsBlocks hx hreel hunit _ ?_ ?_) (afterAssembly_keepsBlocks l _)
    · by_cases hb : x.needsBlock f = true
      · have : s.buffer.pool ≠ 0 := fun h => hfound ⟨hb, h⟩
        rw [if_pos hb]; omega
      · rw [if_neg hb]; exact Nat.zero_le _
    · rw [hregions, place_regions_length]

/-- A unit's first cell takes an EMPTY slot, which holds no block yet (R25). -/
theorem openSlot_keepsBlocks {l : Lane} {x : AsmSlot} {s : State} (n : Nat) (hx : x.regions = [])
    (hnew : ∀ y ∈ s.laneSlots l, ¬ (y.reel = x.reel ∧ y.unit = x.unit)) :
    keepsBlocks s { s.setSlots l (s.laneSlots l ++ [x]) with draws := n } := by
  obtain ⟨t, ht⟩ : ∃ t : State, { s.setSlots l (s.laneSlots l ++ [x]) with draws := n } = t := ⟨_, rfl⟩
  rw [ht]
  have hslots : ∀ m, t.laneSlots m = if m = l then s.laneSlots l ++ [x] else s.laneSlots m :=
    fun m => by rw [← ht]; exact laneSlots_setSlots s l m _
  have hqueue : ∀ m, t.queue m = s.queue m := fun _ => by rw [← ht]; rfl
  refine keepsBlocks_of_lane l (fun m hm => ⟨by rw [hslots, if_neg hm], hqueue m⟩) ?_ ?_
  · intro _ _
    have hpool : t.buffer.pool = s.buffer.pool := by rw [← ht]; rfl
    rw [hpool, State.laneBlocks, State.laneBlocks, hslots, hqueue, if_pos rfl]
    simp [hx]
  · intro hd
    rw [State.slotsDistinct, hslots, if_pos rfl, List.map_append]
    refine List.nodup_append.mpr ⟨hd, by simp, fun a ha b hb hab => ?_⟩
    obtain ⟨y, hy, rfl⟩ := List.mem_map.mp ha
    rw [List.map_singleton, List.mem_singleton] at hb
    exact hnew y hy (by simpa using hab.trans hb)

/-- Whether a lane is a text lane. -/
def isTextLane : Lane → Bool
  | .txt _ => true
  | _ => false

/-- A cell that has passed the Unit Assembler's first tests reaches the slot of its unit, or takes an EMPTY one (R25). -/
def reachSlot (l : Lane) (k u : Nat) (f : Fragment) (s : State) : State :=
  match (s.laneSlots l).find? (fun x => decide (x.reel = k) && decide (x.unit = u)) with
  | some x => placeFragment l x f s
  | none =>
    if (s.laneSlots l).length < Config.laneSlots then
      if f.damaged = true ∧ (s.freshSlot k u).contradicts l f = true then dropOversize s
      else placeFragment l (s.freshSlot k u) f
        { s.setSlots l (s.laneSlots l ++ [s.freshSlot k u]) with draws := s.draws + 1 }
    else s.count (fun c => { c with noSlot := bump32 1 c.noSlot })

/-- The first tests of the Unit Assembler (R25). -/
theorem assemble_of_base {l : Lane} {k base : Nat} {s : State} (h : s.base k l = some base) (u dur : Nat) (f : Fragment) :
    assemble l k u dur f s =
      if u < base then s.count (fun c => { c with stale := bump32 1 c.stale })
      else if (isTextLane l = false ∧ dur ≤ u) ∨ base + 3 < u then s.count (fun c => { c with ahead := bump32 1 c.ahead })
      else reachSlot l k u f s := by
  unfold assemble
  rw [h]
  cases l <;> rfl

theorem assemble_of_no_base {l : Lane} {k : Nat} {s : State} (h : s.base k l = none) (u dur : Nat) (f : Fragment) :
    assemble l k u dur f s = s := by
  unfold assemble
  rw [h]

theorem reachSlot_keepsBlocks (l : Lane) (k u : Nat) (f : Fragment) (s : State) : keepsBlocks s (reachSlot l k u f s) := by
  unfold reachSlot
  split
  case h_1 x hx => exact placeFragment_keepsBlocks (List.mem_of_find?_eq_some hx) f
  case h_2 hnone =>
    have hnew : ∀ y ∈ s.laneSlots l, ¬ (y.reel = k ∧ y.unit = u) := by
      simpa using List.find?_eq_none.mp hnone
    split
    · split
      · exact keepsBlocks_of_eq rfl rfl
      · refine keepsBlocks_trans (openSlot_keepsBlocks (x := s.freshSlot k u) (s.draws + 1) rfl hnew) (placeFragment_keepsBlocks ?_ f)
        rw [show State.laneSlots { s.setSlots l (s.laneSlots l ++ [s.freshSlot k u]) with draws := s.draws + 1 } l = _ from
          laneSlots_setSlots s l l _]
        simp
    · exact keepsBlocks_of_eq rfl rfl

theorem assemble_keepsBlocks (l : Lane) (k u dur : Nat) (f : Fragment) (s : State) : keepsBlocks s (assemble l k u dur f s) := by
  cases hb : s.base k l with
  | none => rw [assemble_of_no_base hb]; exact keepsBlocks_refl s
  | some base =>
    rw [assemble_of_base hb]
    split
    · exact keepsBlocks_of_eq rfl rfl
    split
    · exact keepsBlocks_of_eq rfl rfl
    · exact reachSlot_keepsBlocks l k u f s

theorem sortCell_keepsBlocks (c : Cell) (b : Bool) (s : State) : keepsBlocks s (sortCell c b s) := by
  unfold sortCell
  split
  · exact keepsBlocks_of_eq rfl rfl
  split
  · exact keepsBlocks_of_eq rfl rfl
  · exact assemble_keepsBlocks _ _ _ _ _ s

theorem deadline_keepsBlocks (l : Lane) (k u : Nat) (s : State) : keepsBlocks s (deadline l k u s) := by
  unfold deadline
  split
  · exact keepsBlocks_refl s
  dsimp only
  split
  · exact keepsBlocks_refl s
  · exact keepsBlocks_trans (keepsBlocks_trans (emptySlots_keepsBlocks l _ _ s)
      (t := emptySlots l _ noteDiscarded s) (keepsBlocks_of_eq (t := State.editWanted _ k _) rfl rfl)) (joinLane_keepsBlocks l _)

theorem pictureDue_keepsBlocks (i : Fin 2) (k u : Nat) (s : State) : keepsBlocks s (pictureDue i k u s).2 :=
  keepsBlocks_trans (deadline_keepsBlocks _ k u s) (unitDue_keepsBlocks _ k u _)

end Sys2Proof.Machine

/-! PROOF. The invariants of a step (R35, R100, R133, R144), by one walk through everything that a step can do: what each operation
keeps, once for all four. -/

namespace Sys2Proof.Machine

/-! ## What an operation keeps -/

/-- The parts of the state that the invariants read. -/
def State.view (s : State) : Lanes (List AsmSlot) × Buffer × (Int × Int) × Counting × Bool :=
  (s.slots, s.buffer, (s.sound.live, s.sound.staged), s.counting, s.running)

/-- What `s` keeps of the invariants `t` keeps: blocks, delays, reconciliation entries and, in a part that has started up, the used
showings.  Start-up does not complete. -/
structure Keeps (s t : State) : Prop where
  blocks : s.blocksConserved → t.blocksConserved
  delays : s.delaysInRange → t.delaysInRange
  reconciliations : s.reconciliationsKept → t.reconciliationsKept
  startup : t.counting.startup = .complete → s.counting.startup = .complete
  used : t.counting.startup = .complete → s.usedWithinLimits → t.usedWithinLimits

theorem Keeps.refl (s : State) : Keeps s s := ⟨id, id, id, id, fun _ => id⟩

theorem Keeps.trans {s t u : State} (h : Keeps s t) (h' : Keeps t u) : Keeps s u :=
  ⟨h'.blocks ∘ h.blocks, h'.delays ∘ h.delays, h'.reconciliations ∘ h.reconciliations, h.startup ∘ h'.startup,
    fun hu => h'.used hu ∘ h.used (h'.startup hu)⟩

theorem keeps_foldl {α : Type} {f : State → α → State} (h : ∀ s a, Keeps s (f s a)) :
    ∀ (l : List α) (s : State), Keeps s (l.foldl f s)
  | [], s => .refl s
  | a :: l, s => (h s a).trans (keeps_foldl h l (f s a))

theorem keeps_ite {s t u : State} {p : Prop} [Decidable p] (h : Keeps s t) (h' : Keeps s u) : Keeps s (if p then t else u) := by
  split <;> assumption

/-- The used showings are read off the records, the bound index and the charged mark. -/
theorem usedWithinLimits_of_records {s t : State} (hr : ∀ i, (t.place i).record = (s.place i).record)
    (hb : t.counting.bound = s.counting.bound) (hc : t.counting.charged = s.counting.charged) (h : s.usedWithinLimits) :
    t.usedWithinLimits := by
  intro i a n hi hn
  rw [hb, hc]
  exact h i a n (hr i ▸ hi) hn

/-- How many reconciliation entries wait. -/
def reconciliationCount (q : List StoreEntry) : Nat := (q.filter (fun e => decide (e.kind = .reconciliation))).length

theorem reconciliationsKept_iff (s : State) : s.reconciliationsKept ↔
    reconciliationCount s.counting.queue ≤ (if s.running = true ∧ s.counting.startup = .reconciling then 1 else 0) := Iff.rfl

/-- A change of the Showing Counter alone. -/
theorem keeps_of_counting {s t : State} (hslots : t.slots = s.slots) (hbuffer : t.buffer = s.buffer) (hsound : t.sound = s.sound)
    (hrunning : t.running = s.running) (hstartup : t.counting.startup = s.counting.startup)
    (hqueue : reconciliationCount t.counting.queue ≤ reconciliationCount s.counting.queue)
    (hused : s.usedWithinLimits → t.usedWithinLimits) : Keeps s t where
  blocks := keepsBlocks_of_eq hslots hbuffer
  delays h := by rw [State.delaysInRange, hsound]; exact h
  reconciliations h := by
    rw [reconciliationsKept_iff] at h ⊢
    rw [hrunning, hstartup]
    exact Nat.le_trans hqueue h
  startup h := hstartup ▸ h
  used _ := hused

/-- A change of nothing that the invariants read. -/
theorem keeps_of_view {s t : State} (h : t.view = s.view) : Keeps s t := by
  obtain ⟨hslots, hbuffer, hlive, hcounting, hrunning⟩ : t.slots = s.slots ∧ t.buffer = s.buffer ∧
      (t.sound.live = s.sound.live ∧ t.sound.staged = s.sound.staged) ∧ t.counting = s.counting ∧ t.running = s.running := by
    simpa [State.view] using h
  refine ⟨keepsBlocks_of_eq hslots hbuffer, fun hd => ?_, fun hr => ?_, fun hs => hcounting ▸ hs, fun _ hu => ?_⟩
  · rw [State.delaysInRange, hlive.1, hlive.2]; exact hd
  · rw [reconciliationsKept_iff, hcounting, hrunning]; exact hr
  · exact usedWithinLimits_of_records (fun i => by rw [State.place, State.place, hcounting]) (by rw [hcounting]) (by rw [hcounting]) hu

theorem keeps_of_content {s t : State} (h : contentFrom s t) (hb : keepsBlocks s t) : Keeps s t := by
  obtain ⟨hpowered, hpin, -, -, -, -, -, -, hsound, -, hcounting, -⟩ := h.fields
  have hrunning : t.running = s.running := by rw [State.running, State.running, hpowered, hpin]
  refine ⟨hb, fun hd => ?_, fun hr => ?_, fun hs => hcounting ▸ hs, fun _ hu => ?_⟩
  · rw [State.delaysInRange, hsound]; exact hd
  · rw [reconciliationsKept_iff, hcounting, hrunning]; exact hr
  · exact usedWithinLimits_of_records (fun i => by rw [State.place, State.place, hcounting]) (by rw [hcounting]) (by rw [hcounting]) hu

theorem keeps_of_reports {s t : State} (h : reportsFrom s t) : Keeps s t :=
  keeps_of_content (contentFrom_of_reports h) (keepsBlocks_of_reports h)

/-- A change of the Sound Router that keeps its delays in range. -/
theorem keeps_of_sound {s t : State} (hslots : t.slots = s.slots) (hbuffer : t.buffer = s.buffer)
    (hcounting : t.counting = s.counting) (hrunning : t.running = s.running) (hd : s.delaysInRange → t.delaysInRange) : Keeps s t where
  blocks := keepsBlocks_of_eq hslots hbuffer
  delays := hd
  reconciliations h := by rw [reconciliationsKept_iff, hcounting, hrunning]; exact h
  startup h := hcounting ▸ h
  used _ h :=
    usedWithinLimits_of_records (fun i => by rw [State.place, State.place, hcounting]) (by rw [hcounting]) (by rw [hcounting]) h

section

variable (s : State)

theorem mapTimeline_keeps (f : Timeline → Timeline) : Keeps s (s.mapTimeline f) := keeps_of_view rfl
theorem mapPicture_keeps (f : PictureOut → PictureOut) : Keeps s (s.mapPicture f) := keeps_of_view rfl
theorem count_keeps (f : Counters → Counters) : Keeps s (s.count f) := keeps_of_view rfl
theorem setHolds_keeps (h : AvLanes LaneHold) : Keeps s { s with holds := h } := keeps_of_view rfl
theorem setActions_keeps (a : ActionUnit) : Keeps s { s with actions := a } := keeps_of_view rfl
theorem setCues_keeps (c : CueEngine) : Keeps s { s with cues := c } := keeps_of_view rfl

/-- A change of the Sound Router that leaves its delays alone. -/
theorem mapSound_keeps {f : Sound → Sound} (hlive : (f s.sound).live = s.sound.live := by rfl)
    (hstaged : (f s.sound).staged = s.sound.staged := by rfl) : Keeps s (s.mapSound f) :=
  keeps_of_view (by simp [State.view, State.mapSound, hlive, hstaged, State.running])

theorem assertEvent_keeps (k : EventKind) : Keeps s (assertEvent k s) := keeps_of_reports (assertEvent_reports k s)
theorem deassertEvent_keeps (k : EventKind) : Keeps s (deassertEvent k s) := keeps_of_reports (deassertEvent_reports k s)
theorem setLevel_keeps (k : EventKind) (b : Bool) : Keeps s (setLevel k b s) := keeps_of_reports (setLevel_reports k b s)
theorem occur_keeps (k : EventKind) : Keeps s (occur k s) := keeps_of_reports (occur_reports k s)
theorem queueReport_keeps (r : Report) : Keeps s (queueReport r s) := keeps_of_reports (queueReport_reports r s)

theorem settleLeads_keeps (before : State) : Keeps s (settleLeads before s) :=
  keeps_of_content (settleLeads_content before s) (settleLeads_keepsBlocks before s)

theorem closeInstant_keeps (before : State) : Keeps s (closeInstant before s) :=
  keeps_of_content (closeInstant_content before s) (closeInstant_keepsBlocks before s)

theorem updateWanted_keeps : Keeps s (updateWanted s) := keeps_of_content (updateWanted_content s) (updateWanted_keepsBlocks s)

/-! ## The Showing Counter -/

/-- An evaluation changes derived states alone. -/
theorem setPlace_keeps {i : Fin 32} {p : Place} (h : p.record = (s.place i).record) : Keeps s (s.setPlace i p) := by
  refine keeps_of_counting rfl rfl rfl rfl rfl (Nat.le_refl _) (usedWithinLimits_of_records (fun j => ?_) rfl rfl)
  by_cases hj : i.val = j.val
  · obtain rfl := Fin.ext hj
    simpa [State.place, State.setPlace] using h
  · simp [State.place, State.setPlace, hj]

theorem evaluateWarnings_keeps : Keeps s (evaluateWarnings s) := (setLevel_keeps s _ _).trans (setLevel_keeps _ _ _)

theorem evaluatePlaces_keeps : Keeps s { s with counting := { s.counting with 
    places := mapVec (fun p => { p with state := deriveState s p.record }) s.counting.places } } :=
  keeps_of_counting rfl rfl rfl rfl rfl (Nat.le_refl _) (usedWithinLimits_of_records (fun i => by simp [State.place, getElem_mapVec]) rfl rfl)

theorem evaluateAll_keeps : Keeps s (evaluateAll s) :=
  (evaluatePlaces_keeps s).trans (evaluateWarnings_keeps _)

theorem evaluatePlace_keeps (i : Fin 32) : Keeps s (evaluatePlace i s) := setPlace_keeps s rfl

theorem evaluateChanged_keeps (i : Fin 32) : Keeps s (evaluateChanged i s) :=
  (evaluatePlace_keeps s i).trans (evaluateWarnings_keeps _)

theorem evaluateLog_keeps : Keeps s (evaluateLog s) := (setLevel_keeps s _ _).trans (setLevel_keeps _ _ _)

theorem reconciliationCount_append (q : List StoreEntry) (e : StoreEntry) :
    reconciliationCount (q ++ [e]) = reconciliationCount q + if e.kind = .reconciliation then 1 else 0 := by
  by_cases h : e.kind = .reconciliation <;> simp [reconciliationCount, List.filter_append, h]

theorem enqueueStore_keeps {e : StoreEntry} (h : e.kind ≠ .reconciliation) : Keeps s (enqueueStore e s) := by
  refine keeps_of_counting rfl rfl rfl rfl rfl ?_ (usedWithinLimits_of_records (fun _ => rfl) rfl rfl)
  refine Nat.le_of_eq ?_
  rw [show (enqueueStore e s).counting.queue = s.counting.queue ++ [e] from rfl, reconciliationCount_append, if_neg h, Nat.add_zero]

/-- The log and the next record number are in no invariant. -/
theorem setLog_keeps (log : List LogRecord) (n : Nat) :
    Keeps s { s with counting := { s.counting with log := log, next := n } } :=
  keeps_of_counting rfl rfl rfl rfl rfl (Nat.le_refl _) (usedWithinLimits_of_records (fun _ => rfl) rfl rfl)

theorem createRecord_keeps (r : LogRecord) : Keeps s (createRecord r s) :=
  ((setLog_keeps s _ _).trans (evaluateLog_keeps _)).trans (enqueueStore_keeps _ (by simp))

theorem recordMiss_keeps (e : SchedEntry) (w : MissReason) : Keeps s (recordMiss e w s) :=
  keeps_ite (createRecord_keeps s _) (.refl s)

/-- The showing that was counted towards its allowance's limit is charged (R133). -/
theorem markCharged_keeps {i : Fin 32} (hb : s.counting.bound = some i) (hc : s.counting.charged = false) :
    Keeps s { s.setPlace i (s.place i).charge with
      counting := { (s.setPlace i (s.place i).charge).counting with charged := true } } := by
  refine keeps_of_counting rfl rfl rfl rfl rfl (Nat.le_refl _) (fun h j a n hj hn => ?_)
  simp only [State.place, State.setPlace, Bool.true_eq_false, and_false, if_false, Nat.add_zero] at hj ⊢
  by_cases hij : i = j
  · subst hij
    simp only [Vector.getElem_set_self, Fin.getElem_fin, Place.charge] at hj
    obtain ⟨b, hrecord, rfl⟩ := Option.map_eq_some_iff.mp hj
    have hlimit := h i b n hrecord hn
    rw [if_pos ⟨hb, hc⟩] at hlimit
    exact Nat.le_trans (Nat.min_le_right _ _) hlimit
  · have hval : i.val ≠ j.val := fun e => hij (Fin.ext e)
    simp only [Fin.getElem_fin, Vector.getElem_set, hval, if_false] at hj
    exact Nat.le_trans (Nat.le_add_right _ _) (h j a n hj hn)

theorem setRecord_keeps (r : LogRecord) : Keeps s (s.setRecord r) := setLog_keeps s _ _

theorem takeCharge_keeps {i : Fin 32} (hb : s.counting.bound = some i) (hc : s.counting.charged = false) :
    Keeps s (takeCharge i s) := by
  have hrecord : ∀ (o : Option LogRecord) (t : State), Keeps t (match o with | some r => t.setRecord r | none => t) := by
    intro o t
    cases o
    · exact .refl t
    · exact setRecord_keeps t _
  exact ((((markCharged_keeps s hb hc).trans (hrecord _ _)).trans (enqueueStore_keeps _ (by simp))).trans
    (evaluateChanged_keeps _ i)).trans (occur_keeps _ _)

theorem countFeature_keeps : Keeps s (countFeature s) := by
  have hcount : Keeps s { s with timeline := { s.timeline with presented := s.timeline.presented + 1 } } := keeps_of_view rfl
  unfold countFeature
  dsimp only
  split
  case h_1 i hb =>
    split
    case isTrue h => exact hcount.trans (takeCharge_keeps _ hb h.1)
    case isFalse => exact hcount
  case h_2 => exact hcount

theorem queueClose_keeps (o : ShowOutcome) : Keeps s (queueClose o s) := enqueueStore_keeps s (by simp)

/-! ## The Sync Measurement Unit -/

theorem mapSync_keeps (f : Sync → Sync) : Keeps s (s.mapSync f) := keeps_of_view rfl

theorem retuneFrame_keeps : Keeps s (retuneFrame s) := keeps_ite (.refl s) (mapSync_keeps s _)

theorem followCursor_keeps (r : Reel) : Keeps s (followCursor r s) := keeps_ite (.refl s) (mapSync_keeps s _)

theorem clampDelay_inRange (n : Int) : -24000 ≤ clampDelay n ∧ clampDelay n ≤ 24000 := by
  simp only [clampDelay, Config.delayMax]
  omega

theorem stageDelay_keeps (n : Int) : Keeps s (stageDelay n s) := by
  have h : Keeps s { s with sound := { s.sound with staged := clampDelay n, pending := true } } := by
    refine keeps_of_sound rfl rfl rfl rfl (fun hd => ?_)
    obtain ⟨hlow, hhigh, -, -⟩ := hd
    exact ⟨hlow, hhigh, clampDelay_inRange n⟩
  exact keeps_ite h (h.trans (occur_keeps _ _))

theorem finishCheck_keeps : Keeps s (finishCheck s) := by
  unfold finishCheck
  dsimp only
  exact (mapSync_keeps s _).trans ((keeps_ite (occur_keeps _ .syncLimit) (.refl _)).trans
    ((keeps_ite (stageDelay_keeps _ _) (.refl _)).trans (occur_keeps _ .syncResult)))

theorem markRelease_keeps (k u : Nat) (b : Bool) : Keeps s (markRelease k u b s) := keeps_ite (mapSync_keeps s _) (.refl s)

theorem staleRecords_keeps : Keeps s (staleRecords s) := keeps_ite (mapSync_keeps s _) (.refl s)

theorem checkReelEnd_keeps (k : Nat) : Keeps s (checkReelEnd k s) :=
  keeps_ite (keeps_ite (mapSync_keeps s _) (finishCheck_keeps s)) (.refl s)

theorem checkClosing_keeps : Keeps s (checkClosing s) := keeps_ite ((mapSync_keeps s _).trans (finishCheck_keeps _)) (.refl s)

theorem afterPairCount_keeps : Keeps s (afterPairCount s) :=
  keeps_ite ((mapSync_keeps s _).trans (finishCheck_keeps _)) (mapSync_keeps s _)

theorem endPairCount_keeps (c : Channel) (n : CapCount) (v : CapChannel) : Keeps s (endPairCount c n v s) :=
  (mapSync_keeps s _).trans (afterPairCount_keeps _)

theorem badMeasurement_keeps : Keeps s (badMeasurement s) :=
  keeps_ite ((mapSync_keeps s _).trans (assertEvent_keeps _ _)) (mapSync_keeps s _)

theorem goodMeasurement_keeps : Keeps s (goodMeasurement s) :=
  keeps_ite ((mapSync_keeps s _).trans (deassertEvent_keeps _ _)) (mapSync_keeps s _)

theorem measureFrame_keeps (n : Nat) : Keeps s (measureFrame n s) := keeps_ite (goodMeasurement_keeps s) (badMeasurement_keeps s)

theorem loseFrame_keeps : Keeps s (loseFrame s) :=
  (mapSync_keeps s _).trans ((keeps_ite (badMeasurement_keeps _) (.refl _)).trans (assertEvent_keeps _ _))

theorem frameEdge_keeps (e : Edge) : Keeps s (frameEdge e s) := by
  unfold frameEdge
  have h : Keeps s (if e = .rising then deassertEvent .frameSignalLost s else s) :=
    keeps_ite (deassertEvent_keeps s .frameSignalLost) (.refl s)
  generalize (if e = .rising then deassertEvent .frameSignalLost s else s) = t at h
  refine h.trans ?_
  dsimp only
  split
  · exact mapSync_keeps _ _
  · exact mapSync_keeps _ _
  · split
    · exact (mapSync_keeps _ _).trans (measureFrame_keeps _ _)
    · exact mapSync_keeps _ _
  · exact mapSync_keeps _ _
  · exact .refl _

theorem pairEdge_keeps (c : Channel) (e : Edge) : Keeps s (pairEdge c e s) := by
  unfold pairEdge
  dsimp only
  split
  · exact mapSync_keeps s _
  · exact endPairCount_keeps s _ _ _
  · exact endPairCount_keeps s _ _ _
  · exact .refl s

theorem takeEdge_keeps (c : Channel) (e : Edge) : Keeps s (takeEdge c e s) := by
  cases c
  · exact pairEdge_keeps s _ e
  · exact pairEdge_keeps s _ e
  · exact frameEdge_keeps s e

theorem countTimeout_keeps (c : Channel) : Keeps s (countTimeout c s) := by
  refine keeps_ite (.refl s) ?_
  cases c
  · exact endPairCount_keeps s _ _ _
  · exact endPairCount_keeps s _ _ _
  · exact (keeps_ite (.refl s) (loseFrame_keeps s)).trans (mapSync_keeps _ _)

/-! ## The Sound Router -/

theorem noteSound_keeps (b : Bool) : Keeps s (noteSound b s) :=
  keeps_ite (((mapSound_keeps s).trans (count_keeps _ _)).trans (assertEvent_keeps _ _))
    (keeps_ite ((mapSound_keeps s).trans (deassertEvent_keeps _ _)) (mapSound_keeps s))

theorem deadline_keeps (l : Lane) (k u : Nat) : Keeps s (deadline l k u s) :=
  keeps_of_content (deadline_content l k u s) (deadline_keepsBlocks l k u s)

theorem unitDue_keeps (l : Lane) (k u : Nat) : Keeps s (unitDue l k u s).2 :=
  keeps_of_content (unitDue_content l k u s) (unitDue_keepsBlocks l k u s)

theorem takeGroup_keeps (k u : Nat) (r : Reel) (g : SoundGroup) : Keeps s (takeGroup k u r s g) := by
  unfold takeGroup
  split
  · exact .refl s
  · exact (((deadline_keeps s _ k u).trans (unitDue_keeps _ _ k u)).trans
      ((mapSound_keeps _).trans (setHolds_keeps _ _))).trans (noteSound_keeps _ _)

theorem enterSoundReel_keeps (k : Nat) (r : Reel) : Keeps s (enterSoundReel k r s) := keeps_ite (.refl s) (mapSound_keeps s)

theorem silenceLanes_keeps : Keeps s (silenceLanes s) := mapSound_keeps s

theorem passSoundCursor_keeps (k u : Nat) : Keeps s (passSoundCursor k u s) := keeps_of_view rfl

theorem soundInstant_keeps (k u : Nat) : Keeps s (soundInstant k u s) := by
  unfold soundInstant
  split
  · exact .refl s
  · exact ((((enterSoundReel_keeps s k _).trans (silenceLanes_keeps _)).trans
      (keeps_foldl (fun s g => takeGroup_keeps s k u _ g) _ _)).trans (passSoundCursor_keeps _ k u)).trans
      (closeInstant_keeps _ _)

theorem passLane_keeps (passed : List UnitRef) (i : Fin 4) : Keeps s (passLane passed s i) := by
  unfold passLane
  split
  · exact .refl s
  · exact (deadline_keeps s _ _ _).trans
      (keeps_of_content (dropStaleHeads_content _ _ _ _) (dropStaleHeads_keepsBlocks _ _ _ _))

theorem passSound_keeps (x : Int) : Keeps s (passSound x s) :=
  ((keeps_foldl (fun s i => passLane_keeps s _ i) _ s).trans (mapSound_keeps _)).trans
    (updateWanted_keeps _)

theorem skipSound_keeps (x : Int) : Keeps s (skipSound x s) := by
  unfold skipSound
  refine (passSound_keeps s x).trans ?_
  dsimp only
  split
  · exact keeps_ite (soundInstant_keeps _ _ _) (silenceLanes_keeps _)
  · exact silenceLanes_keeps _

/-- The staged delay that becomes live was in range. -/
theorem makeLive_keeps : Keeps s (makeLive s) := by
  have h : Keeps s (s.mapSound (fun d => { d with live := d.staged, pending := false })) := by
    refine keeps_of_sound rfl rfl rfl rfl (fun hd => ?_)
    obtain ⟨-, -, hlow, hhigh⟩ := hd
    exact ⟨hlow, hhigh, hlow, hhigh⟩
  exact keeps_ite (h.trans (staleRecords_keeps _)) h

theorem shiftSound_keeps (k u : Nat) (row : ReelRow) : Keeps s (shiftSound k u row s) :=
  ((makeLive_keeps s).trans (mapSound_keeps _)).trans
    (keeps_ite (silenceLanes_keeps _) (keeps_ite (skipSound_keeps _ _) (soundInstant_keeps _ _ _)))

theorem startSound_keeps : Keeps s (startSound s) := by
  unfold startSound
  dsimp only
  exact ((keeps_ite (makeLive_keeps s) (.refl s)).trans (mapSound_keeps _)).trans
    (keeps_ite (skipSound_keeps _ _) (.refl _))

/-! ## The Timeline -/

theorem enterState_keeps (st : ShowState) : Keeps s (enterState st s) :=
  ((mapTimeline_keeps s _).trans (retuneFrame_keeps _)).trans (keeps_of_reports (fireTrigger_reports _ _))

theorem reachTick_keeps (p : Nat) : Keeps s (reachTick p s) :=
  keeps_ite (.refl s) ((mapTimeline_keeps s _).trans (settleLeads_keeps _ _))

theorem firePositions_keeps (f : Nat → Bool) : Keeps s (firePositions f s) :=
  (setActions_keeps s _).trans (keeps_of_reports (fireMessages_reports _ _))

theorem missRelease_keeps : Keeps s (missRelease s) :=
  ((mapTimeline_keeps s _).trans (count_keeps _ _)).trans (assertEvent_keeps _ _)

theorem goodRelease_keeps : Keeps s (goodRelease s) :=
  keeps_ite ((mapTimeline_keeps s _).trans (deassertEvent_keeps _ _)) (mapTimeline_keeps s _)

theorem pictureDue_keeps (i : Fin 2) (k u : Nat) : Keeps s (pictureDue i k u s).2 :=
  keeps_of_content (pictureDue_content i k u s) (pictureDue_keepsBlocks i k u s)

theorem decidePicture_keeps (k u : Nat) (b : Bool) : Keeps s (decidePicture k u b s).2 := by
  unfold decidePicture
  dsimp only
  have hdue : Keeps s (if b = true then pictureDue 1 k u (pictureDue 0 k u s).2 else (none, (pictureDue 0 k u s).2)).2 := by
    split
    · exact (pictureDue_keeps s 0 k u).trans (pictureDue_keeps _ 1 k u)
    · exact pictureDue_keeps s 0 k u
  refine hdue.trans ?_
  generalize (if b = true then pictureDue 1 k u (pictureDue 0 k u s).2 else (none, (pictureDue 0 k u s).2)) = r
  have hpaces : ∀ (t : State) (x y : Bool), Keeps t (if b = true
      then paceOutcome (.pic 1) y (paceOutcome (.pic 0) x (t.mapPicture (fun p => { p with shown := p.last })))
      else paceOutcome (.pic 0) x (t.mapPicture (fun p => { p with shown := p.last }))) :=
    fun t x y => keeps_ite (keeps_of_view rfl) (keeps_of_view rfl)
  refine Keeps.trans ?_ (hpaces _ _ _)
  split
  · exact (mapPicture_keeps _ _).trans (goodRelease_keeps _)
  · exact missRelease_keeps _

theorem frameStart_keeps (k f : Nat) : Keeps s (frameStart k f s) :=
  keeps_of_content (frameStart_content k f s) (keepsBlocks_of_cues (frameStart_cuesFrom k f s))

theorem releaseUnit_keeps (k u : Nat) (row : ReelRow) : Keeps s (releaseUnit k u row s) :=
  (((((((decidePicture_keeps s k u _).trans (frameStart_keeps _ _ _)).trans (mapPicture_keeps _ _)).trans
    (markRelease_keeps _ _ _ _)).trans (firePositions_keeps _ _)).trans (keeps_ite (countFeature_keeps _) (.refl _))).trans
    ((mapTimeline_keeps _ _).trans (followCursor_keeps _ _))).trans (closeInstant_keeps _ _)

theorem takeInstant_keeps : Keeps s (takeInstant s) := by
  unfold takeInstant
  split
  · exact .refl s
  split
  · exact .refl s
  · exact releaseUnit_keeps s _ _ _

theorem enterGap_keeps (next : ReelRow) : Keeps s (enterGap next s) :=
  ((((mapTimeline_keeps s _).trans (setCues_keeps _ _)).trans (mapPicture_keeps _ _)).trans (retuneFrame_keeps _)).trans
    (firePositions_keeps _ _)

theorem crossBoundary_keeps (row next : ReelRow) : Keeps s (crossBoundary row next s) := by
  refine (keeps_ite (p := formatsDiffer row.reel next.reel = true) (mapPicture_keeps s (fun p => { p with last := none }))
    (.refl s)).trans (keeps_ite (enterGap_keeps _ _) ?_)
  exact (keeps_ite (.refl _) (mapSync_keeps _ _)).trans (takeInstant_keeps _)

theorem continueAt_keeps : Keeps s (continueAt s) := by
  unfold continueAt
  split
  · exact .refl s
  split
  · exact keeps_ite (crossBoundary_keeps s _ _) (keeps_ite (takeInstant_keeps s) (.refl s))
  · exact .refl s

theorem resumePlaying_keeps : Keeps s (resumePlaying s) :=
  ((((mapTimeline_keeps s _).trans (mapPicture_keeps _ _)).trans (deassertEvent_keeps _ _)).trans (enterState_keeps _ _)).trans
    (continueAt_keeps _)

theorem enterStalled_keeps : Keeps s (enterStalled s) :=
  ((((mapTimeline_keeps s _).trans (mapPicture_keeps _ _)).trans (assertEvent_keeps _ _)).trans (enterState_keeps _ _)).trans
    (keeps_ite (resumePlaying_keeps _) (.refl _))

theorem enterPaused_keeps (why : PauseReason) (timer : Option Nat) : Keeps s (enterPaused why timer s) :=
  ((mapTimeline_keeps s _).trans (mapPicture_keeps _ _)).trans (enterState_keeps _ _)

theorem resumeShowing_keeps : Keeps s (resumeShowing s) := keeps_ite (resumePlaying_keeps s) (enterStalled_keeps s)

theorem enterPlaying_keeps : Keeps s (enterPlaying s) := by
  have h : Keeps s (startSound (enterState .playing s)) := (enterState_keeps s _).trans (startSound_keeps _)
  unfold enterPlaying
  generalize startSound (enterState .playing s) = t at h
  exact (h.trans (settleLeads_keeps t t)).trans (takeInstant_keeps _)

theorem enterReady_keeps : Keeps s (enterReady s) := (enterState_keeps s _).trans (keeps_ite (enterPlaying_keeps _) (.refl _))

theorem settleFrom_keeps (before : State) : Keeps s (settleFrom before s) := by
  have h := settleLeads_keeps s before
  unfold settleFrom
  generalize settleLeads before s = t at h
  refine h.trans ?_
  dsimp only
  split
  · exact keeps_ite (enterReady_keeps _) (.refl _)
  · exact keeps_ite (.refl _) (enterState_keeps _ _)
  · exact keeps_ite (resumePlaying_keeps _) (.refl _)
  · exact .refl _

/-! ## Opening and closing a showing -/

/-- An allowance that a showing may be bound to has a used showing left (R128, R131). -/
def State.bindable (s : State) (bound : Option (Fin 32)) : Prop :=
  ∀ (i : Fin 32) (a : Allowance) (n : Nat), bound = some i → (s.place i).record = some a → a.allowed = some n → a.used < n

/-- An OPEN allowance has a used showing left. -/
theorem used_lt_of_opened {s : State} {a : Allowance} {n : Nat} (h : deriveState s (some a) = .opened) (hn : a.allowed = some n) :
    a.used < n := by
  refine Classical.byContradiction fun hle => ?_
  simp [deriveState, hn, Nat.not_lt.mp hle] at h
  split at h <;> cases h

theorem bindable_of_matchesAt {s : State} {comp : Nat} {i : Fin 32} (h : s.matchesAt comp i = true) : s.bindable (some i) := by
  rintro j a n hj hrecord hn
  obtain rfl := Option.some.inj hj
  simp only [State.matchesAt, Bool.and_eq_true, decide_eq_true_eq, hrecord] at h
  exact used_lt_of_opened h.2 hn

theorem matchesAt_of_matchAllowance {s : State} {comp : Nat} {index : Option Nat} {i : Fin 32}
    (h : s.matchAllowance comp index = some i) : s.matchesAt comp i = true := by
  unfold State.matchAllowance at h
  split at h
  · split at h
    · split at h
      · next hm => exact Option.some.inj h ▸ hm
      · cases h
    · cases h
  · exact List.find?_some h

/-- What a passed START found (R70, R131). -/
theorem startTests_ok {a : StartCall} {s : State} {i : Fin 4} {c : Composition} {b : Option (Fin 32)}
    (h : startTests a s = .ok (i, c, b)) :
    s.counting.startup = .complete ∧ s.timeline.state = .idle ∧ s.clock.isSet = true ∧ s.isAsserted .storeFault = false ∧
    s.logRoom = true ∧ s.comps[i] = .loaded c ∧ (c.feature = true → ∃ n, b = some n ∧ s.matchesAt c.ident n = true) ∧
    (c.feature = false → b = none) := by
  unfold startTests at h
  split at h; · cases h
  rename_i hstartup
  split at h; · cases h
  rename_i hidle
  split at h; · cases h
  split at h; · cases h
  rename_i hclock
  split at h; · cases h
  rename_i hfault
  split at h; · cases h
  rename_i hroom
  split at h; · cases h
  split at h; · cases h
  rename_i j _ _ d hloaded
  have hcomp : s.comps[j] = .loaded d := by
    unfold State.loadedSlot at hloaded
    split at hloaded
    · next hs => rw [hs, Option.some.inj hloaded]
    · cases hloaded
  have hbase : s.counting.startup = .complete ∧ s.timeline.state = .idle ∧ s.clock.isSet = true ∧
      s.isAsserted .storeFault = false ∧ s.logRoom = true :=
    ⟨Decidable.not_not.mp hstartup, Decidable.not_not.mp hidle, by simpa using hclock, by simpa using hfault, by simpa using hroom⟩
  obtain ⟨h1, h2, h3, h4, h5⟩ := hbase
  split at h
  · next hfeature =>
    split at h
    · next n hmatch =>
      cases h
      exact ⟨h1, h2, h3, h4, h5, hcomp, fun _ => ⟨n, rfl, matchesAt_of_matchAllowance hmatch⟩,
        fun hf => absurd hfeature (by simp [hf])⟩
    · cases h
  · next hhouse =>
    cases h
    exact ⟨h1, h2, h3, h4, h5, hcomp, fun hf => absurd hf hhouse, fun _ => rfl⟩

theorem startTests_bindable {a : StartCall} {s : State} {i : Fin 4} {c : Composition} {b : Option (Fin 32)}
    (h : startTests a s = .ok (i, c, b)) : s.bindable b := by
  obtain ⟨-, -, -, -, -, -, hfeature, hhouse⟩ := startTests_ok h
  cases hf : c.feature with
  | true =>
    obtain ⟨n, rfl, hmatch⟩ := hfeature hf
    exact bindable_of_matchesAt hmatch
  | false =>
    rintro j a n hj
    rw [hhouse hf] at hj
    cases hj

theorem State.bindable.of_records {s t : State} {b : Option (Fin 32)} (h : s.bindable b)
    (hr : ∀ i, (t.place i).record = (s.place i).record) : t.bindable b :=
  fun i a n hb hi hn => h i a n hb (hr i ▸ hi) hn

/-- A showing that opens counts towards the limit of the allowance it binds (R131, R133). -/
theorem bindShowing_keeps (i : Fin 4) (c : Composition) {b : Option (Fin 32)} (h : s.bindable b) : Keeps s (bindShowing i c b s) := by
  refine keeps_of_counting rfl rfl rfl rfl rfl (Nat.le_refl _) (fun hu j a n hj hn => ?_)
  have hplace : (s.place j).record = some a := hj
  show a.used + (if b = some j ∧ false = false then 1 else 0) ≤ n
  split
  · next hb => exact h j a n hb.1 hplace hn
  · exact Nat.le_trans (Nat.le_add_right _ _) (hu j a n hplace hn)

theorem evaluateAll_record (i : Fin 32) : ((evaluateAll s).place i).record = (s.place i).record := by
  simp [evaluateAll, evaluateWarnings, State.place]

theorem resolveActions_keeps : Keeps s (resolveActions s) := keeps_of_view rfl

theorem fixContext_keeps (i : Fin 4) (c : Composition) (a : StartCall) : Keeps s (fixContext i c a s) := keeps_of_view rfl

theorem openShowing_keeps (i : Fin 4) (c : Composition) {b : Option (Fin 32)} (a : StartCall) (h : s.bindable b) :
    Keeps s (openShowing i c b a s) := by
  have hbind : Keeps s (bindShowing i c b (fixContext i c a (evaluateAll s))) :=
    ((evaluateAll_keeps s).trans (fixContext_keeps _ i c a)).trans
      (bindShowing_keeps _ i c (h.of_records (evaluateAll_record s)))
  unfold openShowing
  generalize bindShowing i c b (fixContext i c a (evaluateAll s)) = t at hbind
  exact (((hbind.trans (createRecord_keeps _ _)).trans
    (keeps_of_content (addReel_content 0 _) (addReel_keepsBlocks 0 _))).trans (updateWanted_keeps _)).trans
    ((resolveActions_keeps _).trans (enterState_keeps _ _))

theorem acceptStart_keeps (i : Fin 4) (c : Composition) {b : Option (Fin 32)} (a : StartCall) (h : s.bindable b) :
    Keeps s (acceptStart i c b a s) := by
  have h := openShowing_keeps s i c a h
  unfold acceptStart
  generalize openShowing i c b a s = t at h
  exact h.trans (settleFrom_keeps t t)

theorem queueClosingReports_keeps : Keeps s (queueClosingReports s) := keeps_of_view rfl

theorem closeSound_keeps : Keeps s (closeSound s) := mapSound_keeps s

theorem setPicture_keeps (p : PictureOut) : Keeps s { s with picture := p } := keeps_of_view rfl
theorem setWanted_keeps (w : List Wanted) : Keeps s { s with wanted := w } := keeps_of_view rfl
theorem unresolveActions_keeps : Keeps s (unresolveActions s) := keeps_of_view rfl

theorem enterClosing_keeps (o : ShowOutcome) : Keeps s (enterClosing o s) := by
  have h1 : Keeps s (enterState .closing (unresolveActions (s.mapTimeline (Timeline.closing o)))) :=
    ((mapTimeline_keeps s _).trans (unresolveActions_keeps _)).trans (enterState_keeps _ _)
  unfold enterClosing
  dsimp only
  generalize enterState .closing (unresolveActions (s.mapTimeline (Timeline.closing o))) = t1 at h1 ⊢
  have h2 : Keeps s (queueClosingReports (deassertEvent .stall { closeSound t1 with picture := PictureOut.reset })) :=
    (((h1.trans (closeSound_keeps t1)).trans (setPicture_keeps _ _)).trans (deassertEvent_keeps _ _)).trans
      (queueClosingReports_keeps _)
  generalize queueClosingReports (deassertEvent .stall { closeSound t1 with picture := PictureOut.reset }) = t2 at h2 ⊢
  have h3 : Keeps s (purgeLanes { t2 with wanted := [] }) :=
    (h2.trans (setWanted_keeps t2 [])).trans (keeps_of_content (purgeLanes_content _) (purgeLanes_keepsBlocks _))
  generalize purgeLanes { t2 with wanted := [] } = t3 at h3 ⊢
  have h4 : Keeps s { t3 with holds := AvLanes.all LaneHold.reset } := h3.trans (setHolds_keeps t3 _)
  exact ((h4.trans (keeps_of_content (cueClosing_content _)
    (keepsBlocks_of_cues (cueClosing_cuesFrom _)))).trans (checkClosing_keeps _)).trans (queueClose_keeps _ _)

/-- An unbound showing counts towards no limit any more. -/
theorem unbind_keeps : Keeps s { s with counting := { s.counting with bound := none, point := none, charged := false } } := by
  refine keeps_of_counting rfl rfl rfl rfl rfl (Nat.le_refl _) (fun hu j a n hj hn => ?_)
  exact Nat.le_trans (Nat.le_add_right _ _) (hu j a n hj hn)

theorem setComps_keeps (c : Vector Slot 4) : Keeps s { s with comps := c } := keeps_of_view rfl

theorem returnIdle_keeps : Keeps s (returnIdle s) :=
  ((((unbind_keeps s).trans (setComps_keeps _ _)).trans (mapTimeline_keeps _ (fun _ => Timeline.reset))).trans
    (enterState_keeps _ _)).trans (occur_keeps _ _)

theorem reelEnds_keeps (k : Nat) : Keeps s (reelEnds k s) :=
  (keeps_of_content (cueReelEnd_content k s) (keepsBlocks_of_cues (cueReelEnd_cuesFrom k s))).trans (checkReelEnd_keeps _ k)

theorem afterInterval_keeps (k u : Nat) (row : ReelRow) : Keeps s (afterInterval k u row s) := by
  have h : Keeps s ((if decide (row.reel.dur ≤ u + 1) = true then reelEnds k s else s).mapTimeline
      (fun t => { t with interval := none })) := (keeps_ite (reelEnds_keeps s k) (.refl s)).trans (mapTimeline_keeps _ _)
  unfold afterInterval
  dsimp only
  generalize (if decide (row.reel.dur ≤ u + 1) = true then reelEnds k s else s).mapTimeline
    (fun t => { t with interval := none }) = t at h ⊢
  refine h.trans ?_
  split
  · exact enterClosing_keeps _ _
  refine keeps_ite (keeps_ite (enterPaused_keeps _ _ _) (enterPaused_keeps _ _ _)) (keeps_ite (enterPaused_keeps _ _ _)
    (keeps_ite (enterStalled_keeps _) (keeps_ite ?_ (.refl _))))
  split
  · exact crossBoundary_keeps _ _ _
  · exact .refl _

theorem endInterval_keeps : Keeps s (endInterval s) := by
  unfold endInterval
  split
  · exact .refl s
  split
  · exact .refl s
  · exact (reachTick_keeps s _).trans (afterInterval_keeps _ _ _ _)

theorem endGap_keeps : Keeps s (endGap s) := by
  unfold endGap
  split
  · exact .refl s
  split
  · exact .refl s
  · exact ((reachTick_keeps s _).trans (mapTimeline_keeps _ _)).trans
      (keeps_ite (enterPaused_keeps _ _ _) ((retuneFrame_keeps _).trans (takeInstant_keeps _)))

theorem atInstant_keeps : Keeps s (atInstant s) := keeps_ite (keeps_ite (endGap_keeps s) (endInterval_keeps s)) (.refl s)

end

end Sys2Proof.Machine

/-! PROOF. The invariants of a step, continued: the clock, the resets, the commands, the link, the events of time and the step itself. -/

namespace Sys2Proof.Machine

section

variable (s : State)

/-! ## The Schedule Unit -/

theorem setLink_keeps (l : LinkPort) : Keeps s { s with link := l } := keeps_of_view rfl
theorem setClock_keeps (c : Clock) : Keeps s { s with clock := c } := keeps_of_view rfl
theorem setSchedule_keeps (x : Schedule) : Keeps s { s with schedule := x } := keeps_of_view rfl
theorem setMgmt_keeps (m : Management) : Keeps s { s with mgmt := m } := keeps_of_view rfl
theorem drawBool_keeps : Keeps s s.drawBool.2 := keeps_of_view rfl

theorem rollDamage_keeps : Keeps s (rollDamage s) :=
  (keeps_ite (deassertEvent_keeps s _) (.refl s)).trans (setLink_keeps _ _)

theorem heartbeatAt_keeps (n : Nat) : Keeps s (heartbeatAt n s) :=
  keeps_ite ((setSchedule_keeps s _).trans (assertEvent_keeps _ _)) (setSchedule_keeps s _)

theorem missHead_keeps (e : SchedEntry) (w : MissReason) : Keeps s (missHead e w s) :=
  ((setSchedule_keeps s _).trans (recordMiss_keeps _ e w)).trans (occur_keeps _ _)

theorem checkHead_keeps : Keeps s (checkHead s) := by
  unfold checkHead
  split
  · exact .refl s
  refine keeps_ite (missHead_keeps s _ _) (keeps_ite (.refl s) (keeps_ite (.refl s) ?_))
  split
  · next h => exact (setSchedule_keeps s _).trans (acceptStart_keeps _ _ _ _ (startTests_bindable h))
  · exact missHead_keeps s _ _
  · exact missHead_keeps s _ _
  · exact .refl s

theorem checkStart_keeps : Keeps s (checkStart s) := keeps_ite (enterPlaying_keeps s) (.refl s)

theorem serveRoll_keeps (minute : Bool) : Keeps s (serveRoll minute s) :=
  (((rollDamage_keeps s).trans (keeps_ite (evaluateAll_keeps _) (.refl _))).trans (checkHead_keeps _)).trans (checkStart_keeps _)

theorem rollSecond_keeps : Keeps s (rollSecond s) :=
  keeps_ite (((setClock_keeps s _).trans (heartbeatAt_keeps _ _)).trans (serveRoll_keeps _ _)) (setClock_keeps s _)

/-! ## Power and resets -/

theorem reset_blocksConserved : State.reset.blocksConserved := by
  refine ⟨by decide, fun l => ?_⟩
  cases l <;> simp [State.slotsDistinct, State.laneSlots, State.reset, Lanes.all, Lanes.get]

/-- A state with empty blocks, delays of 0 and nothing to write meets the invariants, start-up being not COMPLETE. -/
theorem keeps_of_reset {t : State} (hslots : t.slots = State.reset.slots) (hbuffer : t.buffer = State.reset.buffer)
    (hsound : t.sound = Sound.reset) (hqueue : t.counting.queue = []) (hstartup : t.counting.startup ≠ .complete) : Keeps s t where
  blocks _ := keepsBlocks_of_eq hslots hbuffer reset_blocksConserved
  delays _ := by rw [State.delaysInRange, hsound]; decide
  reconciliations _ := by rw [reconciliationsKept_iff, hqueue]; exact Nat.zero_le _
  startup h := absurd h hstartup
  used h := absurd h hstartup

theorem resetTo_keeps (cause : ResetCause) : Keeps s (resetTo cause s) := by
  rw [resetTo_eq]
  refine keeps_of_reset s rfl rfl rfl rfl ?_
  dsimp only
  split <;> decide

theorem losePower_keeps : Keeps s (losePower s) := by
  rw [losePower_eq]
  exact keeps_of_reset s rfl rfl rfl rfl (fun h => nomatch h)

theorem takeSignal_keeps : Keeps s (takeSignal s) := keeps_ite (setLink_keeps s _) (.refl s)

/-- In reset no reconciliation entry waits, and none appears as the RESET pin is released. -/
theorem releasePin_keeps (h : s.resetPin = true) : Keeps s (releasePin s) := by
  have hrunning : s.running = false := by simp [State.running, h]
  have hnone : s.reconciliationsKept → reconciliationCount s.counting.queue ≤ 0 := fun hr => by
    rw [reconciliationsKept_iff, hrunning] at hr
    exact hr
  have hread : Keeps s { s with resetPin := false, counting := { s.counting with startup := .reading } } :=
    ⟨keepsBlocks_of_eq rfl rfl, id, fun hr => Nat.le_trans (hnone hr) (Nat.zero_le _), nofun, nofun⟩
  have hpin : Keeps s { s with resetPin := false } :=
    ⟨keepsBlocks_of_eq rfl rfl, id, fun hr => Nat.le_trans (hnone hr) (Nat.zero_le _), id, fun _ => id⟩
  exact keeps_ite (hread.trans (takeSignal_keeps _)) hpin

/-- A part without power that is put into reset keeps everything. -/
theorem holdPin_keeps (h : s.powered = false) : Keeps s { s with resetPin := true } :=
  keeps_of_view (by simp [State.view, State.running, h])

theorem assertPin_keeps : Keeps s (assertPin s) := by
  unfold assertPin
  refine keeps_ite (.refl s) ?_
  split
  case isTrue =>
    have h := resetTo_keeps { s with resetPin := true } .resetLine
    rw [resetTo_eq] at h ⊢
    exact keeps_of_reset s rfl rfl rfl rfl (by simp)
  case isFalse h => exact holdPin_keeps s (by simpa using h)

theorem deassertPin_keeps : Keeps s (deassertPin s) := by
  unfold deassertPin
  split
  case isTrue h => exact releasePin_keeps s h
  case isFalse => exact .refl s

theorem restartIf_keeps (due : Bool) : Keeps s (restartIf due s) := keeps_ite (resetTo_keeps s _) (.refl s)

/-! ## The link -/

theorem leaveUp_keeps (target : LinkState) (own : Bool) : Keeps s (leaveUp target own s) :=
  keeps_ite (((setLink_keeps s _).trans (assertEvent_keeps _ _)).trans (setLink_keeps _ _))
    ((setLink_keeps s _).trans (assertEvent_keeps _ _))

theorem dropLink_keeps (target : LinkState) (own : Bool) : Keeps s (dropLink target own s) :=
  (leaveUp_keeps s target own).trans (restartIf_keeps _ _)

theorem reannounce_keeps : Keeps s (reannounce s) :=
  (keeps_foldl (f := fun s (w : Wanted) => queueReport (w.report false) s) (fun s _ => queueReport_keeps s _) _ s).trans
    (keeps_foldl (fun s _ => queueReport_keeps s _) _ _)

theorem recordClear_keeps (k : EventKind) : Keeps s (recordClear k s) :=
  keeps_ite (keeps_of_reports (recordDeassert_reports k s)) (.refl s)

theorem fireClear_keeps (k : EventKind) (b : Bool) : Keeps s (fireClear k b s) :=
  keeps_ite (keeps_of_reports (fireTrigger_reports _ s)) (.refl s)

theorem enterUp_keeps (limit lanes : Nat) : Keeps s (enterUp limit lanes s) := by
  have h : Keeps s (fireClear .linkDown (s.isAsserted .linkDown) (fireClear .linkFault (s.isAsserted .linkFault)
      (reannounce (recordClear .linkDown (recordClear .linkFault { s with link := s.link.enterUp limit lanes }))))) :=
    ((((setLink_keeps s _).trans (recordClear_keeps _ _)).trans (recordClear_keeps _ _)).trans (reannounce_keeps _)).trans
      ((fireClear_keeps _ _ _).trans (fireClear_keeps _ _ _))
  unfold enterUp
  dsimp only
  generalize fireClear .linkDown _ _ = t at h ⊢
  have h' : Keeps s (compareStrides limit t) :=
    h.trans (keeps_of_content (compareStrides_content limit t) (compareStrides_keepsBlocks limit t))
  exact h'.trans (setLink_keeps _ _)

theorem takeAbility_keeps (n : Nat) (offered : List Nat) : Keeps s (takeAbility n offered s) :=
  keeps_ite (.refl s) (keeps_ite (enterUp_keeps s _ _) ((setLink_keeps s _).trans (assertEvent_keeps _ _)))

theorem receiveAbility_keeps (n : Nat) (offered : List Nat) : Keeps s (receiveAbility n offered s) := by
  unfold receiveAbility
  split
  · exact .refl s
  · exact takeAbility_keeps s n offered
  · exact ((leaveUp_keeps s _ _).trans (takeAbility_keeps _ n offered)).trans (restartIf_keeps _ _)

theorem setSignal_keeps (b : Bool) : Keeps s { s with signal := b } := keeps_of_view rfl

theorem detectSignal_keeps : Keeps s (detectSignal s) := (setSignal_keeps s true).trans (takeSignal_keeps _)

theorem loseSignal_keeps : Keeps s (loseSignal s) := by
  unfold loseSignal
  refine (setSignal_keeps s false).trans (keeps_ite (.refl _) ?_)
  split
  · exact .refl _
  · exact setLink_keeps _ _
  · exact dropLink_keeps _ _ _

theorem nextAttempt_keeps : Keeps s (nextAttempt s) := keeps_ite (setLink_keeps s _) (.refl s)

theorem takeRetrain_keeps : Keeps s (takeRetrain s) := by
  unfold takeRetrain
  split
  · exact .refl s
  · exact setLink_keeps s _
  · exact dropLink_keeps s _ _

theorem clearLatches_keeps (r : Report) : Keeps s (clearLatches r s) := by
  unfold clearLatches
  split
  · exact keeps_of_view rfl
  · exact .refl s

theorem sendReport_keeps : Keeps s (sendReport s) := by
  unfold sendReport
  refine keeps_ite (.refl s) ?_
  split
  · exact .refl s
  · exact ((setLink_keeps s _).trans (clearLatches_keeps _ _)).trans (restartIf_keeps _ _)

theorem sendFill_keeps : Keeps s (sendFill s) := keeps_ite (setLink_keeps s _) (.refl s)

/-! ## Management commands -/

theorem reply_keeps (code tag : Nat) (r : Results) : Keeps s (reply code tag r s) := keeps_of_reports (reply_reports code tag r s)
theorem refuse_keeps (code tag : Nat) (r : Reason) : Keeps s (refuse code tag r s) := keeps_of_reports (refuse_reports code tag r s)
theorem refuseAt_keeps (code tag : Nat) (r : Reason) (n : Nat) : Keeps s (refuseAt code tag r n s) := queueReport_keeps s _

theorem acceptCommand_keeps : Keeps s (acceptCommand s) := (setSchedule_keeps s _).trans (deassertEvent_keeps _ _)

/-- A command keeps what its body keeps. -/
theorem manage_keeps {code tag : Nat} {body : State → State} (h : ∀ t, Keeps t (body t)) : Keeps s (manage code tag body s) :=
  (acceptCommand_keeps s).trans (keeps_ite (refuse_keeps _ _ _ _) (keeps_ite (refuse_keeps _ _ _ _) (h _)))

theorem serveIdentify_keeps (tag : Nat) : Keeps s (serveIdentify tag s) := manage_keeps s (fun t => reply_keeps t _ _ _)

theorem applyClock_keeps (x : TimeOfDay) : Keeps s (applyClock x s) :=
  ((((setClock_keeps s _).trans (deassertEvent_keeps _ _)).trans (drawBool_keeps _)).trans (heartbeatAt_keeps _ _)).trans
    (serveRoll_keeps _ _)

theorem serveSetClock_keeps (tag : Nat) (x : TimeOfDay) : Keeps s (serveSetClock tag x s) :=
  manage_keeps s (fun t => keeps_ite ((applyClock_keeps t x).trans (reply_keeps _ _ _ _)) (refuse_keeps t _ _ _))

theorem checkTimers_keeps : Keeps s (checkTimers s) := keeps_ite (enterClosing_keeps s _) (.refl s)

theorem applyLimits_keeps (new : Limits) : Keeps s (applyLimits new s) := by
  have h : Keeps s (checkTimers (settleFrom s (s.setLimits new))) :=
    ((setMgmt_keeps s _).trans (settleFrom_keeps _ s)).trans (checkTimers_keeps _)
  unfold applyLimits
  generalize checkTimers (settleFrom s (s.setLimits new)) = t at h
  exact keeps_ite h (h.trans (evaluateWarnings_keeps t))

theorem serveSetLimits_keeps (tag : Nat) (l : List LimitArgs) : Keeps s (serveSetLimits tag l s) :=
  manage_keeps s (fun t => keeps_ite (refuse_keeps t _ _ _) ((applyLimits_keeps t _).trans (reply_keeps _ _ _ _)))

theorem serveReadStatus_keeps (tag : Nat) : Keeps s (serveReadStatus tag s) := manage_keeps s (fun t => reply_keeps t _ _ _)

theorem serveReadCounters_keeps (tag : Nat) : Keeps s (serveReadCounters tag s) :=
  manage_keeps s (fun t => (setMgmt_keeps t _).trans (reply_keeps _ _ _ _))

theorem serveKeepalive_keeps (tag : Nat) : Keeps s (serveKeepalive tag s) := manage_keeps s (fun t => reply_keeps t _ _ _)

theorem serveRestart_keeps (tag : Nat) : Keeps s (serveRestart tag s) :=
  manage_keeps s (fun t => ((setMgmt_keeps t _).trans (reply_keeps _ _ _ _)).trans (restartIf_keeps _ _))

theorem loadInto_keeps (tag : Nat) (i : Fin 4) (raw : RawComposition) : Keeps s (loadInto tag i raw s) := by
  unfold loadInto
  refine keeps_ite (refuse_keeps s _ _ _) (keeps_ite (refuse_keeps s _ _ _) ?_)
  split
  · exact refuseAt_keeps s _ _ _ _
  · exact keeps_ite (refuse_keeps s _ _ _) (keeps_ite (refuse_keeps s _ _ _) ((setComps_keeps s _).trans (reply_keeps _ _ _ _)))

theorem serveLoadComposition_keeps (tag : Nat) (args : List Byte) : Keeps s (serveLoadComposition tag args s) := by
  refine manage_keeps s (fun t => ?_)
  split
  · exact refuse_keeps t _ _ _
  split
  · exact refuse_keeps t _ _ _
  · exact refuse_keeps t _ _ _
  · exact loadInto_keeps t _ _ _

theorem serveClearSlot_keeps (tag slot : Nat) : Keeps s (serveClearSlot tag slot s) := by
  refine manage_keeps s (fun t => ?_)
  split
  · exact refuse_keeps t _ _ _
  split
  · exact refuse_keeps t _ _ _
  · exact refuse_keeps t _ _ _
  · exact (setComps_keeps t _).trans (reply_keeps _ _ _ _)

theorem serveLoadRouting_keeps (tag map : Nat) (l : List RouteArgs) : Keeps s (serveLoadRouting tag map l s) := by
  refine manage_keeps s (fun t => ?_)
  split
  · exact refuse_keeps t _ _ _
  split
  · exact keeps_ite (refuse_keeps t _ _ _) ((mapSound_keeps t).trans (reply_keeps _ _ _ _))
  · exact refuse_keeps t _ _ _

theorem serveLoadActions_keeps (tag first : Nat) (l : List ActionArgs) : Keeps s (serveLoadActions tag first l s) := by
  refine manage_keeps s (fun t => keeps_ite (refuse_keeps t _ _ _) ?_)
  split
  · exact refuseAt_keeps t _ _ _ _
  · exact (setActions_keeps t _).trans (reply_keeps _ _ _ _)

theorem setMask_keeps (a : MaskArgs) : Keeps s (setMask s a) := keeps_of_view rfl

theorem serveSetEventMask_keeps (tag : Nat) (l : List MaskArgs) : Keeps s (serveSetEventMask tag l s) :=
  manage_keeps s (fun t => keeps_ite (refuse_keeps t _ _ _) ((keeps_foldl setMask_keeps l t).trans (reply_keeps _ _ _ _)))

theorem serveReadEvent_keeps (tag kind : Nat) : Keeps s (serveReadEvent tag kind s) :=
  manage_keeps s (fun t => keeps_ite (refuse_keeps t _ _ _) (reply_keeps t _ _ _))

/-- A changed place whose record keeps within the limit, and is not that of an uncharged showing unless its used showings stand. -/
theorem changePlace_keeps {i : Fin 32} {p : Place}
    (h : ∀ a n, p.record = some a → a.allowed = some n → s.usedWithinLimits →
      a.used + (if s.counting.bound = some i ∧ s.counting.charged = false then 1 else 0) ≤ n) : Keeps s (s.setPlace i p) := by
  refine keeps_of_counting rfl rfl rfl rfl rfl (Nat.le_refl _) (fun hu j a n hj hn => ?_)
  by_cases hij : i = j
  · subst hij
    exact h a n (by simpa [State.place, State.setPlace] using hj) hn hu
  · have hval : i.val ≠ j.val := fun e => hij (Fin.ext e)
    exact hu j a n (by simpa [State.place, State.setPlace, hval] using hj) hn

theorem queuePlace_keeps {i : Fin 32} {p : Place} {owed : State → Owed} (h : Keeps s (s.setPlace i p)) :
    Keeps s (queuePlace i p owed s) := by
  unfold queuePlace
  generalize s.setPlace i p = t at h
  exact (h.trans (evaluateChanged_keeps t i)).trans (enqueueStore_keeps _ (by simp [allowanceEntry]))

theorem serveLoadAllowance_keeps (tag : Nat) (a : AllowanceArgs) : Keeps s (serveLoadAllowance tag a s) := by
  refine manage_keeps s (fun t => ?_)
  split
  · exact refuse_keeps t _ _ _
  refine keeps_ite (refuse_keeps t _ _ _) ?_
  split
  · exact refuse_keeps t _ _ _
  next hbusy =>
    refine queuePlace_keeps t (changePlace_keeps t (fun b n hb hn _ => ?_))
    obtain rfl := Option.some.inj hb
    have hbound : ¬ (t.counting.bound = some _ ∧ t.counting.charged = false) := fun h => hbusy (.inl h.1)
    rw [if_neg hbound]
    exact Nat.zero_le n

theorem serveRevokeAllowance_keeps (tag index : Nat) : Keeps s (serveRevokeAllowance tag index s) := by
  refine manage_keeps s (fun t => ?_)
  split
  · exact refuse_keeps t _ _ _
  split
  · exact refuse_keeps t _ _ _
  next a ha =>
    refine keeps_ite (reply_keeps t _ _ _) (keeps_ite (refuse_keeps t _ _ _) ?_)
    refine queuePlace_keeps t (changePlace_keeps t (fun b n hb hn hu => ?_))
    obtain rfl := Option.some.inj hb
    exact hu _ a n ha hn

theorem serveClearAllowance_keeps (tag index : Nat) : Keeps s (serveClearAllowance tag index s) := by
  refine manage_keeps s (fun t => ?_)
  split
  · exact refuse_keeps t _ _ _
  · exact keeps_ite (refuse_keeps t _ _ _) (keeps_ite (refuse_keeps t _ _ _)
      (queuePlace_keeps t (changePlace_keeps t (fun _ _ hb => nomatch hb))))

theorem serveReadLog_keeps (tag first count : Nat) : Keeps s (serveReadLog tag first count s) :=
  manage_keeps s (fun t => keeps_ite (refuse_keeps t _ _ _) (reply_keeps t _ _ _))

theorem serveMarkExported_keeps (tag n : Nat) : Keeps s (serveMarkExported tag n s) :=
  manage_keeps s (fun t => keeps_ite (refuse_keeps t _ _ _) (keeps_ite (reply_keeps t _ _ _) (keeps_ite (refuse_keeps t _ _ _)
    (((setLog_keeps t _ _).trans (evaluateLog_keeps _)).trans (enqueueStore_keeps _ (by simp))))))

theorem serveScheduleAdd_keeps (tag : Nat) (e : SchedEntry) : Keeps s (serveScheduleAdd tag e s) :=
  manage_keeps s (fun t => keeps_ite (refuse_keeps t _ _ _) (keeps_ite (refuse_keeps t _ _ _) (keeps_ite (refuse_keeps t _ _ _)
    (keeps_ite (refuse_keeps t _ _ _) (keeps_ite (refuse_keeps t _ _ _) ((setSchedule_keeps t _).trans (reply_keeps _ _ _ _)))))))

theorem serveScheduleCancel_keeps (tag ident : Nat) : Keeps s (serveScheduleCancel tag ident s) :=
  manage_keeps s (fun t => keeps_ite ((setSchedule_keeps t _).trans (reply_keeps _ _ _ _)) (refuse_keeps t _ _ _))

theorem serveScheduleClear_keeps (tag : Nat) : Keeps s (serveScheduleClear tag s) :=
  manage_keeps s (fun t => (setSchedule_keeps t _).trans (reply_keeps _ _ _ _))

theorem serveReadSchedule_keeps (tag : Nat) : Keeps s (serveReadSchedule tag s) := manage_keeps s (fun t => reply_keeps t _ _ _)

theorem serveStart_keeps (tag : Nat) (a : StartArgs) : Keeps s (serveStart tag a s) := by
  refine manage_keeps s (fun t => ?_)
  split
  · exact refuse_keeps t _ _ _
  · next h => exact (acceptStart_keeps t _ _ _ (startTests_bindable h)).trans (reply_keeps _ _ _ _)

theorem servePause_keeps (tag : Nat) : Keeps s (servePause tag s) := by
  refine manage_keeps s (fun t => ?_)
  split
  · exact ((atInstant_keeps t).trans (mapTimeline_keeps _ _)).trans (reply_keeps _ _ _ _)
  · exact ((deassertEvent_keeps t _).trans (enterPaused_keeps _ _ _)).trans (reply_keeps _ _ _ _)
  · exact refuse_keeps t _ _ _

theorem serveResume_keeps (tag : Nat) : Keeps s (serveResume tag s) := by
  refine manage_keeps s (fun t => ?_)
  split
  · exact (resumeShowing_keeps t).trans (reply_keeps _ _ _ _)
  · exact refuse_keeps t _ _ _

theorem serveStop_keeps (tag : Nat) : Keeps s (serveStop tag s) := by
  refine manage_keeps s (fun t => ?_)
  split
  · exact refuse_keeps t _ _ _
  · exact refuse_keeps t _ _ _
  · exact (enterClosing_keeps t _).trans (reply_keeps _ _ _ _)

theorem serveSetSync_keeps (tag : Nat) (delay : Int) : Keeps s (serveSetSync tag delay s) :=
  manage_keeps s (fun t => (stageDelay_keeps t delay).trans (reply_keeps _ _ _ _))

theorem serveSyncCheck_keeps (tag : Nat) (auto : Bool) : Keeps s (serveSyncCheck tag auto s) := by
  refine manage_keeps s (fun t => keeps_ite (refuse_keeps t _ _ _) (keeps_ite (refuse_keeps t _ _ _) ?_))
  split
  · exact refuse_keeps t _ _ _
  · exact (mapSync_keeps t _).trans (reply_keeps _ _ _ _)

theorem withArgs_keeps {α : Type} {code tag : Nat} {args : Option α} {f : α → State → State} (h : ∀ a, Keeps s (f a s)) :
    Keeps s (withArgs code tag args f s) := by
  unfold withArgs
  split
  · exact h _
  · exact manage_keeps s (fun t => refuse_keeps t _ _ _)

theorem serveCode_keeps (code tag : Nat) (args : List Byte) : Keeps s (serveCode code tag args s) := by
  unfold serveCode
  split
  · exact serveIdentify_keeps s tag
  · exact withArgs_keeps s (serveSetClock_keeps s tag)
  · exact withArgs_keeps s (serveSetLimits_keeps s tag)
  · exact serveReadStatus_keeps s tag
  · exact serveReadCounters_keeps s tag
  · exact serveKeepalive_keeps s tag
  · exact serveRestart_keeps s tag
  · exact serveLoadComposition_keeps s tag args
  · exact withArgs_keeps s (serveClearSlot_keeps s tag)
  · exact withArgs_keeps s (fun a => serveLoadRouting_keeps s tag a.1 a.2)
  · exact withArgs_keeps s (fun a => serveLoadActions_keeps s tag a.1 a.2)
  · exact withArgs_keeps s (serveSetEventMask_keeps s tag)
  · exact withArgs_keeps s (serveLoadAllowance_keeps s tag)
  · exact withArgs_keeps s (serveRevokeAllowance_keeps s tag)
  · exact withArgs_keeps s (serveClearAllowance_keeps s tag)
  · exact withArgs_keeps s (fun a => serveReadLog_keeps s tag a.1 a.2)
  · exact withArgs_keeps s (serveMarkExported_keeps s tag)
  · exact withArgs_keeps s (serveScheduleAdd_keeps s tag)
  · exact withArgs_keeps s (serveScheduleCancel_keeps s tag)
  · exact serveScheduleClear_keeps s tag
  · exact withArgs_keeps s (serveStart_keeps s tag)
  · exact servePause_keeps s tag
  · exact serveResume_keeps s tag
  · exact serveStop_keeps s tag
  · exact withArgs_keeps s (serveSetSync_keeps s tag)
  · exact withArgs_keeps s (fun n => serveSyncCheck_keeps s tag _)
  · exact withArgs_keeps s (serveReadEvent_keeps s tag)
  · exact serveReadSchedule_keeps s tag
  · exact manage_keeps s (fun t => refuse_keeps t _ _ _)

theorem serveCell_keeps (payload : List Byte) : Keeps s (serveCell payload s) := by
  unfold serveCell
  split
  · exact serveCode_keeps s _ _ _
  · exact manage_keeps s (fun t => refuse_keeps t _ _ _)

theorem serveUnknown_keeps (payload : List Byte) : Keeps s (serveUnknown payload s) := by
  unfold serveUnknown
  split <;> exact manage_keeps s (fun t => refuse_keeps t _ _ _)

/-! ## Inbound cells -/

theorem noteDamage_keeps : Keeps s (noteDamage s) :=
  keeps_ite ((setLink_keeps s _).trans (assertEvent_keeps _ _)) (setLink_keeps s _)

theorem noteClass_keeps (k : CellClass) : Keeps s (noteClass k s) := by
  cases k
  · exact count_keeps s _
  · exact (count_keeps s _).trans (noteDamage_keeps _)
  · exact count_keeps s _
  · exact (count_keeps s _).trans (noteDamage_keeps _)

theorem followRun_keeps (k : CellClass) : Keeps s (followRun k s) := by
  cases k
  case overlongDamaged => exact keeps_ite ((setLink_keeps s _).trans (dropLink_keeps _ _ _)) (setLink_keeps s _)
  all_goals exact setLink_keeps s _

theorem noteKind_keeps (k : CellClass) (c : Cell) : Keeps s (noteKind k c s) := by
  unfold noteKind
  split
  · exact count_keeps s _
  · exact count_keeps s _
  · exact count_keeps s _
  · exact .refl s

theorem passContent_keeps (c : Cell) (b : Bool) : Keeps s (passContent c b s) :=
  (keeps_of_content (sortCell_content c b s) (sortCell_keepsBlocks c b s)).trans (settleFrom_keeps _ s)

theorem passManage_keeps (c : Cell) : Keeps s (passManage c s) := keeps_ite (serveCell_keeps s _) (count_keeps s _)

theorem disposeCell_keeps (k : CellClass) (c : Cell) : Keeps s (disposeCell k c s) := by
  unfold disposeCell
  split
  · exact .refl s
  · exact .refl s
  · exact .refl s
  · exact .refl s
  · exact .refl s
  · exact passManage_keeps s c
  · exact .refl s
  · exact passContent_keeps s c _
  · exact passContent_keeps s c _

theorem receiveCell_keeps (bytes : List Byte) (cut : Bool) : Keeps s (receiveCell bytes cut s) := by
  unfold receiveCell
  refine keeps_ite (.refl s) ?_
  dsimp only
  split
  · exact (noteClass_keeps s _).trans (followRun_keeps _ _)
  · exact (((noteClass_keeps s _).trans (noteKind_keeps _ _ _)).trans (followRun_keeps _ _)).trans (disposeCell_keeps _ _ _)

/-! ## The events of time -/

theorem expireCue_keeps : Keeps s (expireCue s) := keeps_ite ((mapTimeline_keeps s _).trans (enterClosing_keeps _ _)) (.refl s)
theorem expireStall_keeps : Keeps s (expireStall s) := keeps_ite (enterClosing_keeps s _) (.refl s)
theorem expireIntermission_keeps : Keeps s (expireIntermission s) := keeps_ite (resumeShowing_keeps s) (.refl s)

theorem reachInstant_keeps : Keeps s (reachInstant s) := by
  have h := endInterval_keeps s
  unfold reachInstant
  generalize endInterval s = t at h
  refine keeps_ite (.refl s) (h.trans ?_)
  dsimp only
  split
  · exact .refl t
  split
  · exact .refl t
  · exact keeps_ite ((reachTick_keeps t _).trans (takeInstant_keeps _)) (.refl t)

theorem reachIntervalEnd_keeps : Keeps s (reachIntervalEnd s) := keeps_ite (endInterval_keeps s) (.refl s)
theorem reachGapEnd_keeps : Keeps s (reachGapEnd s) := keeps_ite (endGap_keeps s) (.refl s)
theorem reachEnd_keeps : Keeps s (reachEnd s) := keeps_ite (endInterval_keeps s) (.refl s)
theorem resendPicture_keeps : Keeps s (resendPicture s) := keeps_ite (mapPicture_keeps s _) (.refl s)

/-- The sound cursor's unit is taken, or a staged delay becomes live at it (R94, R101). -/
def takeSound (c : UnitRef) (row : ReelRow) (s : State) : State :=
  if s.sound.pending = true ∧ s.inGap = false then shiftSound c.reel c.unit row s else soundInstant c.reel c.unit s

/-- X reaches a sound instant: P comes to its tick, the unit is taken, and the leads are settled once more. -/
theorem reachSound_eq (s : State) : reachSound s =
    match s.timeline.state, s.sound.cursor with
    | .playing, some c =>
      match s.row c.reel, s.soundTick with
      | some row, some tick =>
        settleLeads (takeSound c row (reachTick tick.toNat s)) (takeSound c row (reachTick tick.toNat s))
      | _, _ => s
    | _, _ => s := rfl

theorem takeSound_keeps (c : UnitRef) (row : ReelRow) : Keeps s (takeSound c row s) :=
  keeps_ite (shiftSound_keeps s _ _ _) (soundInstant_keeps s _ _)

theorem reachSound_keeps : Keeps s (reachSound s) := by
  rw [reachSound_eq]
  split
  case h_2 => exact .refl s
  split
  case h_2 => exact .refl s
  next row tick _ _ => exact ((reachTick_keeps s _).trans (takeSound_keeps _ _ row)).trans (settleLeads_keeps _ _)

theorem fallToLow_keeps (l : AvLane) : Keeps s (fallToLow l s) :=
  keeps_ite ((reachTick_keeps s _).trans
    (keeps_of_content (settleLane_content _ l _) (keepsBlocks_of_holds (settleLane_holdsFrom _ l _)))) (.refl s)

theorem fireRefresh_keeps (l : AvLane) : Keeps s (fireRefresh l s) :=
  keeps_ite (keeps_ite ((setHolds_keeps s _).trans (queueReport_keeps _ _)) (setHolds_keeps s _)) (.refl s)

theorem expireHeartbeat_keeps : Keeps s (expireHeartbeat s) := keeps_ite (.refl s) (heartbeatAt_keeps s _)
theorem reachFrameLoss_keeps : Keeps s (reachFrameLoss s) := keeps_ite (loseFrame_keeps s) (.refl s)

theorem startCaption_keeps : Keeps s (startCaption s) := by
  unfold startCaption
  split
  · exact setCues_keeps s _
  · exact keeps_ite ((setCues_keeps s _).trans (deassertEvent_keeps _ _)) (setCues_keeps s _)

theorem startBooth_keeps : Keeps s (startBooth s) := by
  unfold startBooth
  split
  · exact setActions_keeps s _
  · exact keeps_ite ((setActions_keeps s _).trans (deassertEvent_keeps _ _)) (setActions_keeps s _)

theorem captionSent_keeps : Keeps s (captionSent s) := keeps_ite ((setCues_keeps s _).trans (count_keeps _ _)) (.refl s)
theorem captionSpaced_keeps : Keeps s (captionSpaced s) := keeps_ite (startCaption_keeps s) (.refl s)
theorem boothSent_keeps : Keeps s (boothSent s) := keeps_ite ((setActions_keeps s _).trans (count_keeps _ _)) (.refl s)
theorem boothSpaced_keeps : Keeps s (boothSpaced s) := keeps_ite (startBooth_keeps s) (.refl s)

/-! ## The show tick -/

/-- What each of some offered events keeps, the first due one keeps. -/
theorem firstDue_cons_keeps {o : Option State} {l : List (Option State)} (ho : ∀ t, some t = o → Keeps s t)
    (hl : ∀ t, firstDue l = some t → Keeps s t) : ∀ t, firstDue (o :: l) = some t → Keeps s t := by
  intro t h
  cases o with
  | some u => exact ho t h.symm
  | none => exact hl t h

theorem whenDue_keeps {due : Bool} {f : State → State} (h : Keeps s (f s)) : ∀ t, some t = whenDue due f s → Keeps s t := by
  intro t ht
  unfold whenDue at ht
  split at ht
  · exact Option.some.inj ht ▸ h
  · cases ht

theorem dueRefresh_keeps : ∀ t, some t = dueRefresh s → Keeps s t := by
  intro t ht
  obtain ⟨l, -, rfl⟩ := Option.map_eq_some_iff.mp ht.symm
  exact fireRefresh_keeps s l

theorem serveDue_keeps : ∀ t, serveDue s = some t → Keeps s t := by
  refine firstDue_cons_keeps s (whenDue_keeps s (nextAttempt_keeps s)) ?_
  refine firstDue_cons_keeps s (whenDue_keeps s (endInterval_keeps s)) ?_
  refine firstDue_cons_keeps s (whenDue_keeps s (endGap_keeps s)) ?_
  refine firstDue_cons_keeps s (whenDue_keeps s (takeInstant_keeps s)) ?_
  refine firstDue_cons_keeps s (whenDue_keeps s (reachSound_keeps s)) ?_
  refine firstDue_cons_keeps s (whenDue_keeps s (expireCue_keeps s)) ?_
  refine firstDue_cons_keeps s (whenDue_keeps s (expireStall_keeps s)) ?_
  refine firstDue_cons_keeps s (whenDue_keeps s (expireIntermission_keeps s)) ?_
  refine firstDue_cons_keeps s (whenDue_keeps s (resendPicture_keeps s)) ?_
  refine firstDue_cons_keeps s (dueRefresh_keeps s) ?_
  refine firstDue_cons_keeps s (whenDue_keeps s (countTimeout_keeps s .light)) ?_
  refine firstDue_cons_keeps s (whenDue_keeps s (countTimeout_keeps s .echo)) ?_
  refine firstDue_cons_keeps s (whenDue_keeps s (countTimeout_keeps s .frame)) ?_
  refine firstDue_cons_keeps s (whenDue_keeps s (reachFrameLoss_keeps s)) ?_
  refine firstDue_cons_keeps s (whenDue_keeps s (captionSent_keeps s)) ?_
  refine firstDue_cons_keeps s (whenDue_keeps s (captionSpaced_keeps s)) ?_
  refine firstDue_cons_keeps s (whenDue_keeps s (boothSent_keeps s)) ?_
  refine firstDue_cons_keeps s (whenDue_keeps s (boothSpaced_keeps s)) ?_
  exact fun t h => nomatch h

theorem tickShow_keeps : Keeps s (tickShow s) := keeps_ite (reachTick_keeps s _) (.refl s)
theorem tickClock_keeps : Keeps s (tickClock s) := keeps_ite (setClock_keeps s _) (rollSecond_keeps s)
theorem tickTimers_keeps : Keeps s (tickTimers s) := keeps_of_view rfl
theorem tickDevices_keeps : Keeps s (tickDevices s) := keeps_of_view rfl

theorem idle_keeps : Keeps s (idle s) := by
  unfold idle
  refine keeps_ite (.refl s) (keeps_ite (tickClock_keeps s) ?_)
  split
  · next h => exact serveDue_keeps s _ h
  · exact (((tickTimers_keeps s).trans (tickDevices_keeps _)).trans (tickShow_keeps _)).trans (tickClock_keeps _)

/-! ## Commands that do not end a read or a write of the store -/

theorem whenRunning_keeps {f : State → State} (h : Keeps s (f s)) : Keeps s (whenRunning f s) := keeps_ite h (.refl s)

/-- The command ends a write of the store or the start-up read. -/
def Instr.endsStoreAccess : Instr → Bool
  | .storeWriteEnd _ => true
  | .startupReadEnd => true
  | _ => false

theorem exec_keeps (i : Instr) (h : Instr.endsStoreAccess i = false) : ∃ t, exec i s = .next t ∧ Keeps s t := by
  cases i with
  | signalDetect => exact ⟨_, rfl, detectSignal_keeps s⟩
  | signalLoss => exact ⟨_, rfl, loseSignal_keeps s⟩
  | trainingAttemptTimer => exact ⟨_, rfl, whenRunning_keeps s (nextAttempt_keeps s)⟩
  | retrainWordReceived => exact ⟨_, rfl, whenRunning_keeps s (takeRetrain_keeps s)⟩
  | abilityWordReceived n l => exact ⟨_, rfl, whenRunning_keeps s (receiveAbility_keeps s n l)⟩
  | cellReceived b c => exact ⟨_, rfl, whenRunning_keeps s (receiveCell_keeps s b c)⟩
  | reportSent => exact ⟨_, rfl, whenRunning_keeps s (sendReport_keeps s)⟩
  | leadFallToLowMark l => exact ⟨_, rfl, whenRunning_keeps s (fallToLow_keeps s l)⟩
  | holdRefreshTimer l => exact ⟨_, rfl, whenRunning_keeps s (fireRefresh_keeps s l)⟩
  | secondRoll => exact ⟨_, rfl, keeps_ite (rollSecond_keeps s) (.refl s)⟩
  | heartbeatExpiry => exact ⟨_, rfl, whenRunning_keeps s (expireHeartbeat_keeps s)⟩
  | identify tag => exact ⟨_, rfl, whenRunning_keeps s (serveIdentify_keeps s tag)⟩
  | setClock tag x => exact ⟨_, rfl, whenRunning_keeps s (serveSetClock_keeps s tag x)⟩
  | setLimits tag l => exact ⟨_, rfl, whenRunning_keeps s (serveSetLimits_keeps s tag l)⟩
  | readStatus tag => exact ⟨_, rfl, whenRunning_keeps s (serveReadStatus_keeps s tag)⟩
  | readCounters tag => exact ⟨_, rfl, whenRunning_keeps s (serveReadCounters_keeps s tag)⟩
  | keepalive tag => exact ⟨_, rfl, whenRunning_keeps s (serveKeepalive_keeps s tag)⟩
  | restart tag => exact ⟨_, rfl, whenRunning_keeps s (serveRestart_keeps s tag)⟩
  | loadComposition tag a => exact ⟨_, rfl, whenRunning_keeps s (serveLoadComposition_keeps s tag a)⟩
  | clearSlot tag n => exact ⟨_, rfl, whenRunning_keeps s (serveClearSlot_keeps s tag n)⟩
  | loadRouting tag n l => exact ⟨_, rfl, whenRunning_keeps s (serveLoadRouting_keeps s tag n l)⟩
  | loadActions tag n l => exact ⟨_, rfl, whenRunning_keeps s (serveLoadActions_keeps s tag n l)⟩
  | setEventMask tag l => exact ⟨_, rfl, whenRunning_keeps s (serveSetEventMask_keeps s tag l)⟩
  | readEvent tag n => exact ⟨_, rfl, whenRunning_keeps s (serveReadEvent_keeps s tag n)⟩
  | loadAllowance tag a => exact ⟨_, rfl, whenRunning_keeps s (serveLoadAllowance_keeps s tag a)⟩
  | revokeAllowance tag n => exact ⟨_, rfl, whenRunning_keeps s (serveRevokeAllowance_keeps s tag n)⟩
  | clearAllowance tag n => exact ⟨_, rfl, whenRunning_keeps s (serveClearAllowance_keeps s tag n)⟩
  | readLog tag n m => exact ⟨_, rfl, whenRunning_keeps s (serveReadLog_keeps s tag n m)⟩
  | markExported tag n => exact ⟨_, rfl, whenRunning_keeps s (serveMarkExported_keeps s tag n)⟩
  | scheduleAdd tag e => exact ⟨_, rfl, whenRunning_keeps s (serveScheduleAdd_keeps s tag e)⟩
  | scheduleCancel tag n => exact ⟨_, rfl, whenRunning_keeps s (serveScheduleCancel_keeps s tag n)⟩
  | scheduleClear tag => exact ⟨_, rfl, whenRunning_keeps s (serveScheduleClear_keeps s tag)⟩
  | readSchedule tag => exact ⟨_, rfl, whenRunning_keeps s (serveReadSchedule_keeps s tag)⟩
  | start tag a => exact ⟨_, rfl, whenRunning_keeps s (serveStart_keeps s tag a)⟩
  | pause tag => exact ⟨_, rfl, whenRunning_keeps s (servePause_keeps s tag)⟩
  | resume tag => exact ⟨_, rfl, whenRunning_keeps s (serveResume_keeps s tag)⟩
  | stop tag => exact ⟨_, rfl, whenRunning_keeps s (serveStop_keeps s tag)⟩
  | setSync tag n => exact ⟨_, rfl, whenRunning_keeps s (serveSetSync_keeps s tag n)⟩
  | syncCheck tag b => exact ⟨_, rfl, whenRunning_keeps s (serveSyncCheck_keeps s tag b)⟩
  | unknownCommandCell p => exact ⟨_, rfl, whenRunning_keeps s (serveUnknown_keeps s p)⟩
  | cueLimitExpiry => exact ⟨_, rfl, whenRunning_keeps s (expireCue_keeps s)⟩
  | pictureReleaseInstant => exact ⟨_, rfl, whenRunning_keeps s (reachInstant_keeps s)⟩
  | unitIntervalEnd => exact ⟨_, rfl, whenRunning_keeps s (reachIntervalEnd_keeps s)⟩
  | gapEnd => exact ⟨_, rfl, whenRunning_keeps s (reachGapEnd_keeps s)⟩
  | compositionEnd => exact ⟨_, rfl, whenRunning_keeps s (reachEnd_keeps s)⟩
  | stallLimitExpiry => exact ⟨_, rfl, whenRunning_keeps s (expireStall_keeps s)⟩
  | intermissionExpiry => exact ⟨_, rfl, whenRunning_keeps s (expireIntermission_keeps s)⟩
  | heldPictureResend => exact ⟨_, rfl, whenRunning_keeps s (resendPicture_keeps s)⟩
  | soundReleaseInstant => exact ⟨_, rfl, whenRunning_keeps s (reachSound_keeps s)⟩
  | captureEdge c e => exact ⟨_, rfl, whenRunning_keeps s (takeEdge_keeps s c e)⟩
  | captureCountTimeout c => exact ⟨_, rfl, whenRunning_keeps s (countTimeout_keeps s c)⟩
  | frameSignalLoss => exact ⟨_, rfl, whenRunning_keeps s (reachFrameLoss_keeps s)⟩
  | captionMessageSent => exact ⟨_, rfl, whenRunning_keeps s (captionSent_keeps s)⟩
  | captionSpacingEnd => exact ⟨_, rfl, whenRunning_keeps s (captionSpaced_keeps s)⟩
  | storeWriteEnd ok => cases h
  | startupReadEnd => cases h
  | boothMessageSent => exact ⟨_, rfl, whenRunning_keeps s (boothSent_keeps s)⟩
  | boothSpacingEnd => exact ⟨_, rfl, whenRunning_keeps s (boothSpaced_keeps s)⟩
  | powerOn => exact ⟨_, rfl, resetTo_keeps s _⟩
  | resetLine => exact ⟨_, rfl, assertPin_keeps s⟩
  | resetPinRelease => exact ⟨_, rfl, deassertPin_keeps s⟩
  | fillCellSent => exact ⟨_, rfl, whenRunning_keeps s (sendFill_keeps s)⟩
  | powerLoss => exact ⟨_, rfl, keeps_ite (losePower_keeps s) (.refl s)⟩

end

end Sys2Proof.Machine

/-! PROOF. The invariants of a step, settled: the ends of the start-up read and of a write of the store, and the step (R35, R100,
R133, R144). -/

namespace Sys2Proof.Machine

/-! ## Reconciliation -/

/-- The next reconciliation changes the Showing Counter and hands over reports: either start-up is COMPLETE, or one entry joins the
store queue (R144). -/
theorem reconcileNext_counting (s : State) : ∃ c : Counting, reportsFrom { s with counting := c } (reconcileNext s) ∧
    (c.startup = .complete ∧ c.queue = s.counting.queue ∨
      c.startup = s.counting.startup ∧ ∃ e, e.kind = .reconciliation ∧ c.queue = s.counting.queue ++ [e]) := by
  unfold reconcileNext
  split
  · exact ⟨_, reportsFrom_refl _, .inl ⟨rfl, rfl⟩⟩
  dsimp only
  split
  · exact ⟨_, reportsFrom_trans (setLevel_reports .allowanceLow _ _) (setLevel_reports .allowanceExpiring _ _), .inr ⟨rfl, _, rfl, rfl⟩⟩
  · exact ⟨_, reportsFrom_refl _, .inr ⟨rfl, _, rfl, rfl⟩⟩

section

variable {s : State}

/-- A change of the Showing Counter with reports behind it keeps the blocks and the delays. -/
theorem keepsOutside_of_counting {t : State} {c : Counting} (h : reportsFrom { s with counting := c } t) :
    (s.blocksConserved → t.blocksConserved) ∧ (s.delaysInRange → t.delaysInRange) := by
  refine ⟨keepsBlocks_of_eq h.slots_eq h.buffer_eq, fun hd => ?_⟩
  rw [State.delaysInRange, h.sound_eq]
  exact hd

/-- With no reconciliation entry waiting in a running part, the next reconciliation leaves at most one. -/
theorem reconcileNext_reconciliations (hrunning : s.running = true) (hstartup : s.counting.startup = .reconciling)
    (hq : reconciliationCount s.counting.queue = 0) : (reconcileNext s).reconciliationsKept := by
  obtain ⟨c, hfrom, hc⟩ := reconcileNext_counting s
  have hrun : (reconcileNext s).running = true := by
    rw [State.running, hfrom.powered_eq, hfrom.resetPin_eq]
    exact hrunning
  rw [reconciliationsKept_iff, hfrom.counting_eq, hrun]
  obtain ⟨-, hqueue⟩ | ⟨hst, e, hkind, hqueue⟩ := hc
  · rw [show c.queue = s.counting.queue from hqueue, hq]
    exact Nat.zero_le _
  · rw [show c.queue = s.counting.queue ++ [e] from hqueue, reconciliationCount_append, hq, if_pos hkind,
      show c.startup = s.counting.startup from hst, hstartup]
    exact Nat.le_refl _

/-! ## The end of the start-up read -/

theorem evaluateAll_counting (s : State) : ∃ c : Counting, reportsFrom { s with counting := c } (evaluateAll s) ∧
    c.startup = s.counting.startup ∧ c.queue = s.counting.queue :=
  ⟨_, reportsFrom_trans (setLevel_reports .allowanceLow _ _) (setLevel_reports .allowanceExpiring _ _), rfl, rfl⟩

theorem evaluateLog_reports (s : State) : reportsFrom s (evaluateLog s) :=
  reportsFrom_trans (setLevel_reports .logNearlyFull _ _) (setLevel_reports .logFull _ _)

/-- The volatile copy that start-up has taken and evaluated, before the first reconciliation (R143). -/
def takenCopy (s : State) : State :=
  evaluateLog (evaluateAll { s with counting := { s.counting with
    places := mapVec (fun p => { record := p.record, serial := p.serial, state := .empty }) s.store.allowances,
    log := s.store.log, next := numberFromStore s.store, startup := .reconciling } })

theorem finishRead_eq (s : State) : finishRead s = reconcileNext (takenCopy s) := rfl

theorem takenCopy_counting (s : State) : ∃ c : Counting, reportsFrom { s with counting := c } (takenCopy s) ∧
    c.startup = .reconciling ∧ c.queue = s.counting.queue := by
  obtain ⟨c, hfrom, hst, hqueue⟩ := evaluateAll_counting { s with counting := { s.counting with
    places := mapVec (fun p => { record := p.record, serial := p.serial, state := .empty }) s.store.allowances,
    log := s.store.log, next := numberFromStore s.store, startup := .reconciling } }
  exact ⟨c, reportsFrom_trans hfrom (evaluateLog_reports _), hst, hqueue⟩

/-- A change of the Showing Counter after another one. -/
theorem keepsOutside_finishRead (s : State) :
    (s.blocksConserved → (finishRead s).blocksConserved) ∧ (s.delaysInRange → (finishRead s).delaysInRange) := by
  obtain ⟨c, hcopy, -⟩ := takenCopy_counting s
  obtain ⟨d, hnext, -⟩ := reconcileNext_counting (takenCopy s)
  obtain ⟨hblocks, hdelays⟩ := keepsOutside_of_counting hcopy
  obtain ⟨hblocks', hdelays'⟩ := keepsOutside_of_counting hnext
  exact ⟨hblocks' ∘ hblocks, hdelays' ∘ hdelays⟩

theorem finishRead_reconciliations (hrunning : s.running = true) (hq : reconciliationCount s.counting.queue = 0) :
    (finishRead s).reconciliationsKept := by
  obtain ⟨c, hcopy, hst, hqueue⟩ := takenCopy_counting s
  have hcounting := hcopy.counting_eq
  rw [finishRead_eq]
  refine reconcileNext_reconciliations ?_ (by rw [hcounting]; exact hst) (by rw [hcounting]; exact hqueue ▸ hq)
  rw [State.running, hcopy.powered_eq, hcopy.resetPin_eq]
  exact hrunning

/-- The end of the start-up read keeps the invariants of the store, and of the whole part that has started up already. -/
theorem endRead_keeps (hrunning : s.running = true) :
    (s.blocksConserved → (endRead s).blocksConserved) ∧ (s.delaysInRange → (endRead s).delaysInRange) ∧
    (s.reconciliationsKept → (endRead s).reconciliationsKept) ∧ (s.counting.startup = .complete → endRead s = s) := by
  unfold endRead
  split
  next h =>
    obtain ⟨hblocks, hdelays⟩ := keepsOutside_finishRead s
    refine ⟨hblocks, hdelays, fun hr => finishRead_reconciliations hrunning ?_, fun hs => absurd (h.symm.trans hs) (by decide)⟩
    rw [reconciliationsKept_iff, h, if_neg (by simp)] at hr
    exact Nat.le_zero.mp hr
  next => exact ⟨id, id, id, fun _ => rfl⟩

/-! ## The end of a write -/

/-- The state whose store queue's head has been written or not, STORE_FAULT following, before its source is told (R140, R142). -/
def settleHead (ok : Bool) (e : StoreEntry) (rest : List StoreEntry) (s : State) : State :=
  setLevel .storeFault (!ok) { s with
    store := if ok then s.store.write e s.counting.header else s.store,
    counting := { s.counting with queue := rest, header := s.counting.next } }

theorem endWrite_of_head {ok : Bool} {e : StoreEntry} {rest : List StoreEntry} (h : s.counting.queue = e :: rest) :
    endWrite ok s = reportWrite e ok (settleHead ok e rest s) := by
  unfold endWrite settleHead
  rw [h]

theorem reconciliationCount_cons (e : StoreEntry) (q : List StoreEntry) :
    reconciliationCount (e :: q) = reconciliationCount q + if e.kind = .reconciliation then 1 else 0 := by
  by_cases h : e.kind = .reconciliation <;> simp [reconciliationCount, h]

theorem settleHead_keeps {ok : Bool} {e : StoreEntry} {rest : List StoreEntry} (h : s.counting.queue = e :: rest) :
    Keeps s (settleHead ok e rest s) := by
  refine Keeps.trans ?_ (setLevel_keeps _ _ _)
  refine keeps_of_counting rfl rfl rfl rfl rfl ?_ (usedWithinLimits_of_records (fun _ => rfl) rfl rfl)
  rw [h, reconciliationCount_cons]
  exact Nat.le_add_right _ _

theorem reportWrite_keeps {ok : Bool} {e : StoreEntry} (s : State) (h : e.kind ≠ .reconciliation) : Keeps s (reportWrite e ok s) := by
  have hrecord : ∀ (o : Option LogRecord) (t : State), Keeps t (match o with | some r => t.setRecord r | none => t) := by
    intro o t
    cases o
    · exact .refl t
    · exact setRecord_keeps t _
  unfold reportWrite
  split
  · exact (hrecord _ _).trans (returnIdle_keeps _)
  · contradiction
  · split
    · exact reply_keeps s _ _ _
    · exact .refl s

/-- The write of a reconciliation entry goes on with the next OPEN record (R144). -/
theorem reportWrite_of_reconciliation {ok : Bool} {e : StoreEntry} (h : e.kind = .reconciliation) (s : State) :
    reportWrite e ok s = reconcileNext s := by
  unfold reportWrite
  rw [h]

theorem settleHead_reports (ok : Bool) (e : StoreEntry) (rest : List StoreEntry) (s : State) :
    reportsFrom { s with
      store := if ok then s.store.write e s.counting.header else s.store,
      counting := { s.counting with queue := rest, header := s.counting.next } } (settleHead ok e rest s) := setLevel_reports _ _ _

/-- The end of a write keeps the invariants; in a part that has started up it is no reconciliation entry's (R144). -/
theorem endWrite_keeps (ok : Bool) (hrunning : s.running = true) :
    (s.blocksConserved → (endWrite ok s).blocksConserved) ∧ (s.delaysInRange → (endWrite ok s).delaysInRange) ∧
    (s.reconciliationsKept → (endWrite ok s).reconciliationsKept) ∧
    (s.reconciliationsKept → s.counting.startup = .complete → Keeps s (endWrite ok s)) := by
  cases hq : s.counting.queue with
  | nil =>
    have h : endWrite ok s = s := by simp [endWrite, hq]
    rw [h]
    exact ⟨id, id, id, fun _ _ => .refl s⟩
  | cons e rest =>
    have hhead := settleHead_keeps (ok := ok) hq
    rw [endWrite_of_head hq]
    by_cases hkind : e.kind = .reconciliation
    · rw [reportWrite_of_reconciliation hkind]
      obtain ⟨c, hfrom, -⟩ := reconcileNext_counting (settleHead ok e rest s)
      obtain ⟨hblocks, hdelays⟩ := keepsOutside_of_counting hfrom
      have hone : s.reconciliationsKept →
          reconciliationCount rest + 1 ≤ (if s.running = true ∧ s.counting.startup = .reconciling then 1 else 0) := fun hr => by
        rw [reconciliationsKept_iff, hq, reconciliationCount_cons, if_pos hkind] at hr
        exact hr
      refine ⟨hblocks ∘ hhead.blocks, hdelays ∘ hhead.delays, fun hr => ?_, fun hr hs => ?_⟩
      · have hle := hone hr
        have hreports := settleHead_reports ok e rest s
        split at hle
        next h =>
          refine reconcileNext_reconciliations ?_ ?_ ?_
          · rw [State.running, hreports.powered_eq, hreports.resetPin_eq]; exact hrunning
          · rw [hreports.counting_eq]; exact h.2
          · rw [hreports.counting_eq]; exact Nat.le_zero.mp (Nat.le_of_succ_le_succ hle)
        next => exact absurd hle (Nat.not_succ_le_zero _)
      · have hle := hone hr
        rw [if_neg (by simp [hs])] at hle
        exact absurd hle (Nat.not_succ_le_zero _)
    · have h := hhead.trans (reportWrite_keeps (ok := ok) _ hkind)
      exact ⟨h.blocks, h.delays, h.reconciliations, fun _ _ => h⟩

end

/-! ## The step -/

/-- What every step keeps: the blocks, the delays and the reconciliation entries; and the used showings where start-up is COMPLETE
before and after it. -/
structure StepKeeps (s t : State) : Prop where
  blocks : s.blocksConserved → t.blocksConserved
  delays : s.delaysInRange → t.delaysInRange
  reconciliations : s.reconciliationsKept → t.reconciliationsKept
  used : s.reconciliationsKept → s.counting.startup = .complete → t.counting.startup = .complete → s.usedWithinLimits →
    t.usedWithinLimits

theorem Keeps.stepKeeps {s t : State} (h : Keeps s t) : StepKeeps s t :=
  ⟨h.blocks, h.delays, h.reconciliations, fun _ _ ht => h.used ht⟩

theorem execStoreWriteEnd_keeps (ok : Bool) (s : State) : ∃ t, exec (.storeWriteEnd ok) s = .next t ∧ StepKeeps s t := by
  refine ⟨_, rfl, ?_⟩
  unfold whenRunning
  split
  next h =>
    obtain ⟨hblocks, hdelays, hreconciliations, hkeeps⟩ := endWrite_keeps ok h
    exact ⟨hblocks, hdelays, hreconciliations, fun hr hs ht hu => (hkeeps hr hs).used ht hu⟩
  next => exact (Keeps.refl s).stepKeeps

theorem execStartupReadEnd_keeps (s : State) : ∃ t, exec .startupReadEnd s = .next t ∧ StepKeeps s t := by
  refine ⟨_, rfl, ?_⟩
  unfold whenRunning
  split
  next h =>
    obtain ⟨hblocks, hdelays, hreconciliations, hnothing⟩ := endRead_keeps h
    exact ⟨hblocks, hdelays, hreconciliations, fun _ hs _ hu => (hnothing hs).symm ▸ hu⟩
  next => exact (Keeps.refl s).stepKeeps

theorem exec_stepKeeps (i : Instr) (s : State) : ∃ t, exec i s = .next t ∧ StepKeeps s t := by
  cases hi : Instr.endsStoreAccess i with
  | false =>
    obtain ⟨t, ht, hkeeps⟩ := exec_keeps s i hi
    exact ⟨t, ht, hkeeps.stepKeeps⟩
  | true =>
    cases i with
    | storeWriteEnd ok => exact execStoreWriteEnd_keeps ok s
    | startupReadEnd => exact execStartupReadEnd_keeps s
    | _ => cases hi

theorem step_stepKeeps {s t : State} (h : step s = .next t) : StepKeeps s t := by
  unfold step at h
  split at h
  · cases h
    exact (idle_keeps s).stepKeeps
  next i rest hpending =>
    obtain ⟨u, hu, hkeeps⟩ := exec_stepKeeps i s.popFront
    obtain rfl : u = t := by
      rw [hu] at h
      exact (Host.Outcome.next.injEq _ _).mp h
    exact ⟨hkeeps.blocks, hkeeps.delays, hkeeps.reconciliations, hkeeps.used⟩

/-! ## The obligations -/

/-- Settles O58, by the walk through everything that a step can do. -/
theorem blocksConservedByStep : Obligations.BlocksConservedByStep := fun _ _ hs ht => (step_stepKeeps ht).blocks hs

/-- Settles O59, by the same walk. -/
theorem delaysStayInRange : Obligations.DelaysStayInRange := fun _ _ hs ht => (step_stepKeeps ht).delays hs

/-- Settles O60, by the same walk: a charge is taken where the showing was counted already, and a showing binds an OPEN allowance. -/
theorem usedShowingsWithinLimits : Obligations.UsedShowingsWithinLimits :=
  ⟨fun _ _ hr ht => (step_stepKeeps ht).reconciliations hr,
    fun _ _ hr hu hs ht ht' => (step_stepKeeps ht).used hr hs ht' hu⟩

/-- Settles O57: the reset state has every block free, delays of 0, an empty store queue and no allowance. -/
theorem invariantsAtReset : Obligations.InvariantsAtReset := by
  refine ⟨reset_blocksConserved, by unfold State.delaysInRange; decide, by unfold State.reconciliationsKept; decide, fun i a n hi _ => ?_⟩
  simp [State.place, State.reset, Counting.reset] at hi

end Sys2Proof.Machine

/-! PROOF. The step, the resets, power and the RESET pin (R1, R165 to R168), block by block. -/

namespace Sys2Proof.Machine

/-! ## The step -/

/-- Settles O1: the step's own two cases. -/
theorem stepRunsFrontCommand : Obligations.StepRunsFrontCommand := by
  refine ⟨fun _ _ => rfl, fun c rest s h => ?_⟩
  simp only [step, h, State.popFront, List.tail_cons]

theorem State.running_eq_true {s : State} (h : s.running = true) : s.powered = true ∧ s.resetPin = false := by
  simpa [State.running] using h

/-- A running part idles: one due event, or every counter advances by one tick. -/
theorem idle_of_running {s : State} (h : s.running = true) :
    idle s = (serveDue s).getD (tickClock (tickShow (tickDevices (tickTimers s)))) := by
  obtain ⟨hpowered, hpin⟩ := State.running_eq_true h
  simp only [idle, hpowered, hpin, Bool.true_eq_false, Bool.false_eq_true, if_false]
  cases serveDue s <;> rfl

/-- Settles O2: the step without a command, by the pins. -/
theorem emptyQueueStepTicks : Obligations.EmptyQueueStepTicks := by
  intro s hpending
  have hstep : step s = .next (idle s) := by simp only [step, hpending]
  refine ⟨fun h => ?_, fun h h' => ?_, fun h t ht => ?_, fun h hnone => ?_⟩
  · rw [hstep, idle, if_pos h]
  · simp [hstep, idle, h, h']
  · rw [hstep, idle_of_running h, ht, Option.getD_some]
  · rw [hstep, idle_of_running h, hnone, Option.getD_none]

/-! ## Resets -/

/-- The record of an event kind after a reset: CLOCK_UNSET alone may be ASSERTED. -/
theorem eventsAfterReset_get (c : Clock) (k : EventKind) :
    (eventsAfterReset c)[k.num] = if k = .clockUnset ∧ c.isSet = false then EventRec.unsetAt c.now else EventRec.reset := by
  unfold eventsAfterReset
  cases c.isSet with
  | true => simp
  | false =>
    by_cases h : k = .clockUnset
    · subst h; rfl
    · have hnum : (15 : Nat) ≠ k.num.val := fun e => h (num_injective (Fin.ext e.symm))
      simp [h, hnum]

section

variable (cause : ResetCause) (s : State)

theorem resetTo_clock : (resetTo cause s).clock = clockAfterReset cause s.clock := by rw [resetTo_eq]

theorem resetTo_event (k : EventKind) : (resetTo cause s).event k =
    if k = .clockUnset ∧ (clockAfterReset cause s.clock).isSet = false then EventRec.unsetAt (clockAfterReset cause s.clock).now
    else EventRec.reset := by
  rw [resetTo_eq]
  exact eventsAfterReset_get _ k

theorem resetTo_link : (resetTo cause s).link =
    if s.resetPin = false ∧ s.signal = true then LinkPort.reset.beginAttempt else LinkPort.reset := by
  rw [resetTo_eq]

theorem clockAfterReset_eq (c : Clock) : clockAfterReset cause c = if cause = .powerOn then Clock.reset else c := by
  cases cause <;> rfl

theorem resetTo_slots : (resetTo cause s).slots = Lanes.all [] := by rw [resetTo_eq]; rfl
theorem resetTo_buffer : (resetTo cause s).buffer = { pool := Config.blocks, queues := Lanes.all [] } := by rw [resetTo_eq]; rfl
theorem resetTo_holds : (resetTo cause s).holds = AvLanes.all LaneHold.reset := by rw [resetTo_eq]; rfl
theorem resetTo_comps : (resetTo cause s).comps = Vector.replicate 4 .empty := by rw [resetTo_eq]; rfl

end

/-- Settles O3, from the whole state after a reset. -/
theorem resetReturnsVolatileState : Obligations.ResetReturnsVolatileState := by
  intro cause s
  have hqueue : (resetTo cause s).link.queue = [] := by rw [resetTo_link]; split <;> rfl
  have hstate : (resetTo cause s).link.state = if s.resetPin = false ∧ s.signal = true then .training else .down := by
    rw [resetTo_link]; split <;> rfl
  have hstore := settleStore_store s
  have hevent := resetTo_event cause s
  have hunset : (resetTo cause s).isAsserted .clockUnset = !(resetTo cause s).clock.isSet := by
    rw [State.isAsserted, hevent, resetTo_clock]
    cases (clockAfterReset cause s.clock).isSet <;> rfl
  have hclockEvent : (resetTo cause s).event .clockUnset = if (resetTo cause s).clock.isSet then EventRec.reset
      else { asserted := true, onAssert := true, onDeassert := true, count := 1,
             last := some { time := (resetTo cause s).clock.now, unset := true } } := by
    rw [hevent, resetTo_clock]
    cases (clockAfterReset cause s.clock).isSet <;> rfl
  have hplace : ∀ i, ((resetTo cause s).place i).record = none := fun i => by
    rw [resetTo_eq]
    simp [State.place, Counting.reset]
  have hlanes : ∀ l, (resetTo cause s).laneSlots l = [] ∧ (resetTo cause s).queue l = [] := fun l => by
    rw [State.laneSlots, State.queue, resetTo_slots, resetTo_buffer]
    exact ⟨Lanes.get_all [] l, Lanes.get_all [] l⟩
  have hholds : ∀ l, (resetTo cause s).hold l = LaneHold.reset := fun l => by
    rw [State.hold, resetTo_holds, AvLanes.get_all]
  have hcomps : ∀ i : Fin 4, (resetTo cause s).comps[i] = .empty := fun i => by
    rw [resetTo_comps]; simp
  have hothers : ∀ k, k ≠ .clockUnset → (resetTo cause s).event k = EventRec.reset := fun k hk => by
    rw [hevent, if_neg (fun h => hk h.1)]
  have hclock : (resetTo cause s).clock = if cause = .powerOn then Clock.reset else s.clock := by
    rw [resetTo_clock, clockAfterReset_eq]
  have heq := resetTo_eq cause s
  exact ⟨(congrArg State.timeline heq :), (congrArg State.picture heq :), hqueue, (congrArg State.wanted heq :),
    (congrArg (fun t => t.schedule.queue) heq :), (congrArg (fun t => t.buffer.pool) heq :), (congrArg State.counters heq :),
    (congrArg (fun t => t.mgmt.limits) heq :), (congrArg State.sound heq :), (congrArg State.pending heq :), hclock, hunset,
    (congrArg (fun t => t.counting.startup) heq :), hstate, resetTo_link cause s, hlanes, hholds, hcomps,
    (congrArg State.cues heq :), (congrArg State.actions heq :), (congrArg State.sync heq :),
    (congrArg (fun t => t.schedule.heartbeat) heq :), hothers, hclockEvent, (congrArg (fun t => t.mgmt.restartPending) heq :),
    (congrArg (fun t => t.mgmt.snapshot) heq :), (congrArg (fun t => t.counting.queue) heq :),
    (congrArg (fun t => t.counting.log) heq :), (congrArg (fun t => t.counting.bound) heq :), hplace,
    (congrArg State.powered heq :), (congrArg State.resetPin heq :), (congrArg State.signal heq :),
    fun h => (congrArg State.store heq).trans (hstore.1 h),
    fun e rest h => (hstore.2 e rest h).imp (congrArg State.store heq).trans (congrArg State.store heq).trans⟩

/-- Settles O5: each of the four commands, from the whole state that it leaves. -/
theorem powerAndResetPin : Obligations.PowerAndResetPin := by
  intro s
  refine ⟨rfl, fun hpowered hpin => ?_, fun hpowered hpin hsignal => ?_, fun hpowered hpin hsignal hdown => ?_, fun hpowered => ?_⟩
  · change Host.Outcome.next (assertPin s) = _
    simp [assertPin, hpowered, hpin]
  · change Host.Outcome.next (deassertPin s) = _
    simp [deassertPin, releasePin, hpowered, hpin, takeSignal, hsignal]
  · change Host.Outcome.next (deassertPin s) = _
    simp [deassertPin, releasePin, hpowered, hpin, takeSignal, hsignal, hdown, State.running, beginTraining]
  · refine ⟨losePower s, ?_, ?_⟩
    · change Host.Outcome.next (dropPower s) = _
      rw [dropPower, if_pos hpowered]
    · rw [losePower_eq]
      exact ⟨rfl, rfl, rfl, rfl, rfl, rfl, rfl, (settleStore_store s).1, (settleStore_store s).2⟩

end Sys2Proof.Machine

/-! PROOF. The reel link: training, the exits of UP, inbound cells and the outbound side (R1 to R14, R165, R170). -/

namespace Sys2Proof.Machine

/-! ## Reports of events -/

/-- The report queue of `t` is that of `s` with EVENT reports behind it. -/
def appendsEvents (s t : State) : Prop := ∃ rest : List Report, (∀ r ∈ rest, r.isEvent = true) ∧ t.link.queue = s.link.queue ++ rest

theorem appendsEvents_refl (s : State) : appendsEvents s s := ⟨[], by simp⟩

theorem appendsEvents_trans {s t u : State} (h : appendsEvents s t) (h' : appendsEvents t u) : appendsEvents s u := by
  obtain ⟨q, hq, hqueue⟩ := h
  obtain ⟨q', hq', hqueue'⟩ := h'
  refine ⟨q ++ q', fun r hr => ?_, by rw [hqueue', hqueue, List.append_assoc]⟩
  exact (List.mem_append.mp hr).elim (hq r) (hq' r)

/-- An EVENT report joins the tail or is discarded (R12). -/
theorem LinkPort.offer_event {l : LinkPort} {r : Report} (h : r.isEvent = true) :
    (l.offer r).queue = l.queue ∨ (l.offer r).queue = l.queue ++ [r] := by
  have hlane : r.holdLane = none := by
    cases r with
    | event => rfl
    | _ => cases h
  unfold LinkPort.offer LinkPort.take
  simp only [hlane, h, Option.bind_none, if_true]
  split
  · exact .inl rfl
  · split
    · exact .inr rfl
    · exact .inl rfl

theorem queueReport_appendsEvents {r : Report} (h : r.isEvent = true) (s : State) : appendsEvents s (queueReport r s) := by
  obtain hq | hq := LinkPort.offer_event (l := s.link) h
  · exact ⟨[], by simp, hq.trans (List.append_nil _).symm⟩
  · exact ⟨[r], by simpa using h, hq⟩

theorem reportEvent_appendsEvents (k : EventKind) (news : EventNews) (flag : Bool) (s : State) :
    appendsEvents s (reportEvent k news flag s) := by
  unfold reportEvent
  split
  · exact queueReport_appendsEvents rfl s
  · exact appendsEvents_refl s

theorem recordAssert_appendsEvents (k : EventKind) (s : State) : appendsEvents s (recordAssert k s) :=
  reportEvent_appendsEvents k .asserted _ _

theorem recordDeassert_appendsEvents (k : EventKind) (s : State) : appendsEvents s (recordDeassert k s) :=
  reportEvent_appendsEvents k .clear _ _

theorem fireMessages_appendsEvents (ms : List Message) (s : State) : appendsEvents s (fireMessages ms s) := by
  unfold fireMessages
  dsimp only
  split
  · exact appendsEvents_refl s
  · exact recordAssert_appendsEvents .actionOverflow (offerMessages ms s).1

theorem fireTrigger_appendsEvents (x : Trigger) (s : State) : appendsEvents s (fireTrigger x s) := fireMessages_appendsEvents _ s

theorem assertEvent_appendsEvents (k : EventKind) (s : State) : appendsEvents s (assertEvent k s) := by
  unfold assertEvent
  split
  · exact appendsEvents_refl s
  · exact appendsEvents_trans (recordAssert_appendsEvents k s) (fireTrigger_appendsEvents _ _)

theorem deassertEvent_appendsEvents (k : EventKind) (s : State) : appendsEvents s (deassertEvent k s) := by
  unfold deassertEvent
  split
  · exact appendsEvents_trans (recordDeassert_appendsEvents k s) (fireTrigger_appendsEvents _ _)
  · exact appendsEvents_refl s

/-- EVENT reports are no RESTART reply. -/
theorem appendsEvents.holdsRestart_eq {s t : State} (h : appendsEvents s t) : t.link.holdsRestart = s.link.holdsRestart := by
  obtain ⟨rest, hrest, hqueue⟩ := h
  have hnone : rest.any Report.isRestart = false := by
    rw [List.any_eq_false]
    intro r hr hrestart
    have hevent := hrest r hr
    cases r with
    | event => exact Bool.false_ne_true hrestart
    | _ => cases hevent
  rw [LinkPort.holdsRestart, LinkPort.holdsRestart, hqueue, List.any_append, hnone, Bool.or_false]

/-! ## Training -/

theorem takeSignal_of_down {s : State} (hrun : s.running = true) (hsignal : s.signal = true) (hdown : s.link.state = .down) :
    takeSignal s = { s with link := s.link.beginAttempt } := by
  rw [takeSignal_eq, if_pos ⟨hrun, hsignal, hdown⟩]

theorem takeSignal_of_not_down {s : State} (hdown : s.link.state ≠ .down) : takeSignal s = s := by
  rw [takeSignal_eq, if_neg (fun h => hdown h.2.2)]

/-- Settles O6: what begins an attempt, and the fields of the Link Port at its start. -/
theorem trainingAttemptsBegin : Obligations.TrainingAttemptsBegin := by
  intro s hrun
  refine ⟨fun h => ?_, fun h => ?_, fun h => ?_, fun h => ?_, rfl, rfl, rfl, rfl, ?_⟩
  · change Host.Outcome.next (takeSignal { s with signal := true }) = _
    rw [takeSignal_of_down (s := { s with signal := true }) hrun rfl h]
  · change Host.Outcome.next (takeSignal { s with signal := true }) = _
    rw [takeSignal_of_not_down (s := { s with signal := true }) h]
  · change Host.Outcome.next (whenRunning nextAttempt s) = _
    rw [whenRunning_of_running hrun, nextAttempt, if_pos h, beginTraining]
  · change Host.Outcome.next (whenRunning takeRetrain s) = _
    rw [whenRunning_of_running hrun, takeRetrain, h]
    rfl
  · simp only [LinkPort.beginAttempt, Config.ownPayloadClass, Config.ownLaneCounts]
    cases s.link.ownRetrain <;> rfl

/-! ## Leaving UP -/

theorem dropLink_of_no_restart {s : State} (h : s.link.holdsRestart = false) (target : LinkState) (own : Bool) :
    dropLink target own s = leaveUp target own s := by
  rw [dropLink, h]; rfl

theorem dropLink_of_restart {s : State} (h : s.link.holdsRestart = true) (target : LinkState) (own : Bool) :
    dropLink target own s = resetTo .restart (leaveUp target own s) := by
  rw [dropLink, h]; rfl

theorem loseSignal_of_up {s : State} (hrun : s.running = true) (h : s.link.state = .up) :
    loseSignal s = dropLink .down false { s with signal := false } := by
  have hrun' : ({ s with signal := false } : State).running = true := hrun
  simp only [loseSignal, hrun', h, Bool.true_eq_false, if_false]

theorem takeRetrain_of_up {s : State} (h : s.link.state = .up) : takeRetrain s = dropLink .training false s := by
  simp only [takeRetrain, h]

/-- Settles O8, by the Link Port that leaving UP leaves. -/
theorem leavingUp : Obligations.LeavingUp := by
  intro s hrun
  have hlose : exec .signalLoss s = .next (loseSignal s) := rfl
  have hretrain : exec .retrainWordReceived s = .next (takeRetrain s) := by
    change Host.Outcome.next (whenRunning takeRetrain s) = _
    rw [whenRunning_of_running hrun]
  have hrun' : ({ s with signal := false } : State).running = true := hrun
  refine ⟨fun h hnone => ⟨?_, ?_⟩, fun h => ?_, fun h => ⟨?_, ?_⟩⟩
  · obtain ⟨hfrom, hlink, hevent⟩ := leaveUp_down false { s with signal := false }
    refine ⟨_, hlose, ?_⟩
    rw [loseSignal_of_up hrun h, dropLink_of_no_restart (s := { s with signal := false }) hnone]
    exact ⟨by rw [hlink]; rfl, hevent, hfrom⟩
  · obtain ⟨hfrom, hlink, hevent⟩ := leaveUp_training false s
    refine ⟨_, hretrain, ?_⟩
    rw [takeRetrain_of_up h, dropLink_of_no_restart hnone]
    exact ⟨by rw [hlink]; rfl, hevent, hfrom⟩
  · rw [hlose]
    simp only [loseSignal, hrun', h, Bool.true_eq_false, if_false]
  · rw [hlose]
    simp only [loseSignal, hrun', h, Bool.true_eq_false, if_false]
  · rw [hretrain]
    simp only [takeRetrain, h]

/-! ## The outbound side -/

theorem LinkPort.nextCell_queue (l : LinkPort) : l.nextCell.queue = l.queue := by
  unfold LinkPort.nextCell; split <;> simp_all

theorem LinkPort.nextCell_sending (l : LinkPort) : l.nextCell.sending = if l.queue = [] then .fill else .report := by
  unfold LinkPort.nextCell; split <;> simp_all

theorem LinkPort.nextCell_out (l : LinkPort) : l.nextCell.out = .cell ((l.queue.head?.map reportCell).getD fillCell) := by
  unfold LinkPort.nextCell; split <;> simp_all

theorem LinkPort.nextCell_lost (l : LinkPort) : l.nextCell.lost = l.lost := by
  unfold LinkPort.nextCell; split <;> rfl

/-- The state whose oldest report has left, and whose next cell begins (R11). -/
def afterReport (rest : List Report) (s : State) : State := { s with link := { s.link with queue := rest }.nextCell }

theorem sendReport_of_queue {s : State} {r : Report} {rest : List Report} (hup : s.link.state = .up)
    (hsending : s.link.sending = .report) (hqueue : s.link.queue = r :: rest) :
    sendReport s = restartIf r.isRestart (clearLatches r (afterReport rest s)) := by
  have hfree : ¬ (s.link.state ≠ .up ∨ s.link.sending ≠ .report) := by simp [hup, hsending]
  simp only [sendReport, if_neg hfree, hqueue, afterReport]

/-- Clearing the latches touches the latched fields alone (R5, R162). -/
theorem clearLatches_eq (r : Report) (s : State) :
    (∀ tag st, r = .reply 4 tag none (.status st) → clearLatches r s = { s with
      link := { s.link with lost := s.link.lost && !st.linkLost },
      mgmt := { s.mgmt with unread := s.mgmt.unread && !st.unread } }) ∧
    ((∀ tag st, r ≠ .reply 4 tag none (.status st)) → clearLatches r s = s) := by
  refine ⟨fun tag st h => by rw [h]; rfl, fun h => ?_⟩
  unfold clearLatches
  split
  · exact absurd rfl (h _ _)
  · rfl

/-- Settles O9: the reply is discarded with the queue, or has been sent. -/
theorem restartTakesPlace : Obligations.RestartTakesPlace := by
  refine ⟨fun s hrun hup hrestart => ⟨?_, ?_⟩, fun s tag rest hrun hup hsending hqueue => ?_⟩
  · change Host.Outcome.next (loseSignal s) = _
    rw [loseSignal_of_up hrun hup, dropLink_of_restart (s := { s with signal := false }) hrestart]
  · change Host.Outcome.next (whenRunning takeRetrain s) = _
    rw [whenRunning_of_running hrun, takeRetrain_of_up hup, dropLink_of_restart hrestart]
  · change Host.Outcome.next (whenRunning sendReport s) = _
    rw [whenRunning_of_running hrun, sendReport_of_queue hup hsending hqueue]
    rfl

/-! ## Inbound cells -/

theorem noteDamage_reports (s : State) :
    reportsFrom { s with link := { s.link with damage := min 17 (s.link.damage + 1) } } (noteDamage s) ∧
    (16 ≤ s.link.damage → (noteDamage s).isAsserted .cellDamage = true) := by
  unfold noteDamage satAdd Config.damageCells
  dsimp only
  split
  · exact ⟨assertEvent_reports _ _, fun _ => isAsserted_assertEvent _ _⟩
  · next h => exact ⟨reportsFrom_refl _, fun h16 => absurd (by omega) h⟩

theorem noteDamage_appendsEvents (s : State) : appendsEvents s (noteDamage s) := by
  unfold noteDamage
  dsimp only
  split
  · exact assertEvent_appendsEvents _ _
  · exact appendsEvents_refl _

theorem receiveCell_of_up {s : State} (hup : s.link.state = .up) (bytes : List Byte) (cut : Bool) :
    (readCell bytes cut = none → receiveCell bytes cut s = followRun .damaged (noteClass .damaged s)) ∧
    (∀ c, readCell bytes cut = some c → receiveCell bytes cut s =
      disposeCell (classOf (s.link.limit.getD 1024) (some c)) c
        (followRun (classOf (s.link.limit.getD 1024) (some c))
          (noteKind (classOf (s.link.limit.getD 1024) (some c)) c (noteClass (classOf (s.link.limit.getD 1024) (some c)) s)))) := by
  have hfree : ¬ s.link.state ≠ .up := fun h => h hup
  refine ⟨fun h => ?_, fun c h => ?_⟩
  · simp only [receiveCell, if_neg hfree, h, classOf]
  · simp only [receiveCell, if_neg hfree, h]

/-- A cell of a class within its run ends the retrain run. -/
theorem followRun_of_ne {k : CellClass} (h : k ≠ .overlongDamaged) (s : State) :
    followRun k s = { s with link := { s.link with retrainRun := 0 } } := by
  cases k
  case overlongDamaged => exact absurd rfl h
  all_goals rfl

/-! ## Classes and disposal -/

theorem receiveCell_of_not_up {s : State} (h : s.link.state ≠ .up) (bytes : List Byte) (cut : Bool) : receiveCell bytes cut s = s := by
  rw [receiveCell, if_pos h]

/-- The class of a cell with a header, by its length and its check word (R8). -/
theorem classOf_some (limit : Nat) (c : Cell) : classOf limit (some c) =
    if limit < max c.lenField c.payload.length then (if c.checkGood then .overlong else .overlongDamaged)
    else if c.checkGood then .good else .damaged := rfl

/-- What reporting may change, named. -/
theorem reportsFrom.exists_eq {x u : State} (h : reportsFrom x u) : ∃ q ev aq al at_ dropped, u = { x with
    link := { x.link with queue := q }, events := ev, actions := { x.actions with queue := aq, line := al, timer := at_ },
    counters := { x.counters with actionsDropped := dropped } } := ⟨_, _, _, _, _, _, h⟩

/-- A counter other than the dropped actions, and the retrain run, may be changed after reporting as before it. -/
theorem reportsFrom.mark {x u : State} (h : reportsFrom x u) (n : Nat) {f : Counters → Counters}
    (hf : ∀ c m, f { c with actionsDropped := m } = { f c with actionsDropped := m }) :
    reportsFrom { x with link := { x.link with retrainRun := n }, counters := f x.counters }
      { u with link := { u.link with retrainRun := n }, counters := f u.counters } := by
  obtain ⟨q, ev, aq, al, at_, dropped, rfl⟩ := h.exists_eq
  unfold reportsFrom
  rw [hf]

/-- The count of a cell of no known kind, or of a REPORT cell within the limit (R9). -/
def kindCount (k : CellClass) (c : Cell) (n : Counters) : Counters :=
  if c.kind = .wrong ∨ c.kind = .report ∧ (k = .good ∨ k = .damaged) then { n with wrongKind := bump32 1 n.wrongKind } else n

theorem kindCount_actionsDropped (k : CellClass) (c : Cell) (n : Counters) (m : Nat) :
    kindCount k c { n with actionsDropped := m } = { kindCount k c n with actionsDropped := m } := by
  unfold kindCount
  split <;> rfl

theorem noteKind_eq (k : CellClass) (c : Cell) (s : State) : noteKind k c s = s.count (kindCount k c) := by
  unfold noteKind kindCount dropWrongKind
  cases c.kind <;> cases k <;> rfl

/-- A class that adds to the damage count, with what is counted and the retrain run that is left. -/
theorem noteDamage_mark {s : State} (f : Counters → Counters) (k : CellClass) (c : Cell) (n : Nat) :
    reportsFrom { s with
        link := { s.link with retrainRun := n, damage := min 17 (s.link.damage + 1) }, counters := kindCount k c (f s.counters) }
      { (noteDamage (s.count f)).count (kindCount k c) with
        link := { (noteDamage (s.count f)).link with retrainRun := n } } :=
  (noteDamage_reports (s.count f)).1.mark n (kindCount_actionsDropped k c)

theorem followRun_overlongDamaged {s : State} (h : s.link.retrainRun < 7) :
    followRun .overlongDamaged s = { s with link := { s.link with retrainRun := s.link.retrainRun + 1 } } := by
  have hn : satAdd Config.retrainCells 1 s.link.retrainRun = s.link.retrainRun + 1 := by
    simp only [satAdd, Config.retrainCells]; omega
  have hne : s.link.retrainRun + 1 ≠ Config.retrainCells := by simp only [Config.retrainCells]; omega
  simp only [followRun, hn, if_neg hne]

/-- Content passes to the Cell Sorter in the classes within the limit, marked damaged in the second (R9). -/
theorem disposeCell_content {c : Cell} (h : c.kind = .picture ∨ c.kind = .sound ∨ c.kind = .text) (s : State) :
    disposeCell .good c s = passContent c false s ∧ disposeCell .damaged c s = passContent c true s := by
  unfold disposeCell
  rcases h with h | h | h <;> rw [h] <;> exact ⟨rfl, rfl⟩

theorem disposeCell_overlong (c : Cell) (s : State) : disposeCell .overlong c s = s ∧ disposeCell .overlongDamaged c s = s := by
  unfold disposeCell
  cases c.kind <;> exact ⟨rfl, rfl⟩

theorem disposeCell_ignored {c : Cell} (h : c.kind = .fill ∨ c.kind = .report ∨ c.kind = .wrong) (k : CellClass) (s : State) :
    disposeCell k c s = s := by
  unfold disposeCell
  rcases h with h | h | h <;> rw [h] <;> cases k <;> rfl

theorem disposeCell_damaged_manage {c : Cell} (h : c.kind = .manage) (s : State) : disposeCell .damaged c s = s := by
  unfold disposeCell
  rw [h]

theorem disposeCell_good_manage {c : Cell} (h : c.kind = .manage) (s : State) : disposeCell .good c s = passManage c s := by
  unfold disposeCell
  rw [h]

theorem kindCount_of_content {k : CellClass} {c : Cell}
    (h : c.kind ≠ .wrong ∧ c.kind ≠ .report) (n : Counters) : kindCount k c n = n := by
  simp [kindCount, h.1, h.2]

theorem kindCount_of_wrong {k : CellClass} {c : Cell} (h : c.kind = .report ∨ c.kind = .wrong) (hk : k = .good ∨ k = .damaged)
    (n : Counters) : kindCount k c n = { n with wrongKind := min 4294967295 (n.wrongKind + 1) } := by
  have h' : c.kind = .wrong ∨ c.kind = .report ∧ (k = .good ∨ k = .damaged) := h.elim (fun e => .inr ⟨e, hk⟩) .inl
  rw [kindCount, if_pos h']
  rfl

theorem kindCount_overlong {k : CellClass} (hk : k = .overlong ∨ k = .overlongDamaged) (c : Cell) (n : Counters) :
    kindCount k c n = { n with wrongKind := if c.kind = .wrong then min 4294967295 (n.wrongKind + 1) else n.wrongKind } := by
  have hk' : ¬ (k = .good ∨ k = .damaged) := by rcases hk with rfl | rfl <;> decide
  by_cases h : c.kind = .wrong <;> simp [kindCount, h, hk', bump32, satAdd]

/-- Settles O12: below 48 queued reports the command is served, from 48 on it is counted. -/
theorem manageCellAdmission : Obligations.ManageCellAdmission := by
  refine ⟨fun s c => ⟨fun h => ?_, fun h => ?_⟩, fun s bytes cut c hrun hup hcell hkind hclass => ?_⟩
  · rw [passManage, if_pos (by simp only [Config.manageRoom]; omega)]
  · rw [passManage, if_neg (by simp only [Config.manageRoom]; omega)]
    rfl
  · change Host.Outcome.next (whenRunning (receiveCell bytes cut) s) = _
    rw [whenRunning_of_running hrun, (receiveCell_of_up hup bytes cut).2 c hcell, hclass, followRun_of_ne (by decide), noteKind_eq,
      State.count, kindCount_of_content (by simp [hkind]), disposeCell_good_manage hkind]
    rfl

/-- Settles O10, by class, and then by kind. -/
theorem cellClasses : Obligations.CellClasses := by
  refine ⟨fun limit c => ⟨fun hlen hgood => ?_, fun hlen hgood => ?_, fun hlen hgood => ?_, fun hlen hgood => ?_⟩,
    fun s bytes cut hrun hup hshort => ?_, fun s bytes cut hrun hup => ?_, fun s bytes cut c hrun hup hcell => ?_⟩
  · rw [classOf_some, if_pos hlen, hgood]; rfl
  · rw [classOf_some, if_pos hlen, hgood]; rfl
  · rw [classOf_some, if_neg (Nat.not_lt.mpr hlen), hgood]; rfl
  · rw [classOf_some, if_neg (Nat.not_lt.mpr hlen), hgood]; rfl
  · have hnone : readCell bytes cut = none := by rw [readCell, if_pos hshort]
    obtain ⟨hfrom, hasserted⟩ := noteDamage_reports (s.count (countClass .damaged))
    refine ⟨_, rfl, ?_⟩
    rw [whenRunning_of_running hrun, (receiveCell_of_up hup bytes cut).1 hnone, followRun_of_ne (by decide)]
    exact ⟨hasserted, hfrom.mark 0 (f := id) (fun _ _ => rfl)⟩
  · change Host.Outcome.next (whenRunning (receiveCell bytes cut) s) = _
    rw [whenRunning_of_running hrun, receiveCell_of_not_up hup]
  have hexec : exec (.cellReceived bytes cut) s = .next (receiveCell bytes cut s) := by
    change Host.Outcome.next (whenRunning (receiveCell bytes cut) s) = _
    rw [whenRunning_of_running hrun]
  have hreceive := (receiveCell_of_up hup bytes cut).2 c hcell
  dsimp only
  refine ⟨fun hclass => ?_, fun hclass => ?_, fun hclass => ?_, fun hclass hlow => ?_⟩
  · rw [hclass, followRun_of_ne (by decide), noteKind_eq] at hreceive
    rw [hexec, hreceive]
    refine ⟨fun hkind => ?_, fun hkind => ?_, fun hkind => ?_⟩
    · rw [(disposeCell_content hkind _).1, State.count, kindCount_of_content (by rcases hkind with h | h | h <;> simp [h])]
      rfl
    · rw [disposeCell_ignored (.inl hkind), State.count, kindCount_of_content (by simp [hkind])]
      rfl
    · rw [disposeCell_ignored (.inr hkind), State.count, kindCount_of_wrong hkind (.inl rfl)]
      rfl
  · have hfrom := noteDamage_mark (s := s) (countClass .damaged) .damaged c 0
    rw [hclass, followRun_of_ne (by decide), noteKind_eq] at hreceive
    rw [hexec, hreceive]
    refine ⟨fun hkind => ?_, fun hkind => ?_, fun hkind => ?_⟩
    · rw [kindCount_of_content (by rcases hkind with h | h | h <;> simp [h])] at hfrom
      exact ⟨_, hfrom, by rw [(disposeCell_content hkind _).2]; rfl⟩
    · rw [kindCount_of_content (by rcases hkind with h | h <;> simp [h])] at hfrom
      refine ⟨_, hfrom, ?_⟩
      rcases hkind with h | h
      · rw [disposeCell_damaged_manage h]; rfl
      · rw [disposeCell_ignored (.inl h)]; rfl
    · rw [kindCount_of_wrong hkind (.inr rfl)] at hfrom
      exact ⟨_, hfrom, by rw [disposeCell_ignored (.inr hkind)]; rfl⟩
  · rw [hclass, followRun_of_ne (by decide), noteKind_eq, (disposeCell_overlong c _).1, State.count,
      kindCount_overlong (.inl rfl)] at hreceive
    rw [hexec, hreceive]
    rfl
  · have hrunOf : ((noteDamage (s.count (countClass .overlongDamaged))).count (kindCount .overlongDamaged c)).link.retrainRun =
        s.link.retrainRun := (noteDamage_reports (s.count (countClass .overlongDamaged))).1.link_retrainRun_eq
    have hfrom := noteDamage_mark (s := s) (countClass .overlongDamaged) .overlongDamaged c (s.link.retrainRun + 1)
    rw [kindCount_overlong (.inr rfl)] at hfrom
    refine ⟨_, hexec, ?_⟩
    rw [hreceive, hclass, noteKind_eq, (disposeCell_overlong c _).2]
    have hnote : noteClass .overlongDamaged s = noteDamage (s.count (countClass .overlongDamaged)) := rfl
    rw [hnote, followRun_overlongDamaged (by rw [hrunOf]; exact hlow), hrunOf]
    exact hfrom

/-- Settles O11: no RESTART reply waits behind the damage reports either, and the M460 has left UP on its own trigger. -/
theorem eighthOverlongDamagedRetrains : Obligations.EighthOverlongDamagedRetrains := by
  intro s bytes cut c hrun hup hnone hseven hcell hclass
  have hreceive := (receiveCell_of_up hup bytes cut).2 c hcell
  have hnote : noteClass .overlongDamaged s = noteDamage (s.count (countClass .overlongDamaged)) := rfl
  rw [hclass, (disposeCell_overlong c _).2, noteKind_eq, hnote] at hreceive
  have hrunOf : (noteDamage (s.count (countClass .overlongDamaged))).link.retrainRun = 7 :=
    (noteDamage_reports (s.count (countClass .overlongDamaged))).1.link_retrainRun_eq.trans hseven
  have hrestart : (noteDamage (s.count (countClass .overlongDamaged))).link.holdsRestart = false :=
    (noteDamage_appendsEvents (s.count (countClass .overlongDamaged))).holdsRestart_eq.trans hnone
  generalize noteDamage (s.count (countClass .overlongDamaged)) = u at hreceive hrunOf hrestart
  have hdrop : followRun .overlongDamaged (u.count (kindCount .overlongDamaged c)) =
      leaveUp .training true { u.count (kindCount .overlongDamaged c) with link := { u.link with retrainRun := 8 } } := by
    have hsat : satAdd Config.retrainCells 1 (u.count (kindCount .overlongDamaged c)).link.retrainRun = 8 := by
      rw [count_link, hrunOf]; rfl
    simp only [followRun, hsat]
    exact dropLink_of_no_restart (s := { u.count (kindCount .overlongDamaged c) with
      link := { u.link with retrainRun := 8 } }) hrestart _ _
  obtain ⟨-, hlink, hevent⟩ := leaveUp_training true
    { u.count (kindCount .overlongDamaged c) with link := { u.link with retrainRun := 8 } }
  refine ⟨_, rfl, ?_⟩
  rw [whenRunning_of_running hrun, hreceive, hdrop, hlink]
  exact ⟨rfl, rfl, rfl, hevent, rfl⟩

/-! ## What a cell carries out -/

@[simp] theorem length_leBytes : ∀ width n, (leBytes width n).length = width
  | 0, _ => rfl
  | width + 1, n => by rw [leBytes, List.length_cons, length_leBytes]

@[simp] theorem length_timeBytes (t : TimeOfDay) : (timeBytes t).length = 5 := by simp [timeBytes]
@[simp] theorem length_flagByte (b : Bool) : (flagByte b).length = 1 := length_leBytes 1 _
@[simp] theorem length_optBytes (width : Nat) (o : Option Nat) : (optBytes width o).length = width := length_leBytes width _
@[simp] theorem length_dayMinuteBytes (d m : Nat) : (dayMinuteBytes d m).length = 4 := by simp [dayMinuteBytes]
@[simp] theorem length_logBytes (r : LogRecord) : (logBytes r).length = 40 := by simp [logBytes]

@[simp] theorem length_allowanceBytes (index : Nat) (p : Place) : (allowanceBytes index p).length = 21 := by
  unfold allowanceBytes
  split <;> simp

theorem length_flatten_logBytes (l : List LogRecord) : (l.map logBytes).flatten.length = 40 * l.length := by
  induction l with
  | nil => rfl
  | cons r l ih => rw [List.map_cons, List.flatten_cons, List.length_append, ih, length_logBytes, List.length_cons]; omega

/-- The result bytes of a reply leave room for its head, READ_LOG returning 16 records at most (section 11.3). -/
theorem length_resultBytes_le (x : Results) (h : ∀ lo hi n records, x = .log lo hi n records → records.length ≤ 16) :
    (resultBytes x).length ≤ 1016 := by
  cases x
  case nothing => exact Nat.zero_le _
  case index => simp [resultBytes]
  case clock => simp [resultBytes]
  case log lo hi n records =>
    have hlen := h lo hi n records rfl
    simp only [resultBytes, List.length_append, length_optBytes, length_leBytes, length_flatten_logBytes]
    omega
  case allowanceWas =>
    simp only [resultBytes, List.length_append, length_allowanceBytes, List.length_take]
    omega
  all_goals exact List.length_take_le 1016 _

theorem length_reportPayload_le (r : Report)
    (h : ∀ code tag refusal lo hi n records, r = .reply code tag refusal (.log lo hi n records) → records.length ≤ 16) :
    (reportPayload r).length ≤ 1024 := by
  cases r with
  | reply code tag refusal x =>
    have hlen := length_resultBytes_le x (fun lo hi n records e => h code tag refusal lo hi n records (e ▸ rfl))
    simp only [reportPayload, List.length_append, length_leBytes, length_flagByte]
    omega
  | event => simp [reportPayload]
  | want => simp [reportPayload]
  | hold => simp [reportPayload]

theorem clearLatches_frame (r : Report) (s : State) :
    (clearLatches r s).link.queue = s.link.queue ∧ (clearLatches r s).link.sending = s.link.sending ∧
    (clearLatches r s).link.out = s.link.out ∧ (clearLatches r s).timeline = s.timeline ∧ (clearLatches r s).events = s.events ∧
    (clearLatches r s).counting = s.counting ∧ (clearLatches r s).counters = s.counters := by
  unfold clearLatches
  split <;> exact ⟨rfl, rfl, rfl, rfl, rfl, rfl, rfl⟩

/-- Settles O15: the next cell begins behind the report that leaves, and every payload fits. -/
theorem outboundCellsLeave : Obligations.OutboundCellsLeave := by
  refine ⟨fun s r rest hrun hup hsending hqueue hrestart => ?_, fun s hrun hup hsending => ?_, length_reportPayload_le⟩
  · obtain ⟨hcarried, hother⟩ := clearLatches_eq r (afterReport rest s)
    obtain ⟨hq, hs, ho, ht, he, hc, hn⟩ := clearLatches_frame r (afterReport rest s)
    refine ⟨clearLatches r (afterReport rest s), ?_, ?_⟩
    · change Host.Outcome.next (whenRunning sendReport s) = _
      rw [whenRunning_of_running hrun, sendReport_of_queue hup hsending hqueue, hrestart]
      rfl
    refine ⟨hq.trans (LinkPort.nextCell_queue _), hs.trans (LinkPort.nextCell_sending _), ho.trans (LinkPort.nextCell_out _),
      fun tag st h => ?_, fun h => ?_, ht, he, hc, hn⟩
    · rw [hcarried tag st h]
      exact ⟨by rw [← LinkPort.nextCell_lost { s.link with queue := rest }]; rfl, rfl⟩
    · rw [hother h]
      exact ⟨LinkPort.nextCell_lost { s.link with queue := rest }, rfl⟩
  · change Host.Outcome.next (whenRunning sendFill s) = _
    rw [whenRunning_of_running hrun, sendFill, if_pos ⟨hup, hsending⟩]

end Sys2Proof.Machine

/-! PROOF. The Management Unit: the general tests, the reading commands, and the commands that install tables, compositions,
allowances, marks and schedule entries (R53 to R57, R60 to R62, R97, R129, R130, R139, R149, R150, R158 to R165). -/

namespace Sys2Proof.Machine

/-! ## Accepting a command -/

section

variable (s : State)

@[simp] theorem acceptCommand_mgmt : (acceptCommand s).mgmt = s.mgmt := (acceptCommand_reports s).mgmt_eq
@[simp] theorem acceptCommand_clock : (acceptCommand s).clock = s.clock := (acceptCommand_reports s).clock_eq
@[simp] theorem acceptCommand_sound : (acceptCommand s).sound = s.sound := (acceptCommand_reports s).sound_eq
@[simp] theorem acceptCommand_linkState : (acceptCommand s).link.state = s.link.state := (acceptCommand_reports s).link_state_eq

@[simp] theorem acceptCommand_table : (acceptCommand s).actions.table = s.actions.table := by
  rw [show acceptCommand s = _ from acceptCommand_reports s]

@[simp] theorem acceptCommand_nowSecs : (acceptCommand s).nowSecs = s.nowSecs := by
  rw [State.nowSecs, acceptCommand_clock]; rfl

@[simp] theorem acceptCommand_place (i : Fin 32) : (acceptCommand s).place i = s.place i := by
  rw [State.place, acceptCommand_counting]; rfl

@[simp] theorem acceptCommand_reserves (i : Fin 32) : (acceptCommand s).reserves i = s.reserves i := by
  rw [State.reserves, acceptCommand_counting]; rfl

@[simp] theorem acceptCommand_reservesExport : (acceptCommand s).reservesExport = s.reservesExport := by
  rw [State.reservesExport, acceptCommand_counting]; rfl

@[simp] theorem acceptCommand_slotInUse (i : Fin 4) : (acceptCommand s).slotInUse i = s.slotInUse i := by
  rw [State.slotInUse, acceptCommand_comps]; rfl

@[simp] theorem acceptCommand_heldElsewhere (i : Fin 4) (n : Nat) : (acceptCommand s).heldElsewhere i n = s.heldElsewhere i n := by
  rw [State.heldElsewhere, acceptCommand_comps]; rfl

@[simp] theorem acceptCommand_entriesOutside (i : Fin 4) : (acceptCommand s).entriesOutside i = s.entriesOutside i := by
  rw [State.entriesOutside, acceptCommand_comps]; rfl

end

/-- A part that executes commands takes a command of the 28 as its body on the accepted state. -/
theorem next_manage {s : State} (h : s.serves = true) (code tag : Nat) (body : State → State) :
    (.next (whenRunning (manage code tag body) s) : Host.Outcome State Fault Refusal) = .next (body (acceptCommand s)) := by
  rw [whenRunning_manage_of_serves h]

/-! ## The heartbeat timer -/

theorem acceptCommand_heartbeatLost (s : State) : (acceptCommand s).isAsserted .heartbeatLost = false :=
  isAsserted_deassertEvent _ _ (by decide)

theorem heartbeatAt_reports (n : Nat) (s : State) :
    reportsFrom { s with schedule := { s.schedule with heartbeat := n } } (heartbeatAt n s) := by
  unfold heartbeatAt
  dsimp only
  split
  · exact assertEvent_reports _ _
  · exact reportsFrom_refl _

/-- The timer that has reached a nonzero period is lost (R61). -/
theorem heartbeatAt_lost {n : Nat} {s : State} (h : s.mgmt.limits.heartbeat ≠ 0) (hn : s.mgmt.limits.heartbeat ≤ n) :
    (heartbeatAt n s).isAsserted .heartbeatLost = true := by
  rw [heartbeatAt, if_pos ⟨h, hn⟩]
  exact isAsserted_assertEvent _ _

/-- Settles O22: a command restarts the timer; the timer is lost at its period. -/
theorem heartbeatTimer : Obligations.HeartbeatTimer := by
  intro s
  refine ⟨⟨by rw [acceptCommand_schedule], acceptCommand_heartbeatLost s, acceptCommand_reports s⟩, fun hrun h => ?_, fun hrun h => ?_⟩
  · refine ⟨heartbeatAt (max s.schedule.heartbeat s.mgmt.limits.heartbeat) s, ?_, heartbeatAt_lost h (Nat.le_max_right _ _),
      heartbeatAt_reports _ _⟩
    change Host.Outcome.next (whenRunning expireHeartbeat s) = _
    rw [whenRunning_of_running hrun, expireHeartbeat, if_neg h]
  · change Host.Outcome.next (whenRunning expireHeartbeat s) = _
    rw [whenRunning_of_running hrun, expireHeartbeat, if_pos h]

/-! ## General refusals -/

/-- Each of the 28 commands passes the general tests under its own code and tag. -/
theorem exec_of_command {c : Instr} {code tag : Nat} (h : c.command = some (code, tag)) (s : State) :
    ∃ body, exec c s = .next (if s.running then manage code tag body s else s) := by
  cases c
  all_goals cases h
  all_goals exact ⟨_, rfl⟩

theorem manage_of_starting {s : State} (h : s.counting.startup ≠ .complete) (code tag : Nat) (body : State → State) :
    manage code tag body s = refuse code tag .starting (acceptCommand s) := by
  have h' : (acceptCommand s).counting.startup ≠ .complete := by rwa [acceptCommand_counting]
  simp only [manage, if_pos h']

theorem manage_of_pending {s : State} (h : s.counting.startup = .complete) (hp : s.mgmt.restartPending = true) (code tag : Nat)
    (body : State → State) : manage code tag body s = refuse code tag .busy (acceptCommand s) := by
  have h' : ¬ (acceptCommand s).counting.startup ≠ .complete := by rw [acceptCommand_counting]; exact (fun hn => hn h)
  have hp' : (acceptCommand s).mgmt.restartPending = true := by rwa [acceptCommand_mgmt]
  simp only [manage, if_neg h', if_pos hp']

/-- A code outside 1 to 28 names no command (R158). -/
theorem serveCode_unknown {code : Nat} (h : code = 0 ∨ 28 < code) (tag : Nat) (args : List Byte) :
    serveCode code tag args = manage code tag (refuse code tag .unknownCommand) := by
  unfold serveCode
  split
  case h_29 => rfl
  all_goals omega

/-- Settles O23: the tests stand before every body, and before the refusal of an unknown code. -/
theorem generalRefusals : Obligations.GeneralRefusals := by
  refine ⟨fun c code tag s hc hrun => ?_, fun s hs => ⟨fun code t0 t1 args => ⟨?_, fun h => ?_⟩, fun payload hshort => ?_⟩⟩
  · obtain ⟨body, hexec⟩ := exec_of_command hc s
    rw [hexec, if_pos hrun]
    exact ⟨fun h => by rw [manage_of_starting h], fun h hp => by rw [manage_of_pending h hp]⟩
  · exact next_manage hs _ _ _
  · change serveCode code.toNat _ args s = _
    rw [serveCode_unknown h, manage_of_serves hs]
    rfl
  · match payload, hshort with
    | [], _ => exact ⟨_, next_manage hs _ _ _, manage_of_serves hs _ _ _⟩
    | [_], _ => exact ⟨_, next_manage hs _ _ _, manage_of_serves hs _ _ _⟩
    | [_, _], _ => exact ⟨_, next_manage hs _ _ _, manage_of_serves hs _ _ _⟩

/-! ## Reading commands and RESTART -/

theorem eventRecords_singleton (s : State) (k : Fin 26) : s.eventRecords [k.val] = [(k.val, s.events[k])] := by
  simp [State.eventRecords]

/-- Settles O24, command by command. -/
theorem readingCommandsReply : Obligations.ReadingCommandsReply := by
  intro tag s hs
  refine ⟨next_manage hs _ _ _, next_manage hs _ _ _, (next_manage hs _ _ _).trans ?_, (next_manage hs _ _ _).trans ?_,
    (next_manage hs _ _ _).trans ?_, fun kind => (next_manage hs _ _ _).trans ?_,
    fun first count hlow hhigh => (next_manage hs _ _ _).trans ?_, fun kind hk => (next_manage hs _ _ _).trans ?_,
    fun first count h => (next_manage hs _ _ _).trans ?_⟩
  · rw [acceptCommand_mgmt]
  · rw [acceptCommand_mgmt]
  · rw [acceptCommand_schedule]
  · rw [if_neg (by omega), eventRecords_singleton]
  · rw [if_neg (by omega), State.unexported, acceptCommand_counting]
  · rw [if_pos (by omega)]
  · rw [if_pos h]

theorem LinkPort.offer_reply_of_room {l : LinkPort} (hup : l.state = .up) (hroom : l.queue.length < 64) (code tag : Nat)
    (refusal : Option Reason) (x : Results) : l.offer (.reply code tag refusal x) =
      { l with queue := l.queue ++ [.reply code tag refusal x] } := by
  have hnot : ¬ l.state ≠ .up := (fun hn => hn hup)
  simp [LinkPort.offer, LinkPort.take, Report.holdLane, hup, Config.reportPlaces, hroom]

/-- The accepted state with a RESTART pending (R165). -/
def restartAccepted (s : State) : State := { acceptCommand s with mgmt := { (acceptCommand s).mgmt with restartPending := true } }

theorem restartAccepted_eq (s : State) :
    restartAccepted s = { acceptCommand s with mgmt := { s.mgmt with restartPending := true } } := by
  rw [restartAccepted, acceptCommand_mgmt]

/-- RESTART queues its reply; a reply that does not wait brings the reset (R165). -/
theorem exec_restart {s : State} (hs : s.serves = true) (tag : Nat) : exec (.restart tag) s =
    .next (restartIf (!(reply 7 tag .nothing (restartAccepted s)).link.holdsRestart) (reply 7 tag .nothing (restartAccepted s))) :=
  next_manage hs _ _ _

/-- Settles O25: the reply waits in the queue, or is discarded at once outside UP. -/
theorem restartWaitsForReply : Obligations.RestartWaitsForReply := by
  intro tag s hs
  rw [exec_restart hs]
  refine ⟨fun hup hroom => ?_, fun hup hnone => ?_⟩
  · have hlink : (restartAccepted s).link.offer (.reply 7 tag none .nothing) =
        { (acceptCommand s).link with queue := (acceptCommand s).link.queue ++ [.reply 7 tag none .nothing] } :=
      LinkPort.offer_reply_of_room (l := (acceptCommand s).link) (by rw [acceptCommand_linkState, hup]) hroom 7 tag none .nothing
    have hholds : (reply 7 tag .nothing (restartAccepted s)).link.holdsRestart = true := by
      rw [reply, queueReport, hlink]
      simp [LinkPort.holdsRestart, Report.isRestart]
    rw [hholds, reply, queueReport, hlink, restartAccepted_eq]
    rfl
  · have hup' : (restartAccepted s).link.state ≠ .up := by
      change (acceptCommand s).link.state ≠ .up
      rwa [acceptCommand_linkState]
    have hlink : (restartAccepted s).link = s.link :=
      link_deassertEvent_of_not_up { s with schedule := { s.schedule with heartbeat := 0 } } _ hup
    rw [reply, queueReport_of_not_up _ _ hup', hlink, hnone, restartAccepted_eq]
    rfl

/-! ## Compositions -/

/-- The tests of LOAD_COMPOSITION that follow the decoding, in their order (R53 to R57). -/
theorem loadInto_cases (tag : Nat) (i : Fin 4) (raw : RawComposition) (s : State) :
    (s.slotInUse i = true → loadInto tag i raw s = refuse 8 tag .busy s) ∧
    (s.slotInUse i = false → raw.inRange = false → loadInto tag i raw s = refuse 8 tag .badArgument s) ∧
    (∀ reason k, s.slotInUse i = false → raw.inRange = true → reelsOf 0 raw.reels = .error (reason, k) →
      loadInto tag i raw s = refuseAt 8 tag reason k s) ∧
    (∀ reels, s.slotInUse i = false → raw.inRange = true → reelsOf 0 raw.reels = .ok reels →
      (s.heldElsewhere i raw.ident = true → loadInto tag i raw s = refuse 8 tag .duplicate s) ∧
      (s.heldElsewhere i raw.ident = false → 128 < s.entriesOutside i + reels.length → loadInto tag i raw s = refuse 8 tag .noRoom s) ∧
      (s.heldElsewhere i raw.ident = false → s.entriesOutside i + reels.length ≤ 128 → loadInto tag i raw s =
        reply 8 tag (.composition i.val (compositionOf raw.ident raw.title reels).feature
          (compositionOf raw.ident raw.title reels).span (s.entriesOutside i + reels.length)
          ((s.comps[i].comp).map Composition.ident))
          (installComposition i (compositionOf raw.ident raw.title reels) s))) := by
  refine ⟨fun h => ?_, fun h hr => ?_, fun reason k h hr he => ?_, fun reels h hr he => ⟨fun hd => ?_, fun hd hn => ?_, fun hd hn => ?_⟩⟩
  · simp only [loadInto, h, if_true]
  · simp only [loadInto, h, hr, Bool.false_eq_true, if_false, if_true]
  · simp only [loadInto, h, hr, he, Bool.false_eq_true, Bool.true_eq_false, if_false]
  · simp only [loadInto, h, hr, he, hd, Bool.false_eq_true, Bool.true_eq_false, if_false, if_true]
  · have hn' : Config.reelEntries < s.entriesOutside i + reels.length := hn
    simp only [loadInto, h, hr, he, hd, Bool.false_eq_true, Bool.true_eq_false, if_false, if_pos hn']
  · have hn' : ¬ Config.reelEntries < s.entriesOutside i + reels.length := Nat.not_lt.mpr hn
    simp only [loadInto, h, hr, he, hd, Bool.false_eq_true, Bool.true_eq_false, if_false, if_neg hn']

theorem isFeature_eq : Reel.isFeature = fun r : Reel => decide (r.kind = .feature) := rfl

/-- The class and the feature span of a composition (section 4.2). -/
theorem compositionOf_derived (ident : Nat) (title : List Byte) (reels : List Reel) :
    ((compositionOf ident title reels).feature = true ↔ ∃ r ∈ reels, r.kind = .feature) ∧
    (compositionOf ident title reels).span =
      ((reels.filter (fun r => decide (r.kind = .feature))).map (fun r => r.dur - r.entry)).sum := by
  constructor
  · simp [compositionOf, isFeature_eq]
  · rw [List.sum_eq_foldl]; rfl

/-- Settles O28: the tests in their order, and the composition that is installed. -/
theorem loadCompositionInstalls : Obligations.LoadCompositionInstalls := by
  refine ⟨fun tag args s hs => ⟨fun hnone => ?_, fun slot rest htake => ⟨fun hslot => ?_, fun hslot hraw => ?_,
    fun i raw hslot hraw => ?_⟩⟩, fun ident title reels => ?_⟩
  · refine (next_manage hs 8 tag _).trans ?_
    simp only [hnone]
  · refine (next_manage hs 8 tag _).trans ?_
    simp only [htake, slotIndex_of_gt hslot]
  · have hindex : slotIndex slot = some ⟨slot, by omega⟩ := slotIndex_val ⟨slot, by omega⟩
    refine (next_manage hs 8 tag _).trans ?_
    simp only [htake, hindex, hraw]
  · have hload : exec (.loadComposition tag args) s = .next (loadInto tag i raw (acceptCommand s)) := by
      refine (next_manage hs 8 tag _).trans ?_
      simp only [htake, hslot, slotIndex_val, hraw]
    obtain ⟨hbusy, hrange, hreel, hrest⟩ := loadInto_cases tag i raw (acceptCommand s)
    rw [acceptCommand_slotInUse] at hbusy hrange
    simp only [acceptCommand_slotInUse, acceptCommand_heldElsewhere, acceptCommand_entriesOutside, acceptCommand_comps] at hreel hrest
    rw [hload]
    refine ⟨fun h => by rw [hbusy h], fun h hr => by rw [hrange h hr], fun reason k h hr he => by rw [hreel reason k h hr he],
      fun reels h hr he => ?_⟩
    obtain ⟨hdup, hfull, hok⟩ := hrest reels h hr he
    refine ⟨fun hd => by rw [hdup hd], fun hd hn => by rw [hfull hd hn], fun hd hn => ?_⟩
    simp only [hok hd hn, installComposition, acceptCommand_comps]
  · obtain ⟨hfeature, hspan⟩ := compositionOf_derived ident title reels
    exact ⟨rfl, rfl, rfl, hfeature, hspan⟩

end Sys2Proof.Machine

/-! PROOF. The Management Unit, continued: routings, action tables, event masks, allowances, exported marks and schedule entries. -/

namespace Sys2Proof.Machine

/-! ## Tables -/

theorem hasRepeat_eq_true_iff {α : Type} {key : α → Nat} {l : List α} : hasRepeat key l = true ↔ ¬ (l.map key).Nodup := by
  simp [hasRepeat]

theorem length_allOf {α β : Type} {f : α → Option β} : ∀ {l : List α} {m : List β}, allOf f l = some m → m.length = l.length
  | [], _, h => by cases h; rfl
  | a :: as, m, h => by
    obtain ⟨b, -, hrest⟩ := Option.bind_eq_some_iff.mp h
    obtain ⟨bs, hbs, hm⟩ := Option.bind_eq_some_iff.mp hrest
    cases hm
    rw [List.length_cons, List.length_cons, length_allOf hbs]

/-- LOAD_ROUTING that passes its tests, and each way to fail them (R97). -/
theorem exec_loadRouting {s : State} (hs : s.serves = true) (tag map : Nat) (routes : List RouteArgs) :
    (∀ (h : map < 8) l, allOf routeOf routes = some l → routes.length ≤ 64 → (l.map (fun x => x.1.val * 16 + x.2.1)).Nodup →
      exec (.loadRouting tag map routes) s = .next (reply 10 tag (.routing map (routedPairs l).length)
        ((acceptCommand s).mapSound (fun d => { d with maps := d.maps.set map (routedPairs l) })))) ∧
    (7 < map ∨ allOf routeOf routes = none ∨ 64 < routes.length ∨
        (∃ l, allOf routeOf routes = some l ∧ ¬ (l.map (fun x => x.1.val * 16 + x.2.1)).Nodup) →
      exec (.loadRouting tag map routes) s = .next (refuse 10 tag .badArgument (acceptCommand s))) := by
  refine ⟨fun hmap l hall hlen hnodup => (next_manage hs _ _ _).trans ?_, fun h => (next_manage hs _ _ _).trans ?_⟩
  · have hpass : ¬ (64 < routes.length ∨
        hasRepeat (fun x : Fin 4 × Nat × Option Nat => x.1.val * 16 + x.2.1) l = true) := by
      rw [hasRepeat_eq_true_iff]
      exact fun h => h.elim (fun h => by omega) (fun h => h hnodup)
    simp only [hall, dif_pos hmap, if_neg hpass]
  · cases hall : allOf routeOf routes with
    | none => rfl
    | some l =>
      dsimp only
      split
      · next hmap =>
        refine congrArg Host.Outcome.next (if_pos ?_)
        obtain h | h | h | ⟨m, hm, h⟩ := h
        · omega
        · rw [hall] at h; cases h
        · exact .inl h
        · rw [hall] at hm
          cases hm
          exact .inr (hasRepeat_eq_true_iff.mpr h)
      · rfl

/-- The table written from an index on holds the entries there, and what it held elsewhere (R150). -/
theorem writeEntries_getElem (table : Vector ActionEntry 64) : ∀ (es : List ActionEntry) (i j : Nat) (hj : j < 64),
    (writeEntries table i es)[j] = if j < i then table[j] else (es[j - i]?).getD table[j] := by
  intro es
  induction es generalizing table with
  | nil => intro i j hj; simp [writeEntries]
  | cons e es ih =>
    intro i j hj
    rw [writeEntries, ih]
    simp only [Vector.getElem_setIfInBounds]
    by_cases hlt : j < i
    · simp [hlt, Nat.lt_succ_of_lt hlt, Nat.ne_of_gt hlt]
    · by_cases heq : j = i
      · subst heq; simp
      · have hsub : j - i = (j - (i + 1)) + 1 := by omega
        have hni : i ≠ j := fun e => heq e.symm
        have hnlt : ¬ j < i + 1 := by omega
        simp [hlt, hnlt, hni, hsub]

theorem filterMap_getElem?_of_isSome {α β : Type} {f : α → Option β} :
    ∀ {l : List α}, (∀ a ∈ l, (f a).isSome = true) → ∀ n : Nat, (l.filterMap f)[n]? = (l[n]?).bind f
  | [], _, n => by simp
  | a :: as, h, n => by
    obtain ⟨b, hb⟩ := Option.isSome_iff_exists.mp (h a List.mem_cons_self)
    rw [List.filterMap_cons_some hb]
    cases n with
    | zero => simp [hb]
    | succ n => simpa using filterMap_getElem?_of_isSome (fun x hx => h x (List.mem_cons_of_mem a hx)) n

theorem firstBad_eq_none {entries : List ActionArgs} (h : ∀ a ∈ entries, (entryOf a).isSome = true) : firstBad entries = none := by
  rw [firstBad, List.findIdx?_eq_none_iff]
  intro a ha
  obtain ⟨e, he⟩ := Option.isSome_iff_exists.mp (h a ha)
  rw [he]; rfl

theorem firstBad_append {before after : List ActionArgs} {bad : ActionArgs} (h : ∀ a ∈ before, (entryOf a).isSome = true)
    (hbad : entryOf bad = none) : firstBad (before ++ bad :: after) = some before.length := by
  have hnone : before.findIdx? (fun a => (entryOf a).isNone) = none := firstBad_eq_none h
  simp [firstBad, List.findIdx?_append, hnone, List.findIdx?_cons, hbad]

/-- One setting of SET_EVENT_MASK changes the flags of its kind alone (R149). -/
theorem setMask_events (s : State) (a : MaskArgs) (k : Nat) (hk : k < 26) :
    (setMask s a).events[k] =
      if a.kind = k then { s.events[k] with onAssert := a.onAssert, onDeassert := a.onDeassert } else s.events[k] := by
  unfold setMask
  by_cases h : a.kind < 26
  · by_cases hak : a.kind = k
    · subst hak; simp [h]
    · simp [h, hak]
  · have hak : a.kind ≠ k := by omega
    simp [h, hak]

theorem foldl_setMask_eq (l : List MaskArgs) : ∀ s : State, l.foldl setMask s = { s with events := (l.foldl setMask s).events } := by
  induction l with
  | nil => exact fun _ => rfl
  | cons a l ih => exact fun s => (ih (setMask s a)).trans rfl

theorem foldl_setMask_of_not_mem (l : List MaskArgs) (k : Nat) (hk : k < 26) : ∀ s : State, (∀ a ∈ l, a.kind ≠ k) →
    (l.foldl setMask s).events[k] = s.events[k] := by
  induction l with
  | nil => exact fun _ _ => rfl
  | cons a l ih =>
    intro s h
    rw [List.foldl_cons, ih _ (fun b hb => h b (List.mem_cons_of_mem a hb)), setMask_events, if_neg (h a List.mem_cons_self)]

theorem foldl_setMask_of_mem (l : List MaskArgs) : ∀ s : State, (l.map MaskArgs.kind).Nodup → ∀ a ∈ l, ∀ h : a.kind < 26,
    (l.foldl setMask s).events[a.kind] = { s.events[a.kind] with onAssert := a.onAssert, onDeassert := a.onDeassert } := by
  induction l with
  | nil => intro _ _ a ha; cases ha
  | cons b l ih =>
    intro s hnodup a ha h
    obtain ⟨hb, hnodup'⟩ := List.nodup_cons.mp hnodup
    have hne : ∀ c ∈ l, b.kind ≠ c.kind := fun c hc e => hb (e ▸ List.mem_map_of_mem hc)
    rw [List.foldl_cons]
    obtain rfl | ha' := List.mem_cons.mp ha
    · rw [foldl_setMask_of_not_mem l _ h _ (fun c hc e => hne c hc e.symm), setMask_events, if_pos rfl]
    · rw [ih _ hnodup' a ha' h, setMask_events, if_neg (hne a ha')]

/-- SET_EVENT_MASK has at most one setting for each of the 26 kinds. -/
theorem length_le_of_kinds {settings : List MaskArgs} (hk : ∀ a ∈ settings, a.kind ≤ 25)
    (hnodup : (settings.map MaskArgs.kind).Nodup) : settings.length ≤ 26 := by
  have hsub : settings.map MaskArgs.kind ⊆ List.range 26 := by
    intro n hn
    obtain ⟨a, ha, rfl⟩ := List.mem_map.mp hn
    exact List.mem_range.mpr (Nat.lt_succ_of_le (hk a ha))
  simpa using hnodup.length_le_of_subset hsub

theorem badMask_iff {settings : List MaskArgs} :
    (settings.isEmpty = true ∨ 26 < settings.length ∨ settings.any (fun a => decide (25 < a.kind)) = true ∨
      hasRepeat MaskArgs.kind settings = true) ↔
    settings = [] ∨ (∃ a ∈ settings, 25 < a.kind) ∨ ¬ (settings.map MaskArgs.kind).Nodup := by
  rw [hasRepeat_eq_true_iff]
  simp only [List.isEmpty_iff, List.any_eq_true, decide_eq_true_eq]
  refine ⟨?_, fun h => h.imp id .inr⟩
  rintro (h | h | h | h)
  · exact .inl h
  · by_cases hk : ∃ a ∈ settings, 25 < a.kind
    · exact .inr (.inl hk)
    · refine .inr (.inr fun hnodup => ?_)
      have := length_le_of_kinds (fun a ha => Nat.not_lt.mp fun hlt => hk ⟨a, ha, hlt⟩) hnodup
      omega
  · exact .inr (.inl h)
  · exact .inr (.inr h)

/-- Settles O30: the three commands, each by the table that it writes. -/
theorem tableCommandsInstall : Obligations.TableCommandsInstall := by
  refine ⟨fun tag map routes l s hs hall hlen hnodup => ?_, fun tag map routes s hs h => ?_, fun tag first entries s hs => ⟨fun h => ?_,
    fun before bad after hentries hlen hok hbad => ?_⟩, fun tag first entries s hs hne hlen hok => ?_,
    fun tag settings s hs h => ?_, fun tag settings s hs hne hk hnodup => ?_⟩
  · rw [(exec_loadRouting hs tag map.val routes).1 map.isLt l hall hlen hnodup, State.mapSound, acceptCommand_sound]
  · refine (exec_loadRouting hs tag map routes).2 (h.imp id (.imp id (.imp id ?_)))
    rintro ⟨l, hl, hdup⟩
    refine ⟨l, hl, fun hnodup => hdup ?_⟩
    refine List.Pairwise.of_map (S := (· ≠ ·)) (fun x : Fin 4 × Nat => x.1.val * 16 + x.2)
      (fun _ _ hne heq => hne (congrArg (fun x : Fin 4 × Nat => x.1.val * 16 + x.2) heq)) ?_
    rwa [List.map_map]
  · refine (next_manage hs _ _ _).trans (congrArg _ (if_pos ?_))
    obtain rfl | h := h
    · exact .inr (.inl rfl)
    · exact .inr (.inr h)
  · refine (next_manage hs _ _ _).trans ?_
    have hpass : ¬ (63 < first ∨ entries.isEmpty = true ∨ 64 < first + entries.length) := by
      subst hentries
      simp only [List.length_append, List.length_cons, List.isEmpty_iff] at hlen ⊢
      simp
      omega
    have hfirst : firstBad entries = some before.length := hentries ▸ firstBad_append hok hbad
    simp only [if_neg hpass, hfirst]
  · have hpass : ¬ (63 < first ∨ entries.isEmpty = true ∨ 64 < first + entries.length) := by
      have hpos := List.length_pos_iff.mpr hne
      simp only [List.isEmpty_iff, hne, false_or]
      omega
    refine ⟨{ acceptCommand s with actions := { (acceptCommand s).actions with
        table := writeEntries (acceptCommand s).actions.table first (entries.filterMap entryOf) } },
      (next_manage hs _ _ _).trans ?_, rfl, fun j hj => ?_⟩
    · simp only [if_neg hpass, firstBad_eq_none hok]
    · rw [writeEntries_getElem, filterMap_getElem?_of_isSome hok]
      simp only [acceptCommand_table]
  · refine (next_manage hs _ _ _).trans (congrArg _ (if_pos (badMask_iff.mpr h)))
  · have hpass := mt badMask_iff.mp (show ¬ (settings = [] ∨ (∃ a ∈ settings, 25 < a.kind) ∨
        ¬ (settings.map MaskArgs.kind).Nodup) by
      rintro (h | ⟨a, ha, h⟩ | h)
      · exact hne h
      · exact absurd (hk a ha) (by omega)
      · exact h hnodup)
    exact ⟨_, (next_manage hs _ _ _).trans (congrArg _ (if_neg hpass)), foldl_setMask_eq settings _,
      fun a ha h => foldl_setMask_of_mem settings _ hnodup a ha h, fun k hk' h => foldl_setMask_of_not_mem settings k hk' _ h⟩

/-! ## Allowances -/

/-- The Showing Counter may be replaced after reporting as before it. -/
theorem reportsFrom.setCounting {x u : State} (h : reportsFrom x u) (c : Counting) :
    reportsFrom { x with counting := c } { u with counting := c } := by
  obtain ⟨q, ev, aq, al, at_, dropped, rfl⟩ := h.exists_eq
  rfl

theorem deriveState_congr {s t : State} (h : t.clock = s.clock) (r : Option Allowance) : deriveState t r = deriveState s r := by
  unfold deriveState State.nowSecs
  rw [h]

/-- An allowance place that has been changed and evaluated, with the warnings (R128 to R130). -/
def changedPlace (i : Fin 32) (p : Place) (s : State) : State := evaluateChanged i (s.setPlace i p)

theorem setPlace_place (s : State) (i j : Fin 32) (p : Place) : (s.setPlace i p).place j = if j = i then p else s.place j := by
  by_cases h : j = i
  · subst h; simp [State.place, State.setPlace]
  · have hval : i.val ≠ j.val := fun e => h (Fin.ext e.symm)
    simp [State.place, State.setPlace, h, hval]

theorem changedPlace_reports (i : Fin 32) (p : Place) (s : State) :
    reportsFrom (s.setPlace i { p with state := deriveState s p.record }) (changedPlace i p s) := by
  have hplace : evaluatePlace i (s.setPlace i p) = s.setPlace i { p with state := deriveState s p.record } := by
    have hclock : deriveState (s.setPlace i p) p.record = deriveState s p.record := deriveState_congr rfl _
    simp only [evaluatePlace, setPlace_place, if_true, hclock]
    simp [State.setPlace]
  rw [changedPlace, evaluateChanged, hplace]
  exact reportsFrom_trans (setLevel_reports .allowanceLow _ _) (setLevel_reports .allowanceExpiring _ _)

theorem changedPlace_place (i j : Fin 32) (p : Place) (s : State) : (changedPlace i p s).place j =
    if j = i then { p with state := deriveState s p.record } else s.place j := by
  rw [State.place, (changedPlace_reports i p s).counting_eq]
  exact setPlace_place s i j _

theorem queuePlace_eq (i : Fin 32) (p : Place) (owed : State → Owed) (s : State) : queuePlace i p owed s =
    enqueueStore (allowanceEntry i (owed (changedPlace i p s)) (changedPlace i p s)) (changedPlace i p s) := rfl

/-- An allowance command that passes its tests: the changed place, the entry at the tail of the store queue, the reply owed, and nothing
else (R129, R130, R159). -/
theorem queuePlace_effect (i : Fin 32) (p : Place) (owed : State → Owed) (s : State) :
    ∃ e, (queuePlace i p owed (acceptCommand s)).counting.queue = s.counting.queue ++ [e] ∧ e.kind = .allowance ∧
      e.place = some (i, { record := p.record, serial := p.serial }) ∧ e.record = none ∧
      e.owed = some (owed (changedPlace i p (acceptCommand s))) ∧
      (queuePlace i p owed (acceptCommand s)).place i = { p with state := deriveState s p.record } ∧
      (∀ j, j ≠ i → (queuePlace i p owed (acceptCommand s)).place j = s.place j) ∧
      reportsFrom { s with schedule := { s.schedule with heartbeat := 0 }, counting := { s.counting with
        places := (queuePlace i p owed (acceptCommand s)).counting.places,
        queue := (queuePlace i p owed (acceptCommand s)).counting.queue,
        header := (queuePlace i p owed (acceptCommand s)).counting.header } } (queuePlace i p owed (acceptCommand s)) := by
  have hfrom := changedPlace_reports i p (acceptCommand s)
  have hplace := changedPlace_place i (p := p) (s := acceptCommand s)
  have hcounting : (changedPlace i p (acceptCommand s)).counting =
      { s.counting with places := (changedPlace i p (acceptCommand s)).counting.places } := by
    rw [hfrom.counting_eq, State.setPlace, acceptCommand_counting]
  have hclock : deriveState (acceptCommand s) p.record = deriveState s p.record := deriveState_congr (acceptCommand_clock s) _
  rw [queuePlace_eq]
  generalize changedPlace i p (acceptCommand s) = u at *
  refine ⟨allowanceEntry i (owed u) u, ?_, rfl, ?_, rfl, rfl, ?_, fun j hj => ?_, ?_⟩
  · rw [enqueueStore, hcounting]
  · rw [allowanceEntry, hplace, if_pos rfl]; rfl
  · rw [State.place, enqueueStore]
    exact (hplace i).trans (by rw [if_pos rfl, hclock])
  · rw [State.place, enqueueStore]
    exact (hplace j).trans (by rw [if_neg hj, acceptCommand_place])
  · have hframe := ((acceptCommand_reports s).setCounting (u.counting)).setCounting (enqueueStore (allowanceEntry i (owed u) u) u).counting
    have hall := reportsFrom_trans hframe (hfrom.setCounting (enqueueStore (allowanceEntry i (owed u) u) u).counting)
    have hc : (enqueueStore (allowanceEntry i (owed u) u) u).counting = { s.counting with
        places := (enqueueStore (allowanceEntry i (owed u) u) u).counting.places,
        queue := (enqueueStore (allowanceEntry i (owed u) u) u).counting.queue,
        header := (enqueueStore (allowanceEntry i (owed u) u) u).counting.header } := by
      simp only [enqueueStore]
      rw [hcounting]
    rw [← hc]
    exact hall

theorem placeIndex_val (i : Fin 32) : placeIndex i.val = some i := by simp [placeIndex]

theorem placeIndex_of_le {n : Nat} (h : 32 ≤ n) : placeIndex n = none := by simp [placeIndex, Nat.not_lt.mpr h]

/-- Settles O31: each command's tests in their order, and the one effect of a passed command. -/
theorem allowanceCommandsQueueWrite : Obligations.AllowanceCommandsQueueWrite := by
  intro tag s hs
  refine ⟨fun n hn => ⟨(next_manage hs _ _ _).trans ?_, (next_manage hs _ _ _).trans ?_⟩, fun a h => (next_manage hs _ _ _).trans ?_,
    fun i h => ⟨(next_manage hs _ _ _).trans ?_, (next_manage hs _ _ _).trans ?_⟩, fun i a hi hr h => (next_manage hs _ _ _).trans ?_,
    fun i a ha hr => (next_manage hs _ _ _).trans ?_, fun i a ha hr h => (next_manage hs _ _ _).trans ?_,
    fun i ha h => (next_manage hs _ _ _).trans ?_, fun i a hres hi hr hb => ?_, fun i a hres ha hr => ?_, fun i hres ha hb => ?_⟩
  · simp only [placeIndex_of_le hn]
  · simp only [placeIndex_of_le hn]
  · cases hindex : placeIndex a.index with
    | none => rfl
    | some i =>
      have hlt : ¬ 32 ≤ a.index := fun hle => by rw [placeIndex_of_le hle] at hindex; cases hindex
      simp only [h.resolve_left hlt, if_true]
  · simp only [placeIndex_val, acceptCommand_place, h]
  · simp only [placeIndex_val, acceptCommand_place, h, if_true]
  · simp only [hi, placeIndex_val, hr, Bool.true_eq_false, if_false, acceptCommand_counting, acceptCommand_reserves, if_pos h]
  · simp only [placeIndex_val, acceptCommand_place, ha, hr, if_true]
  · simp only [placeIndex_val, acceptCommand_place, ha, hr, Bool.false_eq_true, if_false, acceptCommand_reserves, h, if_true]
  · simp only [placeIndex_val, acceptCommand_place, if_neg ha, acceptCommand_counting, acceptCommand_reserves, if_pos h]
  · have hfree : ¬ (s.counting.bound = some i ∨ s.reserves i = false) := by simp [hb, hres]
    obtain ⟨e, hqueue, hkind, hplace, hrecord, howed, hi', hj', hfrom⟩ := queuePlace_effect i
      { record := some (allowanceOf a), serial := nextSerial (s.place i).serial, state := .empty }
      (fun s1 => { code := 13, tag, results := .allowanceLoaded i.val (s1.place i).state (s1.place i).serial none }) s
    refine ⟨_, e, (next_manage hs _ _ _).trans ?_, hqueue, hkind, hplace, hrecord, ?_, hi', hj', hfrom⟩
    · simp only [hi, placeIndex_val, hr, Bool.true_eq_false, if_false, acceptCommand_counting, acceptCommand_reserves, if_neg hfree,
        acceptCommand_place]
    · rw [howed, changedPlace_place, if_pos rfl, deriveState_congr (acceptCommand_clock s)]
  · obtain ⟨e, hqueue, hkind, hplace, hrecord, howed, hi', hj', hfrom⟩ := queuePlace_effect i
      { s.place i with record := some { a with revoked := true } }
      (fun _ => { code := 14, tag, results := .allowanceWas i.val (s.place i) none }) s
    refine ⟨_, e, (next_manage hs _ _ _).trans ?_, hqueue, hkind, hplace, hrecord, howed, hi', hj', hfrom⟩
    simp only [placeIndex_val, acceptCommand_place, ha, hr, Bool.false_eq_true, if_false, acceptCommand_reserves, hres, Bool.true_eq_false]
  · have hfree : ¬ (s.counting.bound = some i ∨ s.reserves i = false) := by simp [hb, hres]
    obtain ⟨e, hqueue, hkind, hplace, hrecord, howed, hi', hj', hfrom⟩ := queuePlace_effect i { s.place i with record := none }
      (fun _ => { code := 15, tag, results := .allowanceWas i.val (s.place i) none }) s
    refine ⟨_, e, (next_manage hs _ _ _).trans ?_, hqueue, hkind, hplace, hrecord, howed, hi', hj', hfrom⟩
    simp only [placeIndex_val, acceptCommand_place, if_neg ha, acceptCommand_counting, acceptCommand_reserves, if_neg hfree]

/-! ## Exported marks -/

theorem marked_isEmpty_iff {n : Nat} {log : List LogRecord} :
    ((log.filter (LogRecord.marks n)).map LogRecord.number).isEmpty = true ↔ ∀ r ∈ log, r.marks n = false := by
  rw [List.isEmpty_iff, List.map_eq_nil_iff, List.filter_eq_nil_iff]
  simp

/-- The store entry of MARK_EXPORTED (R139). -/
def markEntry (tag n : Nat) (log : List LogRecord) : StoreEntry :=
  { kind := .marking, record := none, place := none, marks := (log.filter (LogRecord.marks n)).map LogRecord.number,
    owed := some
      { code := 17, tag := tag, results := .exported ((log.filter (LogRecord.marks n)).map LogRecord.number).length none } }

/-- The log with its records up to a number marked (R139). -/
def markLog (n : Nat) (log : List LogRecord) : List LogRecord := log.map (fun r => if r.marks n then { r with exported := true } else r)

/-- The part whose log has been marked, with the log events evaluated. -/
def markedState (n : Nat) (s : State) : State :=
  evaluateLog { s with counting := { s.counting with log := markLog n s.counting.log } }

theorem markedState_accepted (n : Nat) (s : State) :
    reportsFrom { s with
      schedule := { s.schedule with heartbeat := 0 }, counting := { s.counting with log := markLog n s.counting.log } }
      (markedState n (acceptCommand s)) := by
  have h := (acceptCommand_reports s).setCounting { s.counting with log := markLog n s.counting.log }
  have h' := evaluateLog_reports { acceptCommand s with counting := { s.counting with log := markLog n s.counting.log } }
  rw [markedState, acceptCommand_counting]
  exact reportsFrom_trans h h'

/-- Settles O32: the tests in their order, and the entry that covers the marked records. -/
theorem markExportedMarks : Obligations.MarkExportedMarks := by
  intro tag n s hs
  have hsome : (∃ r ∈ s.counting.log, r.marks n = true) →
      ¬ ((s.counting.log.filter (LogRecord.marks n)).map LogRecord.number).isEmpty = true := fun ⟨r, hr, hm⟩ e =>
    Bool.false_ne_true ((marked_isEmpty_iff.mp e r hr).symm.trans hm)
  refine ⟨fun h => (next_manage hs _ _ _).trans ?_, fun h hmark hres => (next_manage hs _ _ _).trans ?_,
    fun h hnone => (next_manage hs _ _ _).trans ?_, fun h hmark hres => ?_⟩
  · simp only [h, if_true]
  · simp only [if_neg h, acceptCommand_counting, if_neg (hsome hmark), acceptCommand_reservesExport, hres, if_true]
  · simp only [if_neg h, acceptCommand_counting, if_pos (marked_isEmpty_iff.mpr hnone)]
  · have hfrom := markedState_accepted n s
    have hexec : exec (.markExported tag n) s =
        .next (enqueueStore (markEntry tag n s.counting.log) (markedState n (acceptCommand s))) := by
      refine (next_manage hs _ _ _).trans ?_
      simp only [if_neg h, acceptCommand_counting, if_neg (hsome hmark), acceptCommand_reservesExport, hres, Bool.true_eq_false,
        if_false, markedState]
      rfl
    generalize markedState n (acceptCommand s) = u at hfrom hexec
    have hcounting : u.counting = { s.counting with log := markLog n s.counting.log } := hfrom.counting_eq
    refine ⟨_, markEntry tag n s.counting.log, hexec, ?_, rfl, rfl, ?_, ?_, ?_⟩
    · rw [enqueueStore, hcounting]
    · rw [enqueueStore, hcounting]; rfl
    · rw [markEntry, List.length_map]
    · have hc : (enqueueStore (markEntry tag n s.counting.log) u).counting = { s.counting with
          log := (enqueueStore (markEntry tag n s.counting.log) u).counting.log,
          queue := (enqueueStore (markEntry tag n s.counting.log) u).counting.queue,
          header := (enqueueStore (markEntry tag n s.counting.log) u).counting.header } := by
        simp only [enqueueStore]
        rw [hcounting]
      rw [← hc]
      exact hfrom.setCounting _

/-! ## Schedule entries -/

theorem findIdx_append_of_forall {α : Type} {p : α → Bool} {l m : List α} {a : α} (h : ∀ x ∈ l, p x = false) (ha : p a = true) :
    (l ++ a :: m).findIdx p = l.length := by
  induction l with
  | nil => simp [List.findIdx_cons, ha]
  | cons b l ih =>
    rw [List.cons_append, List.findIdx_cons, h b List.mem_cons_self, ih (fun x hx => h x (List.mem_cons_of_mem b hx))]
    rfl

/-- An entry stands in the queue behind those with an equal start and before the later ones, in start order (R62). -/
theorem insertEntry_split (e : SchedEntry) {q : List SchedEntry} (h : inStartOrder q) :
    ∃ before after, q = before ++ after ∧ insertEntry e q = before ++ e :: after ∧ (∀ x ∈ before, entrySecs x ≤ entrySecs e) ∧
      (∀ x ∈ after, entrySecs e < entrySecs x) ∧ inStartOrder (before ++ e :: after) := by
  obtain ⟨before, after, hq, hinsert, hbefore, hafter⟩ :=
    insertBy_split (fun a b : SchedEntry => decide (entrySecs a < entrySecs b)) e q
  subst hq
  obtain ⟨hb, ha, hcross⟩ := List.pairwise_append.mp h
  have hle : ∀ x ∈ before, entrySecs x ≤ entrySecs e := fun x hx => Nat.not_lt.mp (of_decide_eq_false (hbefore x hx))
  have hlt : ∀ x ∈ after, entrySecs e < entrySecs x := by
    cases after with
    | nil => intro x hx; cases hx
    | cons y after =>
      have hy : entrySecs e < entrySecs y := of_decide_eq_true (hafter y (by simp))
      intro x hx
      obtain rfl | hx := List.mem_cons.mp hx
      · exact hy
      · exact Nat.lt_of_lt_of_le hy ((List.pairwise_cons.mp ha).1 x hx)
  refine ⟨before, after, rfl, hinsert, hle, hlt, List.pairwise_append.mpr
    ⟨hb, List.pairwise_cons.mpr ⟨fun x hx => Nat.le_of_lt (hlt x hx), ha⟩, ?_⟩⟩
  intro x hx y hy
  obtain rfl | hy := List.mem_cons.mp hy
  · exact hle x hx
  · exact hcross x hx y hy

/-- Settles O33: the tests in their order, and the place of the entry. -/
theorem scheduleAddKeepsOrder : Obligations.ScheduleAddKeepsOrder := by
  intro tag e s hs
  have hlate : (acceptCommand s).entryLate e = decide (entrySecs e + s.mgmt.limits.lateMinutes * 60 < s.nowSecs) := by
    rw [State.entryLate, acceptCommand_mgmt, acceptCommand_nowSecs]
  refine ⟨fun h => (next_manage hs _ _ _).trans ?_, fun h hclock => (next_manage hs _ _ _).trans ?_, fun h hclock =>
    ⟨fun hdup => (next_manage hs _ _ _).trans ?_, fun hfresh => ⟨fun hl => (next_manage hs _ _ _).trans ?_,
      fun hl hfull => (next_manage hs _ _ _).trans ?_, fun hl hroom horder => ?_⟩⟩⟩
  · simp only [h, if_true]
  · simp only [h, Bool.true_eq_false, if_false, acceptCommand_clock, hclock, if_true]
  · have hany : s.schedule.queue.any (fun x => decide (x.ident = e.ident)) = true := by simpa using hdup
    simp only [h, Bool.true_eq_false, if_false, acceptCommand_clock, hclock, acceptCommand_schedule, hany, if_true]
  · have hnone : s.schedule.queue.any (fun x => decide (x.ident = e.ident)) = false := by simpa using hfresh
    simp only [h, Bool.true_eq_false, if_false, acceptCommand_clock, hclock, acceptCommand_schedule, hnone, Bool.false_eq_true, hlate, hl,
      decide_true, if_true]
  · have hnone : s.schedule.queue.any (fun x => decide (x.ident = e.ident)) = false := by simpa using hfresh
    have hfull' : Config.schedulePlaces ≤ s.schedule.queue.length := hfull
    simp only [h, Bool.true_eq_false, if_false, acceptCommand_clock, hclock, acceptCommand_schedule, hnone, Bool.false_eq_true, hlate,
      Nat.not_lt.mpr hl, decide_false, if_pos hfull']
  · have hnone : s.schedule.queue.any (fun x => decide (x.ident = e.ident)) = false := by simpa using hfresh
    have hroom' : ¬ Config.schedulePlaces ≤ s.schedule.queue.length := Nat.not_le.mpr hroom
    obtain ⟨before, after, hq, hinsert, hle, hlt, hsorted⟩ := insertEntry_split e horder
    have hposition : entryPosition e.ident (before ++ e :: after) = before.length :=
      findIdx_append_of_forall (fun x hx => decide_eq_false (hfresh x (hq ▸ List.mem_append_left _ hx))) (decide_eq_true rfl)
    have hlength : (before ++ e :: after).length = s.schedule.queue.length + 1 := by
      rw [hq, List.length_append, List.length_append, List.length_cons]; rfl
    refine ⟨before, after, hq, hle, hlt, hsorted, (next_manage hs _ _ _).trans ?_⟩
    simp only [h, Bool.true_eq_false, if_false, acceptCommand_clock, hclock, acceptCommand_schedule, hnone, Bool.false_eq_true, hlate,
      Nat.not_lt.mpr hl, decide_false, if_neg hroom', hinsert, hposition, hlength, setSchedule_acceptCommand]

end Sys2Proof.Machine

/-! PROOF. The Event Table and the Action Unit: records, reports, triggers and the two message lines (R124, R125, R146 to R148, R152 to
R157). -/

namespace Sys2Proof.Machine

/-! ## Records -/

/-- A firing that finds ACTION_OVERFLOW asserted changes no record. -/
theorem event_fireMessages_of_overflow {s : State} (h : s.isAsserted .actionOverflow = true) (ms : List Message) (k : EventKind) :
    (fireMessages ms s).event k = s.event k := by
  have h' : (offerMessages ms s).1.isAsserted .actionOverflow = true := h
  simp only [fireMessages, h', or_true, if_true]
  rfl

theorem EventRec.raised_eq (r : EventRec) (level : Bool) (st : Stamp) :
    r.raised level st = { r with asserted := level, count := min 65535 (r.count + 1), last := some st } := rfl

/-- The record of an event that is asserted anew (R146). -/
theorem event_assertEvent_self {s : State} {k : EventKind} (h : s.isAsserted k = false) :
    (assertEvent k s).event k = (s.event k).raised true s.stamp := by
  have hrecord : (recordAssert k s).event k = (s.event k).raised true s.stamp := by rw [event_recordAssert, if_pos rfl]
  rw [assertEvent, if_neg (by simp [h])]
  by_cases ho : k = .actionOverflow
  · subst ho
    rw [fireTrigger, event_fireMessages_of_overflow (by rw [State.isAsserted, hrecord]; rfl), hrecord]
  · rw [event_fireTrigger _ _ _ ho, hrecord]

/-- The record of an event that is deasserted (R146). -/
theorem event_deassertEvent_self {s : State} {k : EventKind} (h : s.isAsserted k = true) (ho : k ≠ .actionOverflow) :
    (deassertEvent k s).event k = { s.event k with asserted := false, last := some s.stamp } := by
  rw [deassertEvent, if_pos h, event_fireTrigger _ _ _ ho, event_recordDeassert, if_pos rfl]

/-- The record of a momentary event that has occurred (R147). -/
theorem event_occur_self (s : State) {k : EventKind} (ho : k ≠ .actionOverflow) :
    (occur k s).event k = (s.event k).raised false s.stamp := by
  rw [occur, event_fireTrigger _ _ _ ho, event_recordOccurrence, if_pos rfl]

/-- The count of a momentary event rises with each occurrence (R147). -/
theorem occur_count (s : State) {k : EventKind} (ho : k ≠ .actionOverflow) :
    ((occur k s).event k).count = min 65535 ((s.event k).count + 1) := by
  rw [event_occur_self s ho, EventRec.raised_eq]

theorem assertEvent_of_asserted {s : State} {k : EventKind} (h : s.isAsserted k = true) : assertEvent k s = s := if_pos h

theorem deassertEvent_of_clear {s : State} {k : EventKind} (h : s.isAsserted k = false) : deassertEvent k s = s :=
  if_neg (by simp [h])

theorem isAsserted_congr {s t : State} (h : t.events = s.events) (k : EventKind) : t.isAsserted k = s.isAsserted k := by
  rw [State.isAsserted, State.event, h]; rfl

theorem event_congr {s t : State} (h : t.events = s.events) (k : EventKind) : t.event k = s.event k := by
  rw [State.event, h]; rfl

/-- A level event that follows its condition holds it afterwards (R146). -/
theorem isAsserted_setLevel (s : State) {k : EventKind} (ho : k ≠ .actionOverflow) (holds : Bool) :
    (setLevel k holds s).isAsserted k = holds := by
  cases holds
  · exact isAsserted_deassertEvent _ _ ho
  · exact isAsserted_assertEvent _ _

/-- A level event of another kind, other than ACTION_OVERFLOW, stands. -/
theorem event_setLevel_of_ne (s : State) {j k : EventKind} (h : j ≠ k) (ho : j ≠ .actionOverflow) (holds : Bool) :
    (setLevel k holds s).event j = s.event j := by
  cases holds
  · exact event_deassertEvent_of_ne _ h ho
  · exact event_assertEvent_of_ne _ h ho

/-! ## The action queue -/

/-- Messages that find room in the queue are all admitted (R155, R156). -/
theorem ActionUnit.offerAll_of_room : ∀ (ms : List Message) (a : ActionUnit), a.queue.length + ms.length ≤ 16 →
    (a.line = .idle → a.queue = []) →
    (a.offerAll ms).2 = 0 ∧
      ((a.offerAll ms).1.line, (a.offerAll ms).1.queue) = admitted (decide (a.line = .idle)) a.line a.queue ms
  | [], a, _, hidle => by
    refine ⟨rfl, ?_⟩
    unfold admitted
    by_cases h : a.line = .idle
    · simp [ActionUnit.offerAll, h, hidle h]
    · simp [ActionUnit.offerAll, h]
  | m :: ms, a, hroom, hidle => by
    have hfree : ¬ Config.actionPlaces ≤ a.queue.length := by
      simp only [Config.actionPlaces, List.length_cons] at *; omega
    by_cases h : a.line = .idle
    · have hoffer : a.offer m = ({ a with queue := [], line := .sending m, timer := 200 }, false) := by
        rw [ActionUnit.offer, if_neg hfree, h, hidle h]; rfl
      obtain ⟨hnone, hline⟩ := ActionUnit.offerAll_of_room ms { a with queue := [], line := .sending m, timer := 200 }
        (by simp only [List.length_cons, List.length_nil] at *; omega) (fun h' => by cases h')
      simp only [ActionUnit.offerAll, hoffer, hnone, hline]
      simp [admitted, h, hidle h]
    · have hoffer : a.offer m = ({ a with queue := a.queue ++ [m] }, false) := by
        rw [ActionUnit.offer, if_neg hfree]
        split
        · next hl _ => exact absurd hl h
        · rfl
      obtain ⟨hnone, hline⟩ := ActionUnit.offerAll_of_room ms { a with queue := a.queue ++ [m] }
        (by simp only [List.length_cons, List.length_append, List.length_nil] at *; omega) (fun h' => absurd h' h)
      simp only [ActionUnit.offerAll, hoffer, hnone, hline]
      simp [admitted, h]

/-- Messages that find the queue full are all dropped (R155). -/
theorem ActionUnit.offerAll_of_full : ∀ (ms : List Message) (a : ActionUnit), 16 ≤ a.queue.length →
    a.offerAll ms = (a, ms.length)
  | [], _, _ => rfl
  | m :: ms, a, hfull => by
    have hoffer : a.offer m = (a, true) := if_pos hfull
    simp only [ActionUnit.offerAll, hoffer, ActionUnit.offerAll_of_full ms a hfull]
    rfl

theorem bump32_eq (n count : Nat) : bump32 n count = min 4294967295 (count + n) := rfl

/-- A firing that finds room for its messages hands them to the line alone (R155). -/
theorem fireMessages_of_room {ms : List Message} {s : State} (hroom : s.actions.queue.length + ms.length ≤ 16)
    (hidle : s.actions.line = .idle → s.actions.queue = []) :
    ((fireMessages ms s).actions.line, (fireMessages ms s).actions.queue) =
      admitted (decide (s.actions.line = .idle)) s.actions.line s.actions.queue ms ∧
    (fireMessages ms s).link = s.link ∧ (fireMessages ms s).events = s.events := by
  obtain ⟨hnone, hline⟩ := ActionUnit.offerAll_of_room ms s.actions hroom hidle
  have hfire : fireMessages ms s = (offerMessages ms s).1 := by
    have hzero : (offerMessages ms s).2 = 0 := hnone
    simp only [fireMessages, hzero, true_or, if_true]
  rw [hfire]
  exact ⟨hline, rfl, rfl⟩

theorem offerMessages_of_full {ms : List Message} {s : State} (hfull : 16 ≤ s.actions.queue.length) :
    offerMessages ms s = ({ s with
      counters := { s.counters with actionsDropped := min 4294967295 (s.counters.actionsDropped + ms.length) } }, ms.length) := by
  simp only [offerMessages, ActionUnit.offerAll_of_full ms s.actions hfull, bump32_eq]

/-- A firing that finds the queue full drops its messages, and asserts ACTION_OVERFLOW (R155). -/
theorem fireMessages_of_full {ms : List Message} {s : State} (hfull : 16 ≤ s.actions.queue.length) (hms : ms ≠ []) :
    (fireMessages ms s).actions = s.actions ∧ (fireMessages ms s).isAsserted .actionOverflow = true ∧
    (fireMessages ms s).counters.actionsDropped = min 4294967295 (s.counters.actionsDropped + ms.length +
      (if s.isAsserted .actionOverflow then 0 else (s.actions.triggered (.event EventKind.actionOverflow.num true)).length)) := by
  have hlen : ms.length ≠ 0 := by simpa using hms
  generalize hdropped : ({ s with counters := { s.counters with
    actionsDropped := min 4294967295 (s.counters.actionsDropped + ms.length) } } : State) = s1
  have hoffer : offerMessages ms s = (s1, ms.length) := by rw [offerMessages_of_full hfull, hdropped]
  have hasserted : s1.isAsserted .actionOverflow = s.isAsserted .actionOverflow := by rw [← hdropped]; rfl
  have hactions : s1.actions = s.actions := by rw [← hdropped]
  have hcount : s1.counters.actionsDropped = min 4294967295 (s.counters.actionsDropped + ms.length) := by rw [← hdropped]
  simp only [fireMessages, hoffer, hlen, false_or, hasserted]
  cases ha : s.isAsserted .actionOverflow with
  | true => exact ⟨hactions, hasserted.trans ha, hcount.trans (by simp)⟩
  | false =>
    have hactions2 : (recordAssert .actionOverflow s1).actions = s.actions := by
      rw [← hactions, recordAssert, reportEvent]; split <;> rfl
    have hcounters2 : (recordAssert .actionOverflow s1).counters = s1.counters := by
      rw [recordAssert, reportEvent]; split <;> rfl
    simp only [Bool.false_eq_true, if_false]
    rw [offerMessages_of_full (by rw [hactions2]; exact hfull), hactions2, hcounters2, hcount]
    refine ⟨rfl, ?_, by simp only []; omega⟩
    change (recordAssert .actionOverflow s1).isAsserted .actionOverflow = true
    rw [State.isAsserted, event_recordAssert, if_pos rfl]; rfl

theorem fireMessages_table (ms : List Message) (s : State) : (fireMessages ms s).actions.table = s.actions.table := by
  rw [show fireMessages ms s = _ from fireMessages_reports ms s]

/-- Entry to a state changes the state and FRAME, and fires the triggers of the state (R104, R154). -/
theorem enterState_eq (st : ShowState) (s : State) : ∃ frame : CapChannel, enterState st s = fireTrigger (.state st)
    { s with timeline := { s.timeline with state := st }, sync := { s.sync with frame := frame } } := by
  unfold enterState retuneFrame
  split
  · exact ⟨s.sync.frame, rfl⟩
  · exact ⟨_, rfl⟩

/-- Settles O55: records from the record operations, messages from the action queue. -/
theorem eventRecordsFollow : Obligations.EventRecordsFollow := by
  refine ⟨fun k s => ⟨assertEvent_of_asserted, deassertEvent_of_clear, fun h => ⟨assertEvent_reports k s, event_assertEvent_self h⟩,
      fun h ho => ⟨deassertEvent_reports k s, event_deassertEvent_self h ho⟩,
      fun ho => ⟨occur_reports k s, event_occur_self s ho⟩, fun j hj ho => ⟨event_assertEvent_of_ne s hj ho,
      event_deassertEvent_of_ne s hj ho, event_occur_of_ne s hj ho⟩⟩,
    fun k s => ⟨fun h => ?_, fun h => ?_, ?_⟩, fun trigger s => ⟨?_, ?_⟩,
    fun st s => ?_, fun reached s => ⟨fun j h => ?_, fun hroom hidle => ?_⟩⟩
  · rw [assertEvent, if_neg (by simp [h]), recordAssert, reportEvent, event_setEvent, if_pos rfl]
    rfl
  · rw [deassertEvent, if_pos h, recordDeassert, reportEvent, event_setEvent, if_pos rfl]
  · rw [occur, recordOccurrence, reportEvent, event_setEvent, if_pos rfl]
    rfl
  · intro hroom hidle
    obtain ⟨hline, hlink, hevents⟩ := fireMessages_of_room hroom hidle
    exact ⟨hline, fireMessages_table _ s, hlink, hevents⟩
  · exact fireMessages_of_full
  · obtain ⟨frame, hframe⟩ := enterState_eq st s
    exact ⟨_, hframe, rfl⟩
  · refine (congrArg (fun v => v[j]) (fireMessages_table _ _)).trans ?_
    exact getElem_mapVec _ _ _ _
  · exact (fireMessages_of_room (s := { s with actions := { s.actions with
      table := mapVec (fun e => { e with fired := e.fired || e.ready reached }) s.actions.table } }) hroom hidle).1

/-! ## The message lines -/

/-- A running part serves an event of its own. -/
theorem next_running {s : State} (h : s.running = true) (f : State → State) :
    (.next (whenRunning f s) : Host.Outcome State Fault Refusal) = .next (f s) := by rw [whenRunning_of_running h]

/-- The deassertion of ACTION_OVERFLOW with an empty queue: its own messages reach the queue, and none is dropped (R155). -/
theorem deassert_actionOverflow_of_room {s : State} (h : s.isAsserted .actionOverflow = true) (hqueue : s.actions.queue = [])
    (hline : s.actions.line ≠ .idle) (hroom : (s.actions.triggered (.event EventKind.actionOverflow.num false)).length ≤ 16) :
    (deassertEvent .actionOverflow s).isAsserted .actionOverflow = false ∧
    (deassertEvent .actionOverflow s).actions.line = s.actions.line ∧
    (deassertEvent .actionOverflow s).actions.queue = s.actions.triggered (.event EventKind.actionOverflow.num false) := by
  have hactions : (recordDeassert .actionOverflow s).actions = s.actions := by
    rw [recordDeassert, reportEvent]; split <;> rfl
  obtain ⟨hadmitted, -, hevents⟩ := fireMessages_of_room (s := recordDeassert .actionOverflow s)
    (ms := (recordDeassert .actionOverflow s).actions.triggered (.event EventKind.actionOverflow.num false))
    (by rw [hactions, hqueue]; simpa using hroom) (fun h' => by rw [hactions] at h'; exact absurd h' hline)
  rw [hactions] at hadmitted
  simp only [admitted, hline, hqueue, decide_false, Bool.false_eq_true, if_false, List.nil_append, Prod.mk.injEq] at hadmitted
  rw [deassertEvent, if_pos h, fireTrigger, hactions]
  rw [hactions] at hevents
  refine ⟨?_, hadmitted⟩
  rw [isAsserted_congr hevents, State.isAsserted, event_recordDeassert, if_pos rfl]

/-- Settles O51, line by line. -/
theorem serialLinesProceed : Obligations.SerialLinesProceed := by
  intro s hrun
  refine ⟨fun m h => (next_running hrun _).trans ?_, fun h hq => (next_running hrun _).trans ?_, fun m rest h hq => ?_,
    fun m h => (next_running hrun _).trans ?_, fun h hq => (next_running hrun _).trans ?_,
    fun m rest h hq hclear => (next_running hrun _).trans ?_, fun m h hq hasserted hroom => ?_⟩
  · rw [captionSent, h]; rfl
  · rw [captionSpaced, h]
    simp only [Line.isSpacing, if_true, startCaption, hq]
  · refine ⟨_, (next_running hrun _).trans rfl, ?_⟩
    rw [captionSpaced, h]
    simp only [Line.isSpacing, if_true, startCaption, hq]
    cases rest with
    | nil => exact ⟨deassertEvent_reports _ _, fun hne => absurd rfl hne, fun _ => isAsserted_deassertEvent _ _ (by decide)⟩
    | cons a as => exact ⟨reportsFrom_refl _, fun _ => rfl, nofun⟩
  · rw [boothSent, h]; rfl
  · rw [boothSpaced, h]
    simp only [Line.isSpacing, if_true, startBooth, hq]
  · rw [boothSpaced, h]
    simp only [Line.isSpacing, if_true, startBooth, hq]
    cases rest with
    | nil =>
      have hclear' : s.isAsserted .actionOverflow = false := hclear.resolve_left (fun hne => hne rfl)
      exact congrArg Host.Outcome.next (deassertEvent_of_clear hclear')
    | cons a as => rfl
  · refine ⟨_, (next_running hrun _).trans rfl, ?_⟩
    rw [boothSpaced, h]
    simp only [Line.isSpacing, if_true, startBooth, hq]
    exact deassert_actionOverflow_of_room (s := { s with actions := { s.actions with queue := [], line := .sending m, timer := 200 } })
      hasserted rfl (by simp) hroom

end Sys2Proof.Machine

/-! PROOF. Admission to the report queue (R12, R13), and how far an event lengthens it. -/

namespace Sys2Proof.Machine

/-! ## Displacement and replacement -/

theorem replaceHold_append {lane : AvLane} {r old : Report} {after : List Report} (hold : old.holdLane = some lane) :
    ∀ {before : List Report}, (∀ x ∈ before, x.holdLane ≠ some lane) →
      replaceHold lane r (before ++ old :: after) = some (before ++ r :: after)
  | [], _ => by simp [replaceHold, hold]
  | b :: bs, h => by
    have hb : b.holdLane ≠ some lane := h b (List.mem_cons_self ..)
    have hbs := replaceHold_append (r := r) (after := after) hold (before := bs) fun x hx => h x (List.mem_cons_of_mem _ hx)
    simp [replaceHold, hb, hbs]

theorem replaceHold_of_none {lane : AvLane} {r : Report} :
    ∀ {q : List Report}, (∀ x ∈ q, x.holdLane ≠ some lane) → replaceHold lane r q = none
  | [], _ => rfl
  | a :: as, h => by
    have ha : a.holdLane ≠ some lane := h a (List.mem_cons_self ..)
    simp [replaceHold, ha, replaceHold_of_none (r := r) (q := as) fun x hx => h x (List.mem_cons_of_mem _ hx)]

/-- A HOLD overwritten in place: one report of its lane gives way to it (R13). -/
theorem replaceHold_some {lane : AvLane} {r : Report} : ∀ {q q' : List Report}, replaceHold lane r q = some q' →
    ∃ before old after, q = before ++ old :: after ∧ q' = before ++ r :: after ∧ old.holdLane = some lane
  | [], _, h => by simp [replaceHold] at h
  | a :: as, q', h => by
    unfold replaceHold at h
    split at h
    next ha => cases h; exact ⟨[], a, as, rfl, rfl, ha⟩
    next =>
      cases hr : replaceHold lane r as with
      | none => simp [hr] at h
      | some q'' =>
        obtain ⟨before, old, after, rfl, rfl, hold⟩ := replaceHold_some hr
        rw [hr] at h
        cases h
        exact ⟨a :: before, old, after, rfl, rfl, hold⟩

theorem dropNewestEvent_of_none : ∀ {q : List Report}, (∀ x ∈ q, x.isEvent = false) → dropNewestEvent q = none
  | [], _ => rfl
  | a :: as, h => by
    simp [dropNewestEvent, dropNewestEvent_of_none (q := as) fun x hx => h x (List.mem_cons_of_mem _ hx), h a (List.mem_cons_self ..)]

theorem dropNewestEvent_append {e : Report} {after : List Report} (he : e.isEvent = true) (hafter : ∀ x ∈ after, x.isEvent = false) :
    ∀ before : List Report, dropNewestEvent (before ++ e :: after) = some (before ++ after)
  | [] => by simp [dropNewestEvent, dropNewestEvent_of_none hafter, he]
  | b :: bs => by simp [dropNewestEvent, dropNewestEvent_append he hafter bs]

/-! ## Admission -/

section

variable {l : LinkPort} {r : Report}

theorem Report.holdLane_of_isEvent (h : r.isEvent = true) : r.holdLane = none := by
  cases r with
  | event => rfl
  | _ => cases h

theorem LinkPort.offer_of_replaced {lane : AvLane} {q : List Report} (hup : l.state = .up) (hlane : r.holdLane = some lane)
    (hq : replaceHold lane r (l.queue.drop l.inFlight) = some q) :
    l.offer r = { l with queue := l.queue.take l.inFlight ++ q } := by
  have hnot : ¬ l.state ≠ .up := (fun hn => hn hup)
  simp only [LinkPort.offer, LinkPort.take, if_neg hnot, hlane, Option.bind_some, hq, Option.getD_some]

/-- Where no HOLD of the report's lane waits, the report needs a place of its own (R12). -/
theorem LinkPort.offer_of_not_replaced (hup : l.state = .up)
    (hnone : ∀ lane, r.holdLane = some lane → replaceHold lane r (l.queue.drop l.inFlight) = none) :
    l.offer r = if l.queue.length < 64 then { l with queue := l.queue ++ [r] }
      else if r.isEvent then l
      else ((dropNewestEvent (l.queue.drop l.inFlight)).map
        (fun rest => { l with queue := l.queue.take l.inFlight ++ rest ++ [r] })).getD l := by
  have hnot : ¬ l.state ≠ .up := (fun hn => hn hup)
  have hbind : r.holdLane.bind (fun lane => replaceHold lane r (l.queue.drop l.inFlight)) = none := by
    cases h : r.holdLane with
    | none => rfl
    | some lane => exact hnone lane h
  simp only [LinkPort.offer, LinkPort.take, if_neg hnot, hbind, Config.reportPlaces]
  split
  · rfl
  split
  · rfl
  · cases dropNewestEvent (l.queue.drop l.inFlight) <;> rfl

theorem LinkPort.offer_of_room (hup : l.state = .up) (hlane : r.holdLane = none) (hroom : l.queue.length < 64) :
    l.offer r = { l with queue := l.queue ++ [r] } := by
  rw [LinkPort.offer_of_not_replaced hup (by simp [hlane]), if_pos hroom]

/-- A report offered to a queue with room is in it, and the reports of other kinds stay (R12, R13). -/
theorem LinkPort.mem_offer_self (hup : l.state = .up) (hroom : l.queue.length < 64) : r ∈ (l.offer r).queue := by
  by_cases h : ∃ lane q, r.holdLane = some lane ∧ replaceHold lane r (l.queue.drop l.inFlight) = some q
  · obtain ⟨lane, q, hlane, hq⟩ := h
    obtain ⟨before, old, after, -, rfl, -⟩ := replaceHold_some hq
    simp [LinkPort.offer_of_replaced hup hlane hq]
  · rw [LinkPort.offer_of_not_replaced hup, if_pos hroom]
    · simp
    · intro lane hlane
      refine Classical.byContradiction fun hne => ?_
      obtain ⟨q, hq⟩ := Option.ne_none_iff_exists'.mp hne
      exact h ⟨lane, q, hlane, hq⟩

theorem LinkPort.mem_offer {x : Report} (hx : x ∈ l.queue) (hroom : l.queue.length < 64)
    (hlane : x.holdLane ≠ r.holdLane ∨ r.holdLane = none) : x ∈ (l.offer r).queue := by
  by_cases hup : l.state = .up
  · by_cases h : ∃ lane q, r.holdLane = some lane ∧ replaceHold lane r (l.queue.drop l.inFlight) = some q
    · obtain ⟨lane, q, hr, hq⟩ := h
      obtain ⟨before, old, after, hdrop, rfl, hold⟩ := replaceHold_some hq
      have hne : x ≠ old := by
        rintro rfl
        rcases hlane with h | h
        · exact h (hold.trans hr.symm)
        · rw [hr] at h; cases h
      rw [← List.take_append_drop l.inFlight l.queue, hdrop] at hx
      rw [LinkPort.offer_of_replaced hup hr hq]
      simp only [List.mem_append, List.mem_cons] at hx ⊢
      rcases hx with h | h | h | h
      · exact .inl h
      · exact .inr (.inl h)
      · exact absurd h hne
      · exact .inr (.inr (.inr h))
    · rw [LinkPort.offer_of_not_replaced hup, if_pos hroom]
      · exact List.mem_append_left _ hx
      · intro lane hr
        refine Classical.byContradiction fun hne => ?_
        obtain ⟨q, hq⟩ := Option.ne_none_iff_exists'.mp hne
        exact h ⟨lane, q, hr, hq⟩
  · rwa [LinkPort.offer_of_not_up l r hup]

/-- One report lengthens the queue by one place at most, and never beyond 64 (R12). -/
theorem LinkPort.length_offer (l : LinkPort) (r : Report) : (l.offer r).queue.length ≤ l.queue.length + 1 ∧
    (l.queue.length ≤ 64 → (l.offer r).queue.length ≤ 64) := by
  by_cases hup : l.state = .up
  · by_cases h : ∃ lane q, r.holdLane = some lane ∧ replaceHold lane r (l.queue.drop l.inFlight) = some q
    · obtain ⟨lane, q, hr, hq⟩ := h
      have hlen := length_replaceHold hq
      rw [LinkPort.offer_of_replaced hup hr hq]
      simp only [List.length_append, List.length_take, List.length_drop] at *
      omega
    · rw [LinkPort.offer_of_not_replaced hup]
      · split
        · simp only [List.length_append, List.length_singleton]; omega
        split
        · omega
        · cases hd : dropNewestEvent (l.queue.drop l.inFlight) with
          | none => simp
          | some rest =>
            have hlen := length_dropNewestEvent hd
            simp only [Option.map_some, Option.getD_some, List.length_append, List.length_take, List.length_drop,
              List.length_singleton] at *
            omega
      · intro lane hr
        refine Classical.byContradiction fun hne => ?_
        obtain ⟨q, hq⟩ := Option.ne_none_iff_exists'.mp hne
        exact h ⟨lane, q, hr, hq⟩
  · rw [LinkPort.offer_of_not_up l r hup]
    omega

/-- A list of reports taken apart behind the ones in transmission. -/
theorem take_drop_append {α : Type} {before after : List α} {n : Nat} (h : n ≤ before.length) :
    (before ++ after).drop n = before.drop n ++ after ∧ (before ++ after).take n = before.take n := by
  exact ⟨List.drop_append_of_le_length h, List.take_append_of_le_length h⟩

/-- Admission to the report queue, case by case (R12, R13). -/
theorem LinkPort.offer_cases (l : LinkPort) (r : Report) :
    (l.state ≠ .up → l.offer r = l) ∧
    (l.state = .up → r.holdLane = none → l.queue.length < 64 → l.offer r = { l with queue := l.queue ++ [r] }) ∧
    (l.state = .up → r.isEvent = true → 64 ≤ l.queue.length → l.offer r = l) ∧
    (∀ before e after, l.state = .up → r.isEvent = false → r.holdLane = none → l.queue = before ++ e :: after →
      64 ≤ l.queue.length → l.inFlight ≤ before.length → e.isEvent = true → (∀ x ∈ after, x.isEvent = false) →
      l.offer r = { l with queue := before ++ after ++ [r] }) ∧
    (l.state = .up → r.isEvent = false → r.holdLane = none → 64 ≤ l.queue.length →
      (∀ x ∈ l.queue.drop l.inFlight, x.isEvent = false) → l.offer r = l) ∧
    (∀ lane before after (old : Report), l.state = .up → r.holdLane = some lane → l.queue = before ++ old :: after →
      l.inFlight ≤ before.length → old.holdLane = some lane → (∀ x ∈ before.drop l.inFlight, x.holdLane ≠ some lane) →
      l.offer r = { l with queue := before ++ r :: after }) ∧
    (∀ lane, l.state = .up → r.holdLane = some lane → (∀ x ∈ l.queue.drop l.inFlight, x.holdLane ≠ some lane) →
      l.queue.length < 64 → l.offer r = { l with queue := l.queue ++ [r] }) ∧
    (l.queue.length ≤ 64 → (l.offer r).queue.length ≤ 64) := by
  refine ⟨LinkPort.offer_of_not_up l r, LinkPort.offer_of_room, fun hup he hfull => ?_,
    fun before e after hup hr hlane hq hfull hfly he hafter => ?_, fun hup hr hlane hfull hnone => ?_,
    fun lane before after old hup hlane hq hfly hold hbefore => ?_, fun lane hup hlane hnone hroom => ?_, (LinkPort.length_offer l r).2⟩
  · rw [LinkPort.offer_of_not_replaced hup (by simp [Report.holdLane_of_isEvent he]), if_neg (by omega), if_pos he]
  · obtain ⟨hdrop, htake⟩ := take_drop_append (after := e :: after) hfly
    rw [LinkPort.offer_of_not_replaced hup (by simp [hlane]), if_neg (by omega), if_neg (by simp [hr]), hq, hdrop, htake,
      dropNewestEvent_append he hafter, Option.map_some, Option.getD_some, ← List.append_assoc (before.take _),
      List.take_append_drop]
  · rw [LinkPort.offer_of_not_replaced hup (by simp [hlane]), if_neg (by omega), if_neg (by simp [hr]),
      dropNewestEvent_of_none hnone]
    rfl
  · obtain ⟨hdrop, htake⟩ := take_drop_append (after := old :: after) hfly
    have hreplaced : replaceHold lane r (l.queue.drop l.inFlight) = some (before.drop l.inFlight ++ r :: after) := by
      rw [hq, hdrop, replaceHold_append hold hbefore]
    rw [LinkPort.offer_of_replaced hup hlane hreplaced, hq, htake, ← List.append_assoc, List.take_append_drop]
  · rw [LinkPort.offer_of_not_replaced hup, if_pos hroom]
    intro lane' hlane'
    rw [hlane] at hlane'
    cases hlane'
    exact replaceHold_of_none hnone

end

/-! ## How many reports an event queues -/

/-- The report queue of `t` is that of `s` with `n` EVENT reports at most behind it. -/
def appendsAtMost (n : Nat) (s t : State) : Prop :=
  ∃ rest : List Report, (∀ r ∈ rest, r.isEvent = true) ∧ rest.length ≤ n ∧ t.link.queue = s.link.queue ++ rest

theorem appendsAtMost_refl (s : State) : appendsAtMost 0 s s := ⟨[], by simp⟩

theorem appendsAtMost_of_le {m n : Nat} {s t : State} (h : appendsAtMost m s t) (hle : m ≤ n) : appendsAtMost n s t := by
  obtain ⟨rest, hevents, hlen, hq⟩ := h
  exact ⟨rest, hevents, by omega, hq⟩

theorem appendsAtMost_trans {m n : Nat} {s t u : State} (h : appendsAtMost m s t) (h' : appendsAtMost n t u) :
    appendsAtMost (m + n) s u := by
  obtain ⟨q, hq, hlen, hqueue⟩ := h
  obtain ⟨q', hq', hlen', hqueue'⟩ := h'
  refine ⟨q ++ q', fun r hr => (List.mem_append.mp hr).elim (hq r) (hq' r), by rw [List.length_append]; omega, ?_⟩
  rw [hqueue', hqueue, List.append_assoc]

theorem appendsAtMost.length_le {n : Nat} {s t : State} (h : appendsAtMost n s t) :
    t.link.queue.length ≤ s.link.queue.length + n := by
  obtain ⟨rest, -, hlen, hq⟩ := h
  rw [hq, List.length_append]
  omega

/-- What waited in the queue still waits. -/
theorem appendsEvents.mem {s t : State} (h : appendsEvents s t) {r : Report} (hr : r ∈ s.link.queue) : r ∈ t.link.queue := by
  obtain ⟨rest, -, hq⟩ := h
  rw [hq]
  exact List.mem_append_left _ hr

theorem appendsAtMost.events {n : Nat} {s t : State} (h : appendsAtMost n s t) : appendsEvents s t := by
  obtain ⟨rest, hevents, -, hq⟩ := h
  exact ⟨rest, hevents, hq⟩

section

variable (k : EventKind) (s : State)

theorem reportEvent_atMost (news : EventNews) (flag : Bool) : appendsAtMost 1 s (reportEvent k news flag s) := by
  unfold reportEvent
  split
  · obtain hq | hq := LinkPort.offer_event (l := s.link) (r := .event k.num news (s.event k).count (s.event k).last) rfl
    · exact ⟨[], by simp, by simp, hq.trans (List.append_nil _).symm⟩
    · exact ⟨[_], by simp [Report.isEvent], by simp, hq⟩
  · exact appendsAtMost_of_le (appendsAtMost_refl s) (Nat.zero_le 1)

theorem fireMessages_atMost (ms : List Message) : appendsAtMost 1 s (fireMessages ms s) := by
  unfold fireMessages
  dsimp only
  split
  · exact appendsAtMost_of_le (appendsAtMost_refl s) (Nat.zero_le 1)
  · exact reportEvent_atMost .actionOverflow ((offerMessages ms s).1.setEvent .actionOverflow _) .asserted _

theorem fireTrigger_atMost (x : Trigger) : appendsAtMost 1 s (fireTrigger x s) := fireMessages_atMost s _

theorem assertEvent_atMost : appendsAtMost 2 s (assertEvent k s) := by
  unfold assertEvent
  split
  · exact appendsAtMost_of_le (appendsAtMost_refl s) (Nat.zero_le 2)
  · exact appendsAtMost_trans (m := 1) (t := recordAssert k s) (reportEvent_atMost k (s.setEvent k _) .asserted _)
      (fireTrigger_atMost _ _)

theorem deassertEvent_atMost : appendsAtMost 2 s (deassertEvent k s) := by
  unfold deassertEvent
  split
  · exact appendsAtMost_trans (m := 1) (t := recordDeassert k s) (reportEvent_atMost k (s.setEvent k _) .clear _)
      (fireTrigger_atMost _ _)
  · exact appendsAtMost_of_le (appendsAtMost_refl s) (Nat.zero_le 2)

theorem setLevel_atMost (holds : Bool) : appendsAtMost 2 s (setLevel k holds s) := by
  cases holds
  · exact deassertEvent_atMost k s
  · exact assertEvent_atMost k s

theorem occur_atMost : appendsAtMost 2 s (occur k s) :=
  appendsAtMost_trans (m := 1) (t := recordOccurrence k s) (reportEvent_atMost k (s.setEvent k _) .occurred _)
    (fireTrigger_atMost _ _)

theorem enterState_atMost (st : ShowState) : appendsAtMost 1 s (enterState st s) := by
  obtain ⟨frame, h⟩ := enterState_eq st s
  rw [h]
  exact fireTrigger_atMost { s with timeline := { s.timeline with state := st }, sync := { s.sync with frame := frame } } _

end

end Sys2Proof.Machine

/-! PROOF. The Lead Monitor, lane by lane: what settling and exhaustion leave on each lane, and the HOLDs that they queue (R40 to R49). -/

namespace Sys2Proof.Machine

/-! ## What the Lead Monitor's changes leave to read -/

section

variable {s t : State}

theorem holdsFrom.eq (h : holdsFrom s t) : t = { s with holds := t.holds, link := { s.link with queue := t.link.queue } } := h

theorem runLast_congr (h : t.timeline.table = s.timeline.table) (l : AvLane) :
    ∀ (q : List UnitRec) (u : Option UnitRef), t.runLast l u q = s.runLast l u q
  | [], u => by cases u <;> rfl
  | _ :: _, none => rfl
  | a :: q, some u => by
    have hrow : ∀ k, t.row k = s.row k := fun k => by rw [State.row, h]; rfl
    have hafter : t.runAfter l u = s.runAfter l u := by simp only [State.runAfter, State.unitAfter, hrow]
    simp only [State.runLast, hafter, runLast_congr h l q]

/-- A lane's run is read from the timeline, the sound cursor, the wanted set and the lane's queue. -/
theorem run_congr (ht : t.timeline.table = s.timeline.table) (hc : t.timeline.cursor = s.timeline.cursor)
    (hs : t.sound.cursor = s.sound.cursor) (hw : t.wanted = s.wanted) (hb : t.buffer.queues = s.buffer.queues) (l : AvLane) :
    t.run l = s.run l := by
  rw [State.run, State.run, runLast_congr ht, hb, State.nextOn, State.nextOn, hc, hs, hw]

theorem leadNow_congr (ht : t.timeline = s.timeline) (hs : t.sound = s.sound) (hw : t.wanted = s.wanted)
    (hb : t.buffer.queues = s.buffer.queues) (l : AvLane) : t.leadNow l = s.leadNow l := by
  have hrow : ∀ k, t.row k = s.row k := fun k => by rw [State.row, ht]; rfl
  simp only [State.leadNow, run_congr (congrArg Timeline.table ht) (congrArg Timeline.cursor ht) (congrArg Sound.cursor hs) hw hb l,
    ht, hs, hrow]

/-- What a HOLD and a lead are made of is the same after a change of the holds. -/
theorem holdsFrom.reads (h : holdsFrom s t) :
    t.mgmt = s.mgmt ∧ t.timeline = s.timeline ∧ t.sound = s.sound ∧ (∀ l, t.leadNow l = s.leadNow l) ∧
    (∀ l, t.lowMark l = s.lowMark l) ∧ (∀ l, t.highMark l = s.highMark l) ∧ (∀ l, t.holdTags l = s.holdTags l) ∧
    t.link.state = s.link.state ∧ ∀ k, t.isAsserted k = s.isAsserted k := by
  rw [h.eq]
  exact ⟨rfl, rfl, rfl, leadNow_congr rfl rfl rfl rfl, fun _ => rfl, fun _ => rfl, fun _ => rfl, rfl, fun _ => rfl⟩

/-- The marks of a lane are read from its pace value and the limits. -/
theorem effLow_congr {l : AvLane} (hp : (t.hold l).pace = (s.hold l).pace) (hm : t.mgmt = s.mgmt) : t.effLow l = s.effLow l := by
  rw [State.effLow, hp, State.lowMark, hm]; rfl

theorem holdMark_congr {l : AvLane} (hp : (t.hold l).pace = (s.hold l).pace) (hm : t.mgmt = s.mgmt) : t.holdMark l = s.holdMark l := by
  rw [State.holdMark, effLow_congr hp hm, State.highMark, hm]; rfl

/-- A fold over lanes, each step of which changes the hold state of its own lane alone. -/
theorem foldl_hold {f : State → AvLane → State} {g : AvLane → LaneHold} (hfrom : ∀ t a, holdsFrom t (f t a))
    (hother : ∀ t a m, m ≠ a → (f t a).hold m = t.hold m)
    (hself : ∀ t a, holdsFrom s t → t.hold a = s.hold a → (f t a).hold a = g a) :
    ∀ (ls : List AvLane) (t : State), ls.Nodup → holdsFrom s t → (∀ a ∈ ls, t.hold a = s.hold a) →
      ∀ m, (ls.foldl f t).hold m = if m ∈ ls then g m else t.hold m
  | [], _, _, _, _, _ => by simp
  | a :: ls, t, hnodup, hst, hsame, m => by
    obtain ⟨ha, hls⟩ := List.nodup_cons.mp hnodup
    have hrest : ∀ b ∈ ls, (f t a).hold b = s.hold b := fun b hb => by
      rw [hother t a b (fun h => ha (h ▸ hb)), hsame b (List.mem_cons_of_mem _ hb)]
    rw [List.foldl_cons, foldl_hold hfrom hother hself ls (f t a) hls (holdsFrom_trans hst (hfrom t a)) hrest m]
    by_cases hm : m = a
    · subst hm
      rw [if_neg ha, if_pos (List.mem_cons_self ..), hself t m hst (hsame m (List.mem_cons_self ..))]
    · rw [hother t a m hm]
      simp [hm]

theorem mem_avLanes (l : AvLane) : l ∈ avLanes := by
  cases l with
  | pic i => revert i; decide
  | snd i => revert i; decide

theorem nodup_avLanes : avLanes.Nodup := by decide

/-! ## HOLDs in the queue -/

/-- `t` follows `s` by one HOLD of a lane at most. -/
def holdQueued (l : AvLane) (s t : State) : Prop := t.link = s.link ∨ ∃ r : Report, r.holdLane = some l ∧ t.link = s.link.offer r

theorem holdQueued.length_le {l : AvLane} (h : holdQueued l s t) : t.link.queue.length ≤ s.link.queue.length + 1 := by
  obtain h | ⟨r, -, h⟩ := h
  · rw [h]; omega
  · rw [h]; exact (LinkPort.length_offer s.link r).1

theorem holdQueued.mem {l : AvLane} (h : holdQueued l s t) {x : Report} (hx : x ∈ s.link.queue) (hroom : s.link.queue.length < 64)
    (hlane : x.holdLane ≠ some l) : x ∈ t.link.queue := by
  obtain h | ⟨r, hr, h⟩ := h
  · rwa [h]
  · rw [h]; exact LinkPort.mem_offer hx hroom (.inl (hr ▸ hlane))

/-- Through a fold over lanes the queue grows by one report a lane, and what is no HOLD of one of them stays in it. -/
theorem foldl_holdQueued {f : State → AvLane → State} (hf : ∀ t a, holdQueued a t (f t a)) :
    ∀ (ls : List AvLane) (t : State), (ls.foldl f t).link.queue.length ≤ t.link.queue.length + ls.length ∧
      (t.link.queue.length + ls.length ≤ 64 → ∀ x ∈ t.link.queue, (∀ a ∈ ls, x.holdLane ≠ some a) → x ∈ (ls.foldl f t).link.queue)
  | [], t => ⟨Nat.le_refl _, fun _ _ hx _ => hx⟩
  | a :: ls, t => by
    obtain ⟨hlen, hmem⟩ := foldl_holdQueued hf ls (f t a)
    have hstep := (hf t a).length_le
    simp only [List.foldl_cons, List.length_cons]
    refine ⟨by omega, fun hroom x hx hne => hmem (by omega) x ?_ fun b hb => hne b (List.mem_cons_of_mem _ hb)⟩
    exact (hf t a).mem hx (by omega) (hne a (List.mem_cons_self ..))

/-- A HOLD that a lane's step queues is in the queue after the fold, where the queue has room for every lane's. -/
theorem foldl_hold_mem {f : State → AvLane → State} {r : Report} {l : AvLane} (hf : ∀ t a, holdQueued a t (f t a))
    (hfrom : ∀ t a, holdsFrom t (f t a)) (hother : ∀ t a m, m ≠ a → (f t a).hold m = t.hold m) (hr : r.holdLane = some l)
    (hup : s.link.state = .up) (hroom : s.link.queue.length ≤ 58)
    (hself : ∀ t, holdsFrom s t → t.hold l = s.hold l → (f t l).link = t.link.offer r) :
    r ∈ (avLanes.foldl f s).link.queue := by
  obtain ⟨before, after, hsplit⟩ := List.append_of_mem (mem_avLanes l)
  have hnodup := nodup_avLanes
  rw [hsplit] at hnodup ⊢
  obtain ⟨-, hrest, hdisjoint⟩ := List.nodup_append.mp hnodup
  have hafter : l ∉ after := (List.nodup_cons.mp hrest).1
  have hbefore : l ∉ before := fun h => hdisjoint l h l (List.mem_cons_self ..) rfl
  have hlens : before.length + (after.length + 1) = 6 := by
    have h := congrArg List.length hsplit
    rw [List.length_append, List.length_cons] at h
    exact h.symm
  rw [List.foldl_append, List.foldl_cons]
  have hsame : ∀ (ls : List AvLane) (t : State), l ∉ ls → (ls.foldl f t).hold l = t.hold l := by
    intro ls
    induction ls with
    | nil => intro t _; rfl
    | cons a as ih =>
      intro t hl
      rw [List.foldl_cons, ih _ (fun h => hl (List.mem_cons_of_mem _ h)),
        hother t a l (fun h => hl (h ▸ List.mem_cons_self ..))]
  have hst : holdsFrom s (before.foldl f s) := holdsFrom_foldl hfrom before s
  have hlink := hself (before.foldl f s) hst (hsame before s hbefore)
  obtain ⟨hlen, -⟩ := foldl_holdQueued hf before s
  have hroom' : (before.foldl f s).link.queue.length < 64 := by omega
  have hin : r ∈ (f (before.foldl f s) l).link.queue := by
    rw [hlink]
    obtain ⟨-, -, -, -, -, -, -, hstate, -⟩ := hst.reads
    exact LinkPort.mem_offer_self (hstate.trans hup) hroom'
  have hgrow := (hf (before.foldl f s) l).length_le
  refine (foldl_holdQueued hf after _).2 (by omega) r hin fun a ha => ?_
  rw [hr]
  exact fun h => hafter ((Option.some.inj h) ▸ ha)

end

/-! ## Settling the leads -/

section

variable (before : State) (l : AvLane) (s : State)

/-- A lane's lead rises across its holding mark, or lies above it under marks that have changed (R42). -/
abbrev leadRises : Prop :=
  s.holdMark l < s.leadNow l ∧ ((before.hold l).lead ≤ before.holdMark l ∨ before.marksDiffer s l = true)

/-- A HELD lane's lead lies below its effective low mark (R42). -/
abbrev leadFalls : Prop := (s.hold l).held = true ∧ s.leadNow l < s.effLow l

/-- The state with a lane's lead taken. -/
def takeLead (l : AvLane) (s : State) : State := s.setHold l { s.hold l with lead := s.leadNow l }

theorem takeLead_hold : (takeLead l s).hold l = { s.hold l with lead := s.leadNow l } := by
  rw [takeLead, hold_setHold, if_pos rfl]

theorem settleLane_cases :
    (leadRises before l s → settleLane before l s = holdLane l (takeLead l s)) ∧
    (¬ leadRises before l s → leadFalls l s → settleLane before l s = openLane l (takeLead l s)) ∧
    (¬ leadRises before l s → ¬ leadFalls l s → settleLane before l s = takeLead l s) := by
  have hmark : (takeLead l s).holdMark l = s.holdMark l := holdMark_congr (by rw [takeLead_hold]) rfl
  have hlow : (takeLead l s).effLow l = s.effLow l := effLow_congr (by rw [takeLead_hold]) rfl
  have hrises : (takeLead l s).holdMark l < ((takeLead l s).hold l).lead ∧
      ((before.hold l).lead ≤ before.holdMark l ∨ before.marksDiffer (takeLead l s) l = true) ↔ leadRises before l s := by
    rw [hmark, takeLead_hold]; exact Iff.rfl
  have hfalls : ((takeLead l s).hold l).held = true ∧ ((takeLead l s).hold l).lead < (takeLead l s).effLow l ↔ leadFalls l s := by
    rw [hlow, takeLead_hold]
  exact ⟨fun h => if_pos (hrises.mpr h),
    fun h hf => (if_neg (fun h' => h (hrises.mp h'))).trans (if_pos (hfalls.mpr hf)),
    fun h hf => (if_neg (fun h' => h (hrises.mp h'))).trans (if_neg (fun h' => hf (hfalls.mp h')))⟩

theorem holdLane_hold (m : AvLane) : (holdLane l s).hold m =
    if m = l then { s.hold l with held := true, refresh := some s.refreshTicks } else s.hold m := hold_setHold s l m _

theorem openLane_hold (m : AvLane) : (openLane l s).hold m =
    if m = l then { s.hold l with held := false, refresh := none } else s.hold m := hold_setHold s l m _

/-- Settling a lane leaves every other lane. -/
theorem settleLane_other {m : AvLane} (h : m ≠ l) : (settleLane before l s).hold m = s.hold m := by
  have htake : (takeLead l s).hold m = s.hold m := by rw [takeLead, hold_setHold, if_neg h]
  unfold settleLane
  change (if _ then holdLane l (takeLead l s) else if _ then openLane l (takeLead l s) else takeLead l s).hold m = _
  split
  · rw [holdLane_hold, if_neg h, htake]
  split
  · rw [openLane_hold, if_neg h, htake]
  · exact htake

theorem settleLane_holdQueued : holdQueued l s (settleLane before l s) := by
  unfold settleLane
  change holdQueued l s (if _ then holdLane l (takeLead l s) else if _ then openLane l (takeLead l s) else takeLead l s)
  split
  · exact .inr ⟨_, rfl, rfl⟩
  split
  · exact .inr ⟨_, rfl, rfl⟩
  · exact .inl rfl

/-- What settling leaves on a lane (R42). -/
def settledHold : LaneHold :=
  if leadRises before l s then { s.hold l with lead := s.leadNow l, held := true, refresh := some s.refreshTicks }
  else if leadFalls l s then { s.hold l with lead := s.leadNow l, held := false, refresh := none }
  else { s.hold l with lead := s.leadNow l }

theorem settleLane_self : (settleLane before l s).hold l = settledHold before l s := by
  obtain ⟨hrises, hfalls, hnone⟩ := settleLane_cases before l s
  unfold settledHold
  split
  next h => rw [hrises h, holdLane_hold, if_pos rfl, takeLead_hold]; rfl
  split
  next h hf => rw [hfalls h hf, openLane_hold, if_pos rfl, takeLead_hold]
  next h hf => rw [hnone h hf, takeLead_hold]

/-- What a lane's settling reads is the same after the settling of others. -/
theorem settle_congr {t : State} (h : holdsFrom s t) (hl : t.hold l = s.hold l) :
    (leadRises before l t ↔ leadRises before l s) ∧ (leadFalls l t ↔ leadFalls l s) := by
  obtain ⟨hmgmt, -, -, hlead, hlow, hhigh, -⟩ := h.reads
  have hpace : (t.hold l).pace = (s.hold l).pace := by rw [hl]
  constructor
  · rw [leadRises, leadRises, holdMark_congr hpace hmgmt, hlead, State.marksDiffer, State.marksDiffer, hlow, hhigh]
  · rw [leadFalls, leadFalls, hl, hlead, effLow_congr hpace hmgmt]

theorem settledHold_congr {t : State} (h : holdsFrom s t) (hl : t.hold l = s.hold l) :
    settledHold before l t = settledHold before l s := by
  obtain ⟨hrises, hfalls⟩ := settle_congr before l s h hl
  obtain ⟨hmgmt, -, -, hlead, -⟩ := h.reads
  have hrefresh : t.refreshTicks = s.refreshTicks := by rw [State.refreshTicks, hmgmt]; rfl
  simp only [settledHold, hrises, hfalls, hl, hlead, hrefresh]

/-- Settling the leads, lane by lane (R40, R42). -/
theorem settleLeads_hold : (settleLeads before s).hold l = settledHold before l s := by
  refine (foldl_hold (s := s) (g := fun a => settledHold before a s) (fun t a => settleLane_holdsFrom before a t)
    (fun t a _ h => settleLane_other before a t h)
    (fun t a h ha => (settleLane_self before a t).trans (settledHold_congr before a s h ha)) avLanes s nodup_avLanes
    (holdsFrom_refl s) (fun _ _ => rfl) l).trans ?_
  rw [if_pos (mem_avLanes l)]

/-- The HOLD of a lane that settling holds is in the queue (R42, R43). -/
theorem settleLeads_held_mem (hrises : leadRises before l s) (hup : s.link.state = .up) (hroom : s.link.queue.length ≤ 58) :
    .hold l (s.holdTags l) s.mgmt.limits.holdMs ∈ (settleLeads before s).link.queue := by
  rw [settleLeads]
  refine foldl_hold_mem (s := s) (f := fun s l => settleLane before l s)
    (r := .hold l (s.holdTags l) s.mgmt.limits.holdMs) (fun t a => settleLane_holdQueued before a t)
    (fun t a => settleLane_holdsFrom before a t) (fun t a _ h => settleLane_other before a t h) rfl hup hroom fun t ht hl => ?_
  obtain ⟨hmgmt, -, -, -, -, -, htags, -⟩ := ht.reads
  rw [(settleLane_cases before l t).1 ((settle_congr before l s ht hl).1.mpr hrises)]
  change t.link.offer (.hold l (t.holdTags l) t.mgmt.limits.holdMs) = _
  rw [htags, hmgmt]

/-- The HOLD of a lane that settling opens is in the queue (R42, R43). -/
theorem settleLeads_opened_mem (hrises : ¬ leadRises before l s) (hfalls : leadFalls l s) (hup : s.link.state = .up)
    (hroom : s.link.queue.length ≤ 58) : .hold l (s.holdTags l) 0 ∈ (settleLeads before s).link.queue := by
  rw [settleLeads]
  refine foldl_hold_mem (s := s) (f := fun s l => settleLane before l s) (r := .hold l (s.holdTags l) 0)
    (fun t a => settleLane_holdQueued before a t) (fun t a => settleLane_holdsFrom before a t)
    (fun t a _ h => settleLane_other before a t h) rfl hup hroom fun t ht hl => ?_
  obtain ⟨-, -, -, -, -, -, htags, -⟩ := ht.reads
  obtain ⟨hr, hf⟩ := settle_congr before l s ht hl
  rw [(settleLane_cases before l t).2.1 (fun h => hrises (hr.mp h)) (hf.mpr hfalls)]
  change t.link.offer (.hold l (t.holdTags l) 0) = _
  rw [htags]

/-- A lane does not rise and fall at once: the holding mark is not below the effective low mark. -/
theorem not_falls_of_rises (h : leadRises before l s) : ¬ leadFalls l s := by
  rintro ⟨-, hfall⟩
  obtain ⟨hrise, -⟩ := h
  have : s.effLow l ≤ s.holdMark l := Nat.le_max_right _ _
  omega

end

/-! ## Exhaustion -/

section

variable (l : AvLane) (s : State)

theorem exhaustLane_cases :
    ((s.hold l).lead < s.effLow l → exhaustLane l s = s) ∧
    (s.effLow l ≤ (s.hold l).lead → exhaustLane l s = queueHold l s.mgmt.limits.holdMs (s.setHold l { s.hold l with
      held := true, refresh := if (s.hold l).held then (s.hold l).refresh else some s.refreshTicks })) := by
  unfold exhaustLane
  exact ⟨fun h => if_pos h, fun h => if_neg (Nat.not_lt.mpr h)⟩

theorem exhaustLane_other {m : AvLane} (h : m ≠ l) : (exhaustLane l s).hold m = s.hold m := by
  unfold exhaustLane
  dsimp only
  split
  · rfl
  · exact (hold_setHold s l m _).trans (if_neg h)

theorem exhaustLane_holdQueued : holdQueued l s (exhaustLane l s) := by
  unfold exhaustLane
  dsimp only
  split
  · exact .inl rfl
  · exact .inr ⟨_, rfl, rfl⟩

/-- What an exhaustion leaves on a lane (R46). -/
def State.exhaustedHold : LaneHold :=
  if (s.hold l).lead < s.effLow l then s.hold l
  else { s.hold l with held := true, refresh := if (s.hold l).held then (s.hold l).refresh else some s.refreshTicks }

theorem exhaustLane_self : (exhaustLane l s).hold l = s.exhaustedHold l := by
  unfold exhaustLane State.exhaustedHold
  dsimp only
  split
  · rfl
  · exact (hold_setHold s l l _).trans (if_pos rfl)

theorem exhaustedHold_congr {t : State} (hm : t.mgmt = s.mgmt) (hl : t.hold l = s.hold l) : t.exhaustedHold l = s.exhaustedHold l := by
  have hlow : t.effLow l = s.effLow l := effLow_congr (by rw [hl]) hm
  have hrefresh : t.refreshTicks = s.refreshTicks := by rw [State.refreshTicks, hm]; rfl
  rw [State.exhaustedHold, State.exhaustedHold, hl, hlow, hrefresh]

/-- An exhaustion, lane by lane (R46). -/
theorem exhaustPool_hold : (exhaustPool s).hold l = s.exhaustedHold l := by
  have hreports := assertEvent_reports .bufferFull s
  refine (foldl_hold (s := assertEvent .bufferFull s) (g := fun a => (assertEvent .bufferFull s).exhaustedHold a)
    (fun t a => exhaustLane_holdsFrom a t) (fun t a _ h => exhaustLane_other a t h)
    (fun t a h ha => (exhaustLane_self a t).trans (exhaustedHold_congr a _ h.reads.1 ha)) avLanes _ nodup_avLanes
    (holdsFrom_refl _) (fun _ _ => rfl) l).trans ?_
  rw [if_pos (mem_avLanes l)]
  exact exhaustedHold_congr l s hreports.mgmt_eq (hold_congr hreports.holds_eq l)

theorem exhaustPool_holdsFrom : holdsFrom (assertEvent .bufferFull s) (exhaustPool s) :=
  holdsFrom_foldl (fun s l => exhaustLane_holdsFrom l s) _ _

/-- A change of the holds behind reports. -/
theorem reportsFrom_holdsFrom {s t u : State} (h : reportsFrom s t) (h' : holdsFrom t u) :
    reportsFrom { s with holds := u.holds } u := by
  obtain ⟨q, ev, aq, al, at_, dropped, rfl⟩ := h.exists_eq
  rw [h'.eq]
  rfl

theorem holdTags_congr {s t : State} (h : t.wanted = s.wanted) (l : AvLane) : t.holdTags l = s.holdTags l := by
  rw [State.holdTags, h]; rfl

/-- The HOLD of a lane that an exhaustion holds is in the queue (R46). -/
theorem exhaustPool_mem (hlead : s.effLow l ≤ (s.hold l).lead) (hup : s.link.state = .up) (hroom : s.link.queue.length ≤ 56) :
    .hold l (s.holdTags l) s.mgmt.limits.holdMs ∈ (exhaustPool s).link.queue := by
  have hreports := assertEvent_reports .bufferFull s
  have hlen := (assertEvent_atMost .bufferFull s).length_le
  have hl : (assertEvent .bufferFull s).hold l = s.hold l := hold_congr hreports.holds_eq l
  rw [exhaustPool]
  refine foldl_hold_mem (s := assertEvent .bufferFull s) (f := fun s l => exhaustLane l s)
    (r := .hold l (s.holdTags l) s.mgmt.limits.holdMs) (fun t a => exhaustLane_holdQueued a t)
    (fun t a => exhaustLane_holdsFrom a t) (fun t a _ h => exhaustLane_other a t h) rfl (hreports.link_state_eq.trans hup) (by omega)
    fun t ht htl => ?_
  obtain ⟨hmgmt, -, -, -, -, -, htags, -⟩ := ht.reads
  have hlead' : t.effLow l ≤ (t.hold l).lead := by
    rw [effLow_congr (s := s) (by rw [htl, hl]) (hmgmt.trans hreports.mgmt_eq), htl, hl]
    exact hlead
  rw [(exhaustLane_cases l t).2 hlead']
  change t.link.offer (.hold l (t.holdTags l) t.mgmt.limits.holdMs) = _
  rw [htags, holdTags_congr hreports.wanted_eq, hmgmt, hreports.mgmt_eq]

end

/-- Settles O17: the refresh firing, the exhaustion lane by lane, and the blocks that return. -/
theorem holdRefreshFires : Obligations.HoldRefreshFires := by
  refine ⟨fun s l hrun hheld => ?_, fun s => ⟨?_, reportsFrom_holdsFrom (assertEvent_reports _ s) (exhaustPool_holdsFrom s),
    fun l => ⟨fun h => ?_, fun h => ⟨?_, exhaustPool_mem l s h⟩⟩⟩, fun n s => ⟨fun hlow hhigh => ?_, fun h => ?_⟩⟩
  · have hfire : exec (.holdRefreshTimer l) s = .next (if s.refreshDue l then queueHold l s.mgmt.limits.holdMs
        (s.setHold l { s.hold l with refresh := some s.refreshTicks })
        else s.setHold l { s.hold l with refresh := some s.refreshTicks }) := by
      refine (next_running hrun _).trans ?_
      rw [fireRefresh, if_pos hheld]
    have hdue : s.refreshDue l = true ↔ (s.isAsserted .bufferFull = false ∧ s.holdMark l < (s.hold l).lead) ∨
        (s.isAsserted .bufferFull = true ∧ s.effLow l ≤ (s.hold l).lead) := by
      unfold State.refreshDue
      cases s.isAsserted .bufferFull <;> simp
    rw [hfire]
    exact ⟨fun h => congrArg Host.Outcome.next (if_pos (hdue.mpr h)),
      fun h => congrArg Host.Outcome.next (if_neg fun hd => h (hdue.mp hd))⟩
  · obtain ⟨-, -, -, -, -, -, -, -, hasserted⟩ := (exhaustPool_holdsFrom s).reads
    rw [hasserted]
    exact isAsserted_assertEvent s _
  · rw [exhaustPool_hold, State.exhaustedHold, if_pos h]
  · rw [exhaustPool_hold, State.exhaustedHold, if_neg (Nat.not_lt.mpr h)]
    rfl
  · refine ⟨?_, returnBlocks_reports n s⟩
    rw [returnBlocks, if_pos ⟨hlow, hhigh⟩]
    exact isAsserted_deassertEvent _ _ (by decide)
  · have hnot : ¬ (s.buffer.pool < Config.blocksClear ∧ Config.blocksClear ≤ s.buffer.pool + n) := by
      simp only [Config.blocksClear]; omega
    exact if_neg hnot

end Sys2Proof.Machine

/-! PROOF. P and the leads that fall with it; the unit due on a lane and its deadline; the writes of the Nonvolatile Store (R32, R38, R40,
R42, R67, R69, R140 to R142). -/

namespace Sys2Proof.Machine

/-! ## P -/

/-- A lead falls with P, tick by tick (R40). -/
theorem leadNow_later (s : State) (l : AvLane) {p : Nat} (hp : s.timeline.p ≤ p) :
    (s.mapTimeline (fun t => { t with p := p })).leadNow l = s.leadNow l - (p - s.timeline.p) := by
  have hrun : (s.mapTimeline (fun t => { t with p := p })).run l = s.run l :=
    run_congr (s := s) (t := s.mapTimeline (fun t => { t with p := p })) rfl rfl rfl rfl rfl l
  have hrow : ∀ k, (s.mapTimeline (fun t => { t with p := p })).row k = s.row k := fun _ => rfl
  simp only [State.leadNow, hrun, hrow]
  simp only [State.mapTimeline]
  cases s.timeline.state <;> simp only [Nat.zero_sub]
  all_goals
    cases s.run l with
    | none => simp
    | some u =>
      cases hr : s.row u.reel with
      | none => simp [hr]
      | some row => simp only [hr]; omega

theorem reachTick_of_le {p : Nat} {s : State} (h : p ≤ s.timeline.p) : reachTick p s = s := if_pos h

theorem reachTick_of_lt {p : Nat} {s : State} (h : s.timeline.p < p) :
    reachTick p s = settleLeads s (s.mapTimeline (fun t => { t with p := p })) := if_neg (Nat.not_le.mpr h)

/-- Reaching a tick moves P, and what the Lead Monitor makes of it (R40, R42, R67). -/
theorem reachTick_holdsFrom (p : Nat) (s : State) :
    holdsFrom { s with timeline := { s.timeline with p := max s.timeline.p p } } (reachTick p s) := by
  by_cases h : p ≤ s.timeline.p
  · rw [reachTick_of_le h, Nat.max_eq_left h]
    exact holdsFrom_refl s
  · rw [reachTick_of_lt (Nat.not_le.mp h), Nat.max_eq_right (by omega)]
    exact settleLeads_holdsFrom s _

/-- A tick not yet passed is where P then stands. -/
theorem reachTick_holdsFrom_of_le {p : Nat} {s : State} (h : s.timeline.p ≤ p) :
    holdsFrom { s with timeline := { s.timeline with p := p } } (reachTick p s) := by
  have hfrom := reachTick_holdsFrom p s
  rwa [Nat.max_eq_right h] at hfrom

/-- Settling and reaching a tick leave a lane's pace value. -/
theorem settledHold_pace (before : State) (l : AvLane) (s : State) : (settledHold before l s).pace = (s.hold l).pace := by
  unfold settledHold
  split
  · rfl
  split <;> rfl

theorem settleLeads_pace (before s : State) (l : AvLane) : ((settleLeads before s).hold l).pace = (s.hold l).pace := by
  rw [settleLeads_hold, settledHold_pace]

theorem reachTick_pace (p : Nat) (s : State) (l : AvLane) : ((reachTick p s).hold l).pace = (s.hold l).pace := by
  by_cases h : p ≤ s.timeline.p
  · rw [reachTick_of_le h]
  · rw [reachTick_of_lt (Nat.not_le.mp h), settleLeads_pace]
    rfl

/-- Settling a lane whose lead is below its effective low mark opens it, or leaves it OPEN with no refresh timer as it was (R42). -/
theorem settleLane_of_low {before s : State} {l : AvLane} (hlow : s.leadNow l < s.effLow l) :
    (settleLane before l s).hold l = if (s.hold l).held then { s.hold l with lead := s.leadNow l, held := false, refresh := none }
      else { s.hold l with lead := s.leadNow l } := by
  have hrises : ¬ leadRises before l s := by
    rintro ⟨hrise, -⟩
    have : s.effLow l ≤ s.holdMark l := Nat.le_max_right _ _
    omega
  rw [settleLane_self, settledHold, if_neg hrises]
  by_cases hheld : (s.hold l).held = true
  · rw [if_pos ⟨hheld, hlow⟩, if_pos hheld]
  · rw [if_neg (fun h => hheld h.1), if_neg hheld]

/-- Settles O18: P moves until the lead lies one tick below the effective low mark; the settling that follows, or the one that P's move
brings, opens the lane. -/
theorem leadFallOpensLane : Obligations.LeadFallOpensLane := by
  intro s l hrun hplay hheld hlead hlow
  let p := s.timeline.p + ((s.hold l).lead + 1 - s.effLow l)
  have hfrom := reachTick_holdsFrom_of_le (p := p) (s := s) (by omega)
  have hlane := settleLane_holdsFrom (reachTick p s) l (reachTick p s)
  have hexec : exec (.leadFallToLowMark l) s = .next (settleLane (reachTick p s) l (reachTick p s)) := by
    refine (next_running hrun _).trans ?_
    rw [fallToLow, if_pos ⟨hplay, hheld⟩]
  have hleadNow : (reachTick p s).leadNow l = s.leadNow l - (p - s.timeline.p) := by
    obtain ⟨-, -, -, hread, -⟩ := hfrom.reads
    rw [hread, ← leadNow_later s l (by omega)]
    rfl
  have hpace : ((reachTick p s).hold l).pace = (s.hold l).pace := reachTick_pace p s l
  have heff : (reachTick p s).effLow l = s.effLow l := effLow_congr hpace hfrom.reads.1
  have hbelow : (reachTick p s).leadNow l < (reachTick p s).effLow l := by rw [hleadNow, heff]; omega
  have hrefresh : ((reachTick p s).hold l).held = false → ((reachTick p s).hold l).refresh = none := by
    by_cases hle : p ≤ s.timeline.p
    · rw [reachTick_of_le hle, hheld]; intro h; cases h
    · have hbelow' : (s.mapTimeline (fun t => { t with p := p })).leadNow l < (s.mapTimeline (fun t => { t with p := p })).effLow l := by
        rw [leadNow_later s l (by omega)]
        change _ < s.effLow l
        omega
      have hheld' : ((s.mapTimeline (fun t => { t with p := p })).hold l).held = true := hheld
      rw [reachTick_of_lt (Nat.not_le.mp hle), settleLeads_hold, ← settleLane_self, settleLane_of_low hbelow', if_pos hheld']
      exact fun _ => rfl
  have hheldnow := settleLane_of_low (before := reachTick p s) hbelow
  refine ⟨_, hexec, ?_, ?_, ?_, ?_, ?_⟩
  · rw [hheldnow]
    split
    · rfl
    next h => simpa using h
  · rw [hheldnow]
    split
    · rfl
    next h => exact hrefresh (by simpa using h)
  · have hl : ((settleLane (reachTick p s) l (reachTick p s)).hold l).lead = (reachTick p s).leadNow l := by
      rw [hheldnow]; split <;> rfl
    rw [hl, effLow_congr (s := reachTick p s) (by rw [hheldnow]; split <;> rfl) hlane.reads.1]
    exact hbelow
  · rw [hheldnow]
    split <;> exact hpace
  · rw [(holdsFrom_trans hfrom hlane).eq]
    exact ⟨rfl, rfl, rfl, rfl, rfl, rfl, rfl, rfl, rfl, rfl, rfl, rfl, rfl, rfl, rfl, rfl, rfl⟩

/-! ## The unit due and its deadline -/

theorem unitBefore_iff {q : UnitRec} {k u : Nat} : unitBefore q k u = true ↔ q.reel < k ∨ q.reel = k ∧ q.unit < u := by
  simp [unitBefore]

/-- A queue taken apart at the first unit that does not stand before the unit due (R38). -/
theorem dropStale_split {before : List UnitRec} {k u : Nat} (h : ∀ b ∈ before, b.reel < k ∨ b.reel = k ∧ b.unit < u)
    {q : UnitRec} {rest : List UnitRec} (hq : ¬ (q.reel < k ∨ q.reel = k ∧ q.unit < u)) :
    (before ++ q :: rest).dropWhile (fun q => unitBefore q k u) = q :: rest ∧
    (before ++ q :: rest).takeWhile (fun q => unitBefore q k u) = before := by
  have hbefore : ∀ b ∈ before, unitBefore b k u = true := fun b hb => unitBefore_iff.mpr (h b hb)
  have hstop : ¬ (fun q => unitBefore q k u) q = true := fun h' => hq (unitBefore_iff.mp h')
  rw [List.dropWhile_append_of_pos hbefore, List.takeWhile_append_of_pos hbefore, List.dropWhile_cons_of_neg (p := fun q => unitBefore q k u) hstop,
    List.takeWhile_cons_of_neg (p := fun q => unitBefore q k u) hstop, List.append_nil]
  exact ⟨rfl, rfl⟩

theorem dropStaleHeads_discarded (l : Lane) (k u : Nat) (s : State) : (dropStaleHeads l k u s).counters.discarded =
    min 4294967295 (s.counters.discarded + ((s.queue l).takeWhile (fun q => unitBefore q k u)).length) := by
  rw [dropStaleHeads]
  rw [(returnBlocks_reports _ _).counters_eq]
  rfl

section

variable {s : State} {l : Lane} {k u : Nat}

/-- The unit due is handed over (R38). -/
theorem unitDue_of_found {before : List UnitRec} {q : UnitRec} {rest : List UnitRec} (hq : s.queue l = before ++ q :: rest)
    (hbefore : ∀ b ∈ before, b.reel < k ∨ b.reel = k ∧ b.unit < u) (hreel : q.reel = k) (hunit : q.unit = u) :
    (unitDue l k u s).1 = some q ∧ (unitDue l k u s).2.queue l = rest ∧
    (unitDue l k u s).2.buffer.pool = s.buffer.pool + unitBlocks before + q.regions.length ∧
    (unitDue l k u s).2.counters.discarded = min 4294967295 (s.counters.discarded + before.length) := by
  obtain ⟨hdrop, htake⟩ := dropStale_split (q := q) (rest := rest) hbefore (by omega)
  rw [← hq] at hdrop htake
  rw [unitDue_eq, hdrop]
  simp only [hreel, hunit, and_self, if_true]
  refine ⟨by trivial, ?_, ?_, ?_⟩
  · rw [returnBlocks_queue, queue_setQueue, if_pos rfl]
  · rw [returnBlocks_buffer]
    simp only [setQueue_buffer, dropStaleHeads_pool, htake]
  · rw [(returnBlocks_reports _ _).counters_eq]
    change (dropStaleHeads l k u s).counters.discarded = _
    rw [dropStaleHeads_discarded, htake]

/-- The unit due is missing where the head comes after it (R38). -/
theorem unitDue_of_missing {q : UnitRec} {rest : List UnitRec} (hq : s.queue l = q :: rest) (h : k < q.reel ∨ q.reel = k ∧ u < q.unit) :
    (unitDue l k u s).1 = none ∧ (unitDue l k u s).2.queue l = s.queue l ∧
    (unitDue l k u s).2.buffer.pool = s.buffer.pool := by
  obtain ⟨hdrop, htake⟩ := dropStale_split (before := []) (k := k) (u := u) (q := q) (rest := rest) (by simp) (by omega)
  rw [List.nil_append, ← hq] at hdrop htake
  have hne : ¬ (q.reel = k ∧ q.unit = u) := by omega
  rw [unitDue_eq, hdrop]
  simp only [if_neg hne, hq] at htake ⊢
  exact ⟨by trivial, by rw [dropStaleHeads_queue, if_pos rfl, hdrop, ← hq], by rw [dropStaleHeads_pool, hq, htake]; rfl⟩

theorem unitDue_of_empty (hq : s.queue l = []) :
    (unitDue l k u s).1 = none ∧ (unitDue l k u s).2.queue l = [] ∧ (unitDue l k u s).2.buffer.pool = s.buffer.pool := by
  rw [unitDue_eq, hq]
  refine ⟨rfl, ?_, ?_⟩
  · simp only [List.dropWhile_nil]
    rw [dropStaleHeads_queue, if_pos rfl, hq]
    rfl
  · simp only [List.dropWhile_nil]
    rw [dropStaleHeads_pool, hq]
    rfl

/-- The Reel Buffer's answer leaves the other lanes and every slot (R38). -/
theorem unitDue_frame (l : Lane) (k u : Nat) (s : State) :
    (∀ m, m ≠ l → (unitDue l k u s).2.queue m = s.queue m) ∧ (unitDue l k u s).2.slots = s.slots := by
  have hstale : ∀ m, m ≠ l → (dropStaleHeads l k u s).queue m = s.queue m := fun m hm => by
    rw [dropStaleHeads_queue, if_neg hm]
  rw [unitDue_eq]
  split
  · split
    · refine ⟨fun m hm => ?_, by simp⟩
      rw [returnBlocks_queue, queue_setQueue, if_neg hm, hstale m hm]
    · exact ⟨hstale, by simp⟩
  · exact ⟨hstale, by simp⟩

theorem wantedReel_index {w : Wanted} (h : s.wantedReel k = some w) : w.index = k := by
  simpa using List.find?_some h

/-- The member of a reel after a member of the wanted set is changed. -/
theorem wantedReel_editWanted {f : Wanted → Wanted} (hf : ∀ w, (f w).index = w.index) (k j : Nat) (s : State) :
    (s.editWanted k f).wantedReel j = (s.wantedReel j).map (fun w => if w.index = k then f w else w) := by
  have hindex : ((fun w : Wanted => decide (w.index = j)) ∘ fun w => if w.index = k then f w else w) =
      fun w => decide (w.index = j) := by
    funext w
    change decide ((if w.index = k then f w else w).index = j) = _
    split
    · rw [hf]
    · rfl
  rw [State.wantedReel, editWanted_wanted, List.find?_map, hindex]
  rfl

/-- A reel's base on a lane after it has moved (R31, R32). -/
theorem base_moveBase {b : Nat} (h : s.base k l = some b) (n j : Nat) (m : Lane) :
    (s.editWanted k (fun w => { w with bases := w.bases.set l (some n) })).base j m =
      if j = k ∧ m = l then some n else s.base j m := by
  rw [State.base, wantedReel_editWanted (f := fun w => { w with bases := w.bases.set l (some n) }) (fun _ => rfl)]
  by_cases hj : j = k
  · subst hj
    cases hw : s.wantedReel j with
    | none => rw [State.base, hw] at h; cases h
    | some w =>
      have hidx := wantedReel_index hw
      simp only [Option.map_some, Option.bind_some, hidx, if_true, Lanes.get_set, true_and, State.base, hw]
  · have hsame : (s.wantedReel j).map (fun w => if w.index = k then { w with bases := w.bases.set l (some n) } else w) =
        s.wantedReel j := by
      cases hw : s.wantedReel j with
      | none => rfl
      | some w => rw [Option.map_some, if_neg (fun h => hj ((wantedReel_index hw).symm.trans h))]
    rw [hsame, if_neg (fun h => hj h.1)]
    rfl

theorem deadline_of_no_base (h : s.base k l = none) : deadline l k u s = s := by rw [deadline, h]

theorem deadline_of_passed {b : Nat} (h : s.base k l = some b) (hu : u < b) : deadline l k u s = s := by
  simp only [deadline, h, if_pos hu]

/-- The slots that a deadline for unit `u` passes: those of its reel from the base up to it (R32). -/
def passedSlot (k b u : Nat) (x : AsmSlot) : Bool := decide (x.reel = k) && decide (b ≤ x.unit) && decide (x.unit ≤ u)

/-- The state whose slots up to unit `u` are emptied and whose base has moved past it, before the lane joins (R32). -/
def passDeadline (l : Lane) (k b u : Nat) (s : State) : State :=
  (emptySlots l (passedSlot k b u) noteDiscarded s).editWanted k (fun w => { w with bases := w.bases.set l (some (u + 1)) })

theorem deadline_of_base {b : Nat} (h : s.base k l = some b) (hu : b ≤ u) :
    deadline l k u s = joinLane l (passDeadline l k b u s) := by
  simp only [deadline, h, if_neg (Nat.not_lt.mpr hu)]
  rfl

end

/-- Settles O43: the queue's split at the unit due, and the slots that a deadline passes. -/
theorem unitDueAnswers : Obligations.UnitDueAnswers := by
  intro s l k u
  obtain ⟨hother, hslots⟩ := unitDue_frame l k u s
  refine ⟨unitDue_of_empty, fun q rest hq hk hu => ?_, fun q rest => unitDue_of_missing, fun before q rest => unitDue_of_found, hother,
    hslots, deadline_of_no_base, fun b => deadline_of_passed, fun b hb hbu => ?_⟩
  · obtain ⟨hdue, hqueue, hpool, -⟩ := unitDue_of_found (before := []) (s := s) (k := k) (u := u) hq (by simp) hk hu
    exact ⟨hdue, hqueue, hpool⟩
  · have hreports := emptySlots_reports l (passedSlot k b u) noteDiscarded s
    have hbase : (emptySlots l (passedSlot k b u) noteDiscarded s).base k l = some b := by
      rw [State.base, State.wantedReel, hreports.wanted_eq]
      exact hb
    have hsame : ∀ j m, (emptySlots l (passedSlot k b u) noteDiscarded s).base j m = s.base j m := fun j m => by
      rw [State.base, State.wantedReel, hreports.wanted_eq]; rfl
    refine ⟨passDeadline l k b u s, deadline_of_base hb hbu, ?_, fun j m hjm => ?_, ?_, fun m hm => ?_, ?_, hreports.buffer_eq⟩
    · rw [passDeadline, base_moveBase hbase, if_pos ⟨rfl, rfl⟩]
    · rw [passDeadline, base_moveBase hbase, if_neg (by rintro ⟨rfl, rfl⟩; simp at hjm), hsame]
    · exact (emptySlots_laneSlots l l _ _ s).trans (if_pos rfl)
    · exact (emptySlots_laneSlots l m _ _ s).trans (if_neg hm)
    · change (emptySlots l (passedSlot k b u) noteDiscarded s).counters.discarded = _
      rw [hreports.counters_eq]
      rfl

/-! ## The store -/

/-- A record written in its place stands beside the records of the other places (R140). -/
theorem mem_writeRecord {r x : LogRecord} {log : List LogRecord} :
    x ∈ writeRecord r log ↔ x = r ∨ (x ∈ log ∧ x.place ≠ r.place) := by
  simp [writeRecord, mem_insertBy]

/-- Settles O53, field by field of what the entry covers. -/
theorem storeWriteContents : Obligations.StoreWriteContents := by
  intro n e header
  have hunmarked : ∀ (log : List LogRecord), e.marks = [] →
      log.map (fun r => if e.marks.contains r.number then { r with exported := true } else r) = log := by
    intro log h
    simp [h]
  refine ⟨rfl, rfl, fun i p hp => ?_, fun j hj => ?_, fun hm r hr x => ?_, fun hm hr => ?_, fun hr => ?_⟩
  · simp only [NvStore.write, hp]
    simp
  · unfold NvStore.write
    cases hp : e.place with
    | none => rfl
    | some ip =>
      have hne : ip.1.val ≠ j.val := fun h => hj ip.1 ip.2 hp (Fin.ext h)
      simp [hne]
  · simp only [NvStore.write, hr, hunmarked _ hm]
    exact mem_writeRecord
  · simp only [NvStore.write, hr, hunmarked _ hm]
  · simp only [NvStore.write, hr]

/-- The end of a close entry's write: the record takes its closed form and the part returns to IDLE (R91, R136). -/
theorem reportWrite_of_close {e : StoreEntry} (hk : e.kind = .close) {r : LogRecord} (hr : e.record = some r) (ok : Bool) (s : State) :
    reportWrite e ok s = returnIdle (s.setRecord r) := by
  unfold reportWrite
  rw [hk, hr]

/-- The end of another entry's write sends the reply that it owes (R140). -/
theorem reportWrite_of_owed {e : StoreEntry} (hk : e.kind ≠ .close ∧ e.kind ≠ .reconciliation) {o : Owed} (ho : e.owed = some o)
    (ok : Bool) (s : State) : reportWrite e ok s = reply o.code o.tag (o.results.withWrite ok) s := by
  obtain ⟨hclose, hrec⟩ := hk
  unfold reportWrite
  split
  next h => exact absurd h hclose
  next h => exact absurd h hrec
  next => rw [ho]

theorem reportWrite_of_not_owed {e : StoreEntry} (hk : e.kind ≠ .close ∧ e.kind ≠ .reconciliation) (ho : e.owed = none)
    (ok : Bool) (s : State) : reportWrite e ok s = s := by
  obtain ⟨hclose, hrec⟩ := hk
  unfold reportWrite
  split
  next h => exact absurd h hclose
  next h => exact absurd h hrec
  next => rw [ho]

/-- The context that the return to IDLE empties, before IDLE is entered (R91). -/
def emptyContext (i : Fin 4) (c : Composition) (s : State) : State :=
  { s with
    comps := s.comps.set i (.loaded c), timeline := Timeline.reset,
    counting := { s.counting with bound := none, point := none, charged := false } }

theorem returnIdle_of_slot {s : State} {i : Fin 4} {c : Composition} (hslot : s.timeline.slot = some i) (hc : s.comps[i] = .inUse c) :
    returnIdle s = occur .showingEnded (enterState .idle (emptyContext i c s)) := by
  simp only [returnIdle, hslot, hc]
  rfl

theorem enterState_event (st : ShowState) (s : State) {k : EventKind} (h : k ≠ .actionOverflow) :
    (enterState st s).event k = s.event k := by
  obtain ⟨frame, hframe⟩ := enterState_eq st s
  rw [hframe, event_fireTrigger _ _ _ h]
  rfl

/-- Settles O52: the head leaves, STORE_FAULT follows, and the source is told. -/
theorem storeWriteEnds : Obligations.StoreWriteEnds := by
  intro ok s e rest hrun hq
  have hreports := settleHead_reports ok e rest s
  refine ⟨settleHead ok e rest s, (next_running hrun _).trans (by rw [endWrite_of_head hq]), by rw [hreports.counting_eq],
    hreports.store_eq, isAsserted_setLevel _ (by decide) _, ?_, fun hk howed => ?_, fun hk o howed => ?_,
    fun hk => reportWrite_of_reconciliation hk _, fun hk r i c hr hslot hc => ?_⟩
  · rw [hreports.store_eq]
    exact hreports
  · exact reportWrite_of_not_owed (by rcases hk with hk | hk <;> simp [hk]) howed ok _
  · exact reportWrite_of_owed (by rcases hk with hk | hk <;> simp [hk]) howed ok _
  · generalize hu : (settleHead ok e rest s).setRecord r = u
    have hidle : reportWrite e ok (settleHead ok e rest s) = occur .showingEnded (enterState .idle (emptyContext i c u)) := by
      rw [reportWrite_of_close hk hr, hu, returnIdle_of_slot]
      · rw [← hu, setRecord_timeline, hreports.timeline_eq]; exact hslot
      · rw [← hu, setRecord_comps, hreports.comps_eq]; exact hc
    have hoccur := occur_reports .showingEnded (enterState .idle (emptyContext i c u))
    have hcomps : (enterState .idle (emptyContext i c u)).comps = u.comps.set i (.loaded c) :=
      (enterState_show (emptyContext i c u) .idle).fields.2.2.2.1
    have hlog : u.counting.log = s.counting.log.map (fun x => if x.number = r.number then r else x) := by
      rw [← hu, State.setRecord, hreports.counting_eq]
    have hevent : u.event .showingEnded = s.event .showingEnded := by
      rw [← hu]
      change (settleHead ok e rest s).event .showingEnded = _
      rw [settleHead, event_setLevel_of_ne _ (by decide) (by decide)]
      rfl
    rw [hidle, hoccur.timeline_eq, hoccur.comps_eq, hoccur.counting_eq, enterState_timeline, hcomps, enterState_counting,
      occur_count _ (by decide), enterState_event _ _ (by decide)]
    exact ⟨rfl, by simp, rfl, hlog, by rw [← hevent]; rfl⟩

/-! ## The held picture and the limits -/

/-- Settles O47: the resend is one change of Picture Output. -/
theorem heldPictureSentAgain : Obligations.HeldPictureSentAgain := by
  intro s row hrun hstate hrow
  refine (next_running hrun _).trans ?_
  rw [resendPicture, if_pos hstate, hrow]
  rfl

end Sys2Proof.Machine

/-! PROOF. Joining: the units that a lane joins, one after another, and what a reel that leaves the wanted set leaves (R18, R19, R31). -/

namespace Sys2Proof.Machine

/-! ## What the Cue Engine makes of a block -/

section

variable {s t : State}

/-- The Cue Engine's tables and its counters of units follow from its own state and the timeline. -/
theorem acceptCue_reads (hc : t.cues = s.cues) (ht : t.timeline = s.timeline) (i : Fin 4) (e : CueEntry) :
    (acceptCue i e t).cues = (acceptCue i e s).cues := by
  have htable : t.cueTable i = s.cueTable i := by rw [State.cueTable, hc]; rfl
  have hlate : t.cueLate e = s.cueLate e := by rw [State.cueLate, hc, ht]; rfl
  have hoccur : ∀ (u : State) (k : EventKind), (occur k u).cues = u.cues := fun u k => (occur_reports k u).cues_eq
  unfold acceptCue dropLate
  simp only [htable, hlate, ht]
  split
  · exact hc
  split
  · rw [hoccur, hoccur]; exact hc
  split
  · rw [hoccur, hoccur]; exact hc
  · split <;> simp only [hoccur, count_cues, setCueTable_cues, hc]

theorem readCue_reads (hc : t.cues = s.cues) (ht : t.timeline = s.timeline) (i : Fin 4) (k : Nat) (row : ReelRow) (track : TextTrack)
    (c : RawCue) : (readCue i k row track c t).cues = (readCue i k row track c s).cues := by
  have hoccur : ∀ (u : State) (k : EventKind), (occur k u).cues = u.cues := fun u k => (occur_reports k u).cues_eq
  unfold readCue dropLate
  simp only [hc]
  split
  · exact hc
  split
  · exact hc
  split
  · exact hc
  split
  · rw [hoccur, hoccur]; exact hc
  · exact acceptCue_reads hc ht i _

end

theorem readCue_timeline (i : Fin 4) (k : Nat) (row : ReelRow) (track : TextTrack) (c : RawCue) (s : State) :
    (readCue i k row track c s).timeline = s.timeline := by
  rw [show readCue i k row track c s = _ from readCue_cuesFrom i k row track c s]

theorem readCues_reads (i : Fin 4) (k : Nat) (row : ReelRow) (track : TextTrack) : ∀ (n : Nat) (bs : List Byte) {s t : State},
    t.cues = s.cues → t.timeline = s.timeline → (readCues i k row track n bs t).cues = (readCues i k row track n bs s).cues
  | 0, _, _, _, hc, _ => hc
  | n + 1, bs, s, t, hc, ht => by
    unfold readCues
    split
    · exact hc
    · exact readCues_reads i k row track n _ (readCue_reads hc ht i k row track _)
        (by rw [readCue_timeline, readCue_timeline, ht])

theorem takeCueBlock_reads {s t : State} (hc : t.cues = s.cues) (ht : t.timeline = s.timeline) (i : Fin 4) (u : UnitRec) :
    (takeCueBlock i u t).cues = (takeCueBlock i u s).cues := by
  have hrow : t.row u.reel = s.row u.reel := by rw [State.row, ht]; rfl
  unfold takeCueBlock
  rw [hrow]
  split
  · exact hc
  split
  · exact hc
  split
  · exact readCues_reads i _ _ _ _ _ hc ht
  · exact hc

/-- The counter of assembled units is none of the Cue Engine's. -/
theorem occur_assembled (k : EventKind) (s : State) : (occur k s).counters.assembled = s.counters.assembled := by
  rw [(occur_reports k s).counters_eq]

theorem acceptCue_assembled (i : Fin 4) (e : CueEntry) (s : State) :
    (acceptCue i e s).counters.assembled = s.counters.assembled := by
  unfold acceptCue dropLate
  dsimp only
  split
  · rfl
  split
  · exact occur_assembled _ _
  split
  · exact occur_assembled _ _
  split
  · exact occur_assembled _ _
  · rfl

theorem readCue_assembled (i : Fin 4) (k : Nat) (row : ReelRow) (track : TextTrack) (c : RawCue) (s : State) :
    (readCue i k row track c s).counters.assembled = s.counters.assembled := by
  unfold readCue dropLate
  dsimp only
  split
  · rfl
  split
  · rfl
  split
  · rfl
  split
  · exact occur_assembled _ _
  · exact acceptCue_assembled i _ s

theorem readCues_assembled (i : Fin 4) (k : Nat) (row : ReelRow) (track : TextTrack) : ∀ (n : Nat) (bs : List Byte) (s : State),
    (readCues i k row track n bs s).counters.assembled = s.counters.assembled
  | 0, _, _ => rfl
  | n + 1, bs, s => by
    unfold readCues
    split
    · rfl
    · rw [readCues_assembled, readCue_assembled]

theorem takeCueBlock_assembled (i : Fin 4) (u : UnitRec) (s : State) :
    (takeCueBlock i u s).counters.assembled = s.counters.assembled := by
  unfold takeCueBlock
  split
  · rfl
  split
  · rfl
  split
  · exact readCues_assembled i _ _ _ _ _ s
  · rfl

/-! ## One unit joins -/

section

variable (l : Lane) (x : AsmSlot) (s : State)

theorem leaveSlot_wanted : (leaveSlot l x s).wanted =
    s.wanted.map (fun w => if w.index = x.reel then { w with bases := w.bases.set l (some (x.unit + 1)) } else w) := rfl

theorem joinUnit_wanted : (joinUnit l x s).wanted = (leaveSlot l x s).wanted := by
  rw [joinUnit_eq]
  cases l with
  | txt i =>
    simp only []
    rw [(returnBlocks_reports _ _).wanted_eq]
    exact (takeCueBlock_cuesFrom i x.record _).fields.1
  | pic i => rfl
  | snd i => rfl

theorem joinUnit_assembled : (joinUnit l x s).counters.assembled = min 4294967295 (s.counters.assembled + 1) := by
  rw [joinUnit_eq]
  cases l with
  | txt i =>
    simp only []
    rw [(returnBlocks_reports _ _).counters_eq]
    exact takeCueBlock_assembled i x.record _
  | pic i => rfl
  | snd i => rfl

theorem joinUnit_base_self {b : Nat} (h : s.base x.reel l = some b) : (joinUnit l x s).base x.reel l = some (x.unit + 1) := by
  rw [State.base, State.wantedReel, joinUnit_wanted]
  exact (base_moveBase h (x.unit + 1) x.reel l).trans (if_pos ⟨rfl, rfl⟩)

theorem joinUnit_base_other {k : Nat} {m : Lane} (h : k ≠ x.reel ∨ m ≠ l) : (joinUnit l x s).base k m = s.base k m := by
  rw [State.base, State.wantedReel, joinUnit_wanted]
  refine Eq.trans (b := (s.editWanted x.reel (fun w => { w with bases := w.bases.set l (some (x.unit + 1)) })).base k m) rfl ?_
  rw [State.base, wantedReel_editWanted (f := fun w => { w with bases := w.bases.set l (some (x.unit + 1)) }) (fun _ => rfl), State.base]
  cases hw : s.wantedReel k with
  | none => rfl
  | some w =>
    have hidx := wantedReel_index hw
    rw [Option.map_some, Option.bind_some, Option.bind_some]
    split
    · rw [Lanes.get_set, if_neg]
      rcases h with h | h
      · omega
      · exact h
    · rfl

/-- A join on one lane leaves what another lane's joining reads. -/
theorem joinUnit_joiner {m : Lane} (h : m ≠ l) : (joinUnit l x s).joiner m = s.joiner m := by
  have hslots : (joinUnit l x s).laneSlots m = s.laneSlots m := by rw [joinUnit_laneSlots, if_neg h]
  have hget : ∀ w : Wanted, (if w.index = x.reel then { w with bases := w.bases.set l (some (x.unit + 1)) } else w).bases.get m =
      w.bases.get m := fun w => by
    split
    · exact (Lanes.get_set _ _ _ _).trans (if_neg h)
    · rfl
  have hindex : ∀ w : Wanted, (if w.index = x.reel then { w with bases := w.bases.set l (some (x.unit + 1)) } else w).index =
      w.index := fun w => by split <;> rfl
  have hreel : ∀ w : Wanted, (if w.index = x.reel then { w with bases := w.bases.set l (some (x.unit + 1)) } else w).reel =
      w.reel := fun w => by split <;> rfl
  have hturns : (joinUnit l x s).turns m = (s.turns m).map (fun w => if w.index = x.reel then
      { w with bases := w.bases.set l (some (x.unit + 1)) } else w) := by
    unfold State.turns
    rw [joinUnit_wanted, leaveSlot_wanted]
    simp only [List.filter_map, Function.comp_def, hget, hreel]
    cases m <;> simp only [List.map_take]
  rw [State.joiner, State.joiner, hturns, hslots, List.findSome?_map]
  simp only [Function.comp_def, hget, hindex]

end

/-! ## A run of joins -/

/-- The slots that a lane's joining test empties, one after another (R31). -/
def joinedRun (l : Lane) : Nat → State → List AsmSlot
  | 0, _ => []
  | n + 1, s =>
    match s.joiner l with
    | some x => x :: joinedRun l n (joinUnit l x s)
    | none => []

section

variable {l : Lane} {s : State} {n : Nat}

theorem joinRun_of_joiner {x : AsmSlot} (h : s.joiner l = some x) : joinRun l (n + 1) s = joinRun l n (joinUnit l x s) := by
  rw [joinRun, h]

theorem joinRun_of_none (h : s.joiner l = none) : joinRun l n s = s := by
  cases n with
  | zero => rfl
  | succ n => rw [joinRun, h]

theorem joinedRun_of_joiner {x : AsmSlot} (h : s.joiner l = some x) :
    joinedRun l (n + 1) s = x :: joinedRun l n (joinUnit l x s) := by rw [joinedRun, h]

theorem joinedRun_of_none (h : s.joiner l = none) : joinedRun l n s = [] := by
  cases n with
  | zero => rfl
  | succ n => rw [joinedRun, h]

theorem joiner_of_no_slots (h : s.laneSlots l = []) : s.joiner l = none := by
  cases hj : s.joiner l with
  | none => rfl
  | some x =>
    have hx := (joiner_some hj).1
    rw [h] at hx
    cases hx

/-- A join empties a slot of its lane. -/
theorem joinUnit_slots_length {x : AsmSlot} (h : x ∈ s.laneSlots l) :
    ((joinUnit l x s).laneSlots l).length < (s.laneSlots l).length := by
  rw [joinUnit_laneSlots, if_pos rfl]
  exact List.length_filter_lt_length_iff_exists.mpr ⟨x, h, by simp [AsmSlot.sameUnit]⟩

/-- With a join for each slot the run ends where nothing more joins (R31). -/
theorem joinRun_joiner : ∀ (n : Nat) (s : State), (s.laneSlots l).length ≤ n → (joinRun l n s).joiner l = none
  | 0, s, h => joiner_of_no_slots (List.length_eq_zero_iff.mp (Nat.le_zero.mp h))
  | n + 1, s, h => by
    cases hj : s.joiner l with
    | none => rw [joinRun_of_none hj]; exact hj
    | some x =>
      have hlt := joinUnit_slots_length (joiner_some hj).1
      rw [joinRun_of_joiner hj]
      exact joinRun_joiner n _ (by omega)

/-- More turns than a lane can take change nothing. -/
theorem joinRun_enough : ∀ (n : Nat) (s : State), (s.laneSlots l).length ≤ n → joinRun l n s = joinLane l s
  | 0, s, h => by
    rw [joinLane, Nat.le_zero.mp h]
  | n + 1, s, h => by
    cases hj : s.joiner l with
    | none => rw [joinLane, joinRun_of_none hj, joinRun_of_none hj]
    | some x =>
      have hlt := joinUnit_slots_length (joiner_some hj).1
      obtain ⟨m, hm⟩ : ∃ m, (s.laneSlots l).length = m + 1 := ⟨(s.laneSlots l).length - 1, by omega⟩
      rw [joinLane, hm, joinRun_of_joiner hj, joinRun_of_joiner hj, joinRun_enough n _ (by omega), joinRun_enough m _ (by omega)]

theorem joinLane_of_joiner {x : AsmSlot} (h : s.joiner l = some x) : joinLane l s = joinLane l (joinUnit l x s) := by
  have hlt := joinUnit_slots_length (joiner_some h).1
  rw [← joinRun_enough ((s.laneSlots l).length + 1) s (by omega), joinRun_of_joiner h, joinRun_enough _ _ (by omega)]

/-- A property of the state that every join keeps holds after a run of them. -/
theorem joinRun_induction {P : State → State → Prop} (hrefl : ∀ s, P s s)
    (hstep : ∀ s x t, x ∈ s.laneSlots l → P (joinUnit l x s) t → P s t) : ∀ (n : Nat) (s : State), P s (joinRun l n s)
  | 0, s => hrefl s
  | n + 1, s => by
    cases hj : s.joiner l with
    | none => rw [joinRun_of_none hj]; exact hrefl s
    | some x =>
      rw [joinRun_of_joiner hj]
      exact hstep s x _ (joiner_some hj).1 (joinRun_induction hrefl hstep n _)

/-- A lane's joining test leaves the other lanes, and what they join. -/
theorem joinLane_other (s : State) {m : Lane} (h : m ≠ l) : (joinLane l s).queue m = s.queue m ∧
    (joinLane l s).laneSlots m = s.laneSlots m ∧ (joinLane l s).joiner m = s.joiner m := by
  refine joinRun_induction (P := fun s t => t.queue m = s.queue m ∧ t.laneSlots m = s.laneSlots m ∧ t.joiner m = s.joiner m)
    (fun _ => ⟨rfl, rfl, rfl⟩) (fun s x t _ ht => ?_) _ s
  obtain ⟨hq, hs, hj⟩ := ht
  rw [joinUnit_queue, if_neg (fun h' => h h'.1)] at hq
  rw [joinUnit_laneSlots, if_neg h] at hs
  rw [joinUnit_joiner _ _ _ h] at hj
  exact ⟨hq, hs, hj⟩

theorem joinedRun_mem : ∀ (n : Nat) (s : State), ∀ x ∈ joinedRun l n s, x ∈ s.laneSlots l ∧ x.complete = true
  | 0, _, _, h => by cases h
  | n + 1, s, y, h => by
    cases hj : s.joiner l with
    | none => rw [joinedRun_of_none hj] at h; cases h
    | some x =>
      rw [joinedRun_of_joiner hj] at h
      obtain ⟨hx, hcomplete, -⟩ := joiner_some hj
      rcases List.mem_cons.mp h with rfl | h
      · exact ⟨hx, hcomplete⟩
      · obtain ⟨hy, hc⟩ := joinedRun_mem n _ y h
        rw [joinUnit_laneSlots, if_pos rfl] at hy
        exact ⟨(List.mem_filter.mp hy).1, hc⟩

/-- The slots that are left: those of no unit that has joined (R31). -/
theorem joinRun_laneSlots : ∀ (n : Nat) (s : State), (joinRun l n s).laneSlots l =
    (s.laneSlots l).filter (fun y => !(joinedRun l n s).any (fun x => x.sameUnit y))
  | 0, s => (List.filter_eq_self.mpr fun _ _ => rfl).symm
  | n + 1, s => by
    cases hj : s.joiner l with
    | none =>
      rw [joinRun_of_none hj, joinedRun_of_none hj]
      exact (List.filter_eq_self.mpr fun _ _ => rfl).symm
    | some x =>
      rw [joinRun_of_joiner hj, joinedRun_of_joiner hj, joinRun_laneSlots n, joinUnit_laneSlots, if_pos rfl, List.filter_filter]
      refine List.filter_congr fun y _ => ?_
      rw [List.any_cons, Bool.not_or, Bool.and_comm]

/-- Off the text lanes the units that join go to the tail of the queue, in the order of joining, and no block returns (R31). -/
theorem joinRun_queue (hl : ∀ i, l ≠ .txt i) : ∀ (n : Nat) (s : State),
    (joinRun l n s).queue l = s.queue l ++ (joinedRun l n s).map AsmSlot.record ∧ (joinRun l n s).buffer.pool = s.buffer.pool
  | 0, s => by simp [joinRun, joinedRun]
  | n + 1, s => by
    cases hj : s.joiner l with
    | none => rw [joinRun_of_none hj, joinedRun_of_none hj]; simp
    | some x =>
      obtain ⟨hq, hp⟩ := joinRun_queue hl n (joinUnit l x s)
      have hpool : (joinUnit l x s).buffer.pool = s.buffer.pool := by
        rw [joinUnit_pool]
        cases l with
        | txt i => exact absurd rfl (hl i)
        | _ => rfl
      rw [joinRun_of_joiner hj, joinedRun_of_joiner hj, hq, hp, hpool, joinUnit_queue, if_pos ⟨rfl, hl⟩]
      exact ⟨by simp, rfl⟩

theorem joinRun_assembled : ∀ (n : Nat) (s : State), joinedRun l n s ≠ [] →
    (joinRun l n s).counters.assembled = min 4294967295 (s.counters.assembled + (joinedRun l n s).length)
  | 0, _, h => absurd rfl h
  | n + 1, s, h => by
    cases hj : s.joiner l with
    | none => rw [joinedRun_of_none hj] at h; exact absurd rfl h
    | some x =>
      rw [joinRun_of_joiner hj, joinedRun_of_joiner hj, List.length_cons]
      by_cases hrest : joinedRun l n (joinUnit l x s) = []
      · have hstay : joinRun l n (joinUnit l x s) = joinUnit l x s := by
          cases n with
          | zero => rfl
          | succ n =>
            cases hj' : (joinUnit l x s).joiner l with
            | none => exact joinRun_of_none hj'
            | some y => rw [joinedRun_of_joiner hj'] at hrest; cases hrest
        rw [hstay, hrest, joinUnit_assembled]
        rfl
      · rw [joinRun_assembled n _ hrest, joinUnit_assembled]
        omega

/-- The bases of a reel's members lie above a unit. -/
def basesAbove (l : Lane) (k u : Nat) (s : State) : Prop := ∀ w ∈ s.wanted, w.index = k → ∀ b, w.bases.get l = some b → u < b

theorem mem_turns_wanted {w : Wanted} (h : w ∈ s.turns l) : w ∈ s.wanted := by
  unfold State.turns at h
  dsimp only at h
  split at h
  · exact (List.mem_filter.mp h).1
  · exact (List.mem_filter.mp (List.mem_filter.mp (List.mem_of_mem_take h)).1).1

/-- A unit that joins lies at or above the bases of its reel, and leaves them above it. -/
theorem joinUnit_basesAbove {k u : Nat} {x : AsmSlot} (hj : s.joiner l = some x) (h : basesAbove l k u s) :
    basesAbove l k u (joinUnit l x s) := by
  obtain ⟨-, -, v, hv, hvk, hvb⟩ := joiner_some hj
  intro w hw hk b hb
  rw [joinUnit_wanted, leaveSlot_wanted, List.mem_map] at hw
  obtain ⟨w0, hw0, rfl⟩ := hw
  by_cases hreel : w0.index = x.reel
  · rw [if_pos hreel] at hk hb
    have hvu := h v (mem_turns_wanted hv) (by rw [hvk, ← hreel]; exact hk) x.unit hvb
    simp only [Lanes.get_set_self, Option.some.injEq] at hb
    omega
  · rw [if_neg hreel] at hk hb
    exact h w0 hw0 hk b hb

theorem joinUnit_basesAbove_self (x : AsmSlot) : basesAbove l x.reel x.unit (joinUnit l x s) := by
  intro w hw hk b hb
  rw [joinUnit_wanted, leaveSlot_wanted, List.mem_map] at hw
  obtain ⟨w0, hw0, rfl⟩ := hw
  by_cases hreel : w0.index = x.reel
  · rw [if_pos hreel] at hb
    simp only [Lanes.get_set_self, Option.some.injEq] at hb
    omega
  · rw [if_neg hreel] at hk
    exact absurd hk hreel

theorem joinedRun_above : ∀ (n : Nat) (s : State) {k u : Nat}, basesAbove l k u s → ∀ x ∈ joinedRun l n s, x.reel = k → u < x.unit
  | 0, _, _, _, _, _, h, _ => by cases h
  | n + 1, s, k, u, habove, y, h, hk => by
    cases hj : s.joiner l with
    | none => rw [joinedRun_of_none hj] at h; cases h
    | some x =>
      rw [joinedRun_of_joiner hj] at h
      rcases List.mem_cons.mp h with rfl | h
      · obtain ⟨-, -, w, hw, hwk, hwb⟩ := joiner_some hj
        exact habove w (mem_turns_wanted hw) (hwk.trans hk) _ hwb
      · exact joinedRun_above n _ (joinUnit_basesAbove hj habove) y h hk

/-- The units of a reel join in rising unit number (R31). -/
theorem joinedRun_rising : ∀ (n : Nat) (s : State), (joinedRun l n s).Pairwise (fun x y => x.reel = y.reel → x.unit < y.unit)
  | 0, _ => List.Pairwise.nil
  | n + 1, s => by
    cases hj : s.joiner l with
    | none => rw [joinedRun_of_none hj]; exact List.Pairwise.nil
    | some x =>
      rw [joinedRun_of_joiner hj]
      refine List.Pairwise.cons (fun y hy hreel => ?_) (joinedRun_rising n _)
      exact joinedRun_above n _ (joinUnit_basesAbove_self x) y hy hreel.symm

/-! ## The reels in turn -/

/-- Nothing joins exactly where no reel in turn has its base unit complete (R31). -/
theorem joiner_eq_none_iff : s.joiner l = none ↔
    ∀ w ∈ s.turns l, ∀ x ∈ s.laneSlots l, x.reel = w.index → w.bases.get l = some x.unit → x.complete = false := by
  rw [State.joiner, List.findSome?_eq_none_iff]
  refine forall₂_congr fun w _ => ?_
  rw [List.find?_eq_none]
  refine forall₂_congr fun x _ => ?_
  simp only [Bool.and_eq_true, decide_eq_true_eq, not_and]
  constructor
  · intro h hr hb
    refine Classical.byContradiction fun hc => ?_
    exact h ⟨by simpa using hc, hr⟩ hb
  · rintro h ⟨hc, hr⟩ hb
    rw [h hr hb] at hc
    cases hc

/-- Whether a reel has not finished on a lane that it names (R31). -/
def Wanted.unfinishedOn (w : Wanted) (l : Lane) : Bool := ((w.bases.get l).map (fun b => decide (b < w.reel.dur))).getD false

theorem turns_of_not_text (hl : ∀ i, l ≠ .txt i) : s.turns l = (s.wanted.filter (fun w => w.unfinishedOn l)).take 1 := by
  have hboth : (s.wanted.filter (fun w => (w.bases.get l).isSome)).filter (fun w => w.unfinishedOn l) =
      s.wanted.filter (fun w => w.unfinishedOn l) := by
    rw [List.filter_filter]
    refine List.filter_congr fun w _ => ?_
    unfold Wanted.unfinishedOn
    cases w.bases.get l <;> simp
  rw [← hboth]
  unfold State.turns
  cases l with
  | txt i => exact absurd rfl (hl i)
  | _ => rfl

theorem not_unfinishedOn {w : Wanted} (h : ¬ w.unfinishedOn l = true) {b : Nat} (hb : w.bases.get l = some b) : w.reel.dur ≤ b := by
  simpa [Wanted.unfinishedOn, hb] using h

/-- Off the text lanes the reel in turn is the first that has not finished on the lane (R31). -/
theorem mem_turns_of_not_text (hl : ∀ i, l ≠ .txt i) {w : Wanted} (h : w ∈ s.turns l) :
    (∃ b, w.bases.get l = some b ∧ b < w.reel.dur) ∧
    ∃ before after, s.wanted = before ++ w :: after ∧ ∀ v ∈ before, ∀ b, v.bases.get l = some b → v.reel.dur ≤ b := by
  rw [turns_of_not_text hl] at h
  cases hf : s.wanted.filter (fun w => w.unfinishedOn l) with
  | nil => rw [hf] at h; cases h
  | cons v rest =>
    rw [hf] at h
    obtain rfl : w = v := by simpa using h
    obtain ⟨before, after, hsplit, hbefore, hw, -⟩ := List.filter_eq_cons_iff.mp hf
    refine ⟨?_, before, after, hsplit, fun v hv b hb => not_unfinishedOn (hbefore v hv) hb⟩
    cases hb : w.bases.get l with
    | none => simp [Wanted.unfinishedOn, hb] at hw
    | some b => exact ⟨b, rfl, by simpa [Wanted.unfinishedOn, hb] using hw⟩

end

/-! ## A reel leaves -/

/-- The slots of a reel that leaves are emptied on every lane (R19). -/
def clearReel (k : Nat) (s : State) : State :=
  allLanes.foldl (fun s l => emptySlots l (fun x => decide (x.reel = k)) noteAbandoned s)
    { s with wanted := s.wanted.filter (fun w => decide (w.index ≠ k)) }

theorem removeReel_eq (k : Nat) (s : State) : removeReel k s = joinTurns (clearReel k s) := rfl

theorem foldl_emptySlots (k : Nat) : ∀ (ls : List Lane) (s : State), ls.Nodup → ∀ m,
    (ls.foldl (fun s l => emptySlots l (fun x => decide (x.reel = k)) noteAbandoned s) s).laneSlots m =
      (if m ∈ ls then (s.laneSlots m).filter (fun x => decide (x.reel ≠ k)) else s.laneSlots m) ∧
    (ls.foldl (fun s l => emptySlots l (fun x => decide (x.reel = k)) noteAbandoned s) s).queue m = s.queue m
  | [], _, _, _ => by simp
  | a :: ls, s, hnodup, m => by
    obtain ⟨ha, hls⟩ := List.nodup_cons.mp hnodup
    obtain ⟨hslots, hqueue⟩ := foldl_emptySlots k ls (emptySlots a (fun x => decide (x.reel = k)) noteAbandoned s) hls m
    rw [List.foldl_cons, hslots, hqueue, emptySlots_queue, emptySlots_laneSlots]
    refine ⟨?_, rfl⟩
    by_cases hm : m = a
    · subst hm
      simp [ha]
    · simp [hm]

theorem clearReel_lane (k : Nat) (s : State) (m : Lane) :
    (clearReel k s).laneSlots m = (s.laneSlots m).filter (fun x => decide (x.reel ≠ k)) ∧ (clearReel k s).queue m = s.queue m := by
  obtain ⟨hslots, hqueue⟩ := foldl_emptySlots k allLanes { s with wanted := s.wanted.filter (fun w => decide (w.index ≠ k)) }
    nodup_allLanes m
  rw [if_pos (mem_allLanes m)] at hslots
  exact ⟨hslots, hqueue⟩

/-- The joining tests of other lanes, as one lane sees them. -/
theorem foldl_joinLane_other {m : Lane} : ∀ (ls : List AvLane) (s : State), (∀ a ∈ ls, m ≠ avToLane a) →
    (ls.foldl (fun s l => joinLane (avToLane l) s) s).queue m = s.queue m ∧
    (ls.foldl (fun s l => joinLane (avToLane l) s) s).laneSlots m = s.laneSlots m ∧
    (ls.foldl (fun s l => joinLane (avToLane l) s) s).joiner m = s.joiner m
  | [], _, _ => ⟨rfl, rfl, rfl⟩
  | a :: ls, s, hne => by
    obtain ⟨hq, hs, hj⟩ := joinLane_other s (hne a (List.mem_cons_self ..))
    obtain ⟨hq', hs', hj'⟩ := foldl_joinLane_other ls (joinLane (avToLane a) s) fun b hb => hne b (List.mem_cons_of_mem _ hb)
    exact ⟨hq'.trans hq, hs'.trans hs, hj'.trans hj⟩

theorem avToLane_injective {a b : AvLane} (h : avToLane a = avToLane b) : a = b := by
  cases a <;> cases b <;> cases h <;> rfl

/-- The joining tests of the picture and sound lanes, as one of them sees them: its own test, on its own slots and queue (R19). -/
theorem joinTurns_lane (a : AvLane) (s : State) : ∃ u : State,
    u.laneSlots (avToLane a) = s.laneSlots (avToLane a) ∧ u.queue (avToLane a) = s.queue (avToLane a) ∧
    (joinTurns s).queue (avToLane a) = (joinLane (avToLane a) u).queue (avToLane a) ∧
    (joinTurns s).laneSlots (avToLane a) = (joinLane (avToLane a) u).laneSlots (avToLane a) ∧
    (joinTurns s).joiner (avToLane a) = none := by
  obtain ⟨before, after, hsplit⟩ := List.append_of_mem (mem_avLanes a)
  have hnodup := nodup_avLanes
  rw [hsplit] at hnodup
  obtain ⟨-, hrest, hdisjoint⟩ := List.nodup_append.mp hnodup
  have hbefore : ∀ b ∈ before, avToLane a ≠ avToLane b := fun b hb h =>
    hdisjoint b hb a (List.mem_cons_self ..) (avToLane_injective h).symm
  have hafter : ∀ b ∈ after, avToLane a ≠ avToLane b := fun b hb h =>
    (List.nodup_cons.mp hrest).1 (avToLane_injective h ▸ hb)
  obtain ⟨hq, hs, -⟩ := foldl_joinLane_other before s hbefore
  generalize hu : before.foldl (fun s l => joinLane (avToLane l) s) s = u at hq hs
  obtain ⟨hq', hs', hj'⟩ := foldl_joinLane_other after (joinLane (avToLane a) u) hafter
  have hturns : joinTurns s = after.foldl (fun s l => joinLane (avToLane l) s) (joinLane (avToLane a) u) := by
    rw [joinTurns, hsplit, List.foldl_append, List.foldl_cons, hu]
  rw [hturns]
  exact ⟨u, hs, hq, hq', hs', hj'.trans (joinRun_joiner _ u (Nat.le_refl _))⟩

/-- Off the text lanes a lane is one of the picture and sound lanes. -/
theorem exists_avLane {l : Lane} (hl : ∀ i, l ≠ .txt i) : ∃ a, l = avToLane a := by
  cases l with
  | pic i => exact ⟨.pic i, rfl⟩
  | snd i => exact ⟨.snd i, rfl⟩
  | txt i => exact absurd rfl (hl i)

theorem removeReel_text (k : Nat) (i : Fin 4) (s : State) :
    (removeReel k s).laneSlots (.txt i) = (s.laneSlots (.txt i)).filter (fun x => decide (x.reel ≠ k)) ∧
    (removeReel k s).queue (.txt i) = s.queue (.txt i) := by
  obtain ⟨hslots, hqueue⟩ := clearReel_lane k s (.txt i)
  obtain ⟨hq, hs, -⟩ := foldl_joinLane_other (m := .txt i) avLanes (clearReel k s) (fun a _ => by cases a <;> simp [avToLane])
  exact ⟨hs.trans hslots, hq.trans hqueue⟩

/-- A lane after a reel has left: its complete base units have joined as their turn has come (R19, R31). -/
theorem removeReel_lane (k : Nat) (a : AvLane) (s : State) : (removeReel k s).joiner (avToLane a) = none ∧ ∃ joined : List AsmSlot,
    (removeReel k s).queue (avToLane a) = s.queue (avToLane a) ++ joined.map AsmSlot.record ∧
    (∀ x ∈ joined, x ∈ s.laneSlots (avToLane a) ∧ x.complete = true ∧ x.reel ≠ k) ∧
    (removeReel k s).laneSlots (avToLane a) =
      ((s.laneSlots (avToLane a)).filter (fun x => decide (x.reel ≠ k))).filter (fun y => !joined.any (fun x => x.sameUnit y)) := by
  have hl : ∀ i, avToLane a ≠ .txt i := fun i => by cases a <;> simp [avToLane]
  obtain ⟨hslots, hqueue⟩ := clearReel_lane k s (avToLane a)
  obtain ⟨u, hus, huq, hq, hs, hj⟩ := joinTurns_lane a (clearReel k s)
  rw [removeReel_eq]
  refine ⟨hj, joinedRun (avToLane a) (u.laneSlots (avToLane a)).length u, ?_, fun x hx => ?_, ?_⟩
  · rw [hq, joinLane, (joinRun_queue hl _ u).1, huq, hqueue]
  · obtain ⟨hmem, hcomplete⟩ := joinedRun_mem _ u x hx
    rw [hus, hslots] at hmem
    obtain ⟨hx', hk⟩ := List.mem_filter.mp hmem
    exact ⟨hx', hcomplete, by simpa using hk⟩
  · rw [hs, joinLane, joinRun_laneSlots, hus, hslots]

/-- Settles O14, by the run of joins that the joining test makes. -/
theorem unitsJoinInOrder : Obligations.UnitsJoinInOrder := by
  intro s l
  refine ⟨joinRun_joiner _ s (Nat.le_refl _), fun m hm => ?_, joinRun_of_none, fun x => joinLane_of_joiner, joiner_eq_none_iff,
    fun x => joiner_some, fun i hi => by rw [hi]; rfl, fun hl w => mem_turns_of_not_text hl, fun hl hnil w hw b hb => ?_,
    fun x => ⟨?_, joinUnit_assembled l x s, fun b hb => joinUnit_base_self l x s hb, fun k m h => joinUnit_base_other l x s h,
      fun hl => ⟨?_, ?_⟩, fun i hi => ?_⟩, fun hl => ?_, fun k i hi => by rw [hi]; exact removeReel_text k i s, fun k hl => ?_⟩
  · obtain ⟨hq, hs, -⟩ := joinLane_other (l := l) s hm
    exact ⟨hq, hs⟩
  · rw [turns_of_not_text hl] at hnil
    refine not_unfinishedOn (fun h => ?_) hb
    have hmem : w ∈ s.wanted.filter (fun w => w.unfinishedOn l) := List.mem_filter.mpr ⟨hw, h⟩
    have hempty : s.wanted.filter (fun w => w.unfinishedOn l) = [] := by simpa using hnil
    rw [hempty] at hmem
    cases hmem
  · rw [joinUnit_laneSlots, if_pos rfl]
    rfl
  · rw [joinUnit_queue, if_pos ⟨rfl, hl⟩]
    rfl
  · rw [joinUnit_pool]
    cases l with
    | txt i => exact absurd rfl (hl i)
    | _ => rfl
  · subst hi
    refine ⟨by rw [joinUnit_queue, if_neg (fun h => h.2 i rfl)], by rw [joinUnit_pool], ?_⟩
    rw [joinUnit_eq]
    simp only []
    rw [(returnBlocks_reports _ _).cues_eq]
    exact takeCueBlock_reads (s := s) (t := leaveSlot (.txt i) x s) rfl rfl i x.record
  · obtain ⟨hq, hp⟩ := joinRun_queue hl (s.laneSlots l).length s
    refine ⟨_, hq, hp, fun x hx => ?_, joinedRun_rising _ s, joinRun_assembled _ s⟩
    obtain ⟨hmem, hcomplete⟩ := joinedRun_mem _ s x hx
    refine ⟨hmem, hcomplete, fun hleft => ?_⟩
    rw [joinLane, joinRun_laneSlots, List.mem_filter] at hleft
    have hany : (joinedRun l (s.laneSlots l).length s).any (fun y => y.sameUnit x) = true :=
      List.any_eq_true.mpr ⟨x, hx, AsmSlot.sameUnit_iff.mpr rfl⟩
    simp [hany] at hleft
  · obtain ⟨a, rfl⟩ := exists_avLane hl
    obtain ⟨hj, joined, hq, hjoined, hslots⟩ := removeReel_lane k a s
    refine ⟨hj, joined, hq, hjoined, fun x hx hk => ?_⟩
    rw [hslots, List.mem_filter, List.mem_filter]
    by_cases hany : joined.any (fun y => y.sameUnit x) = true
    · obtain ⟨y, hy, hsame⟩ := List.any_eq_true.mp hany
      obtain ⟨hreel, hunit⟩ := Prod.mk.inj (AsmSlot.sameUnit_iff.mp hsame)
      exact .inr ⟨y, hy, hreel.symm, hunit.symm⟩
    · exact .inl ⟨⟨hx, by simpa using hk⟩, by simpa using hany⟩

end Sys2Proof.Machine

/-! PROOF. The wanted set's additions and removals, and the Unit Assembler (R17 to R19, R22 to R30). -/

namespace Sys2Proof.Machine

/-! ## Members -/

/-- What names a member of the wanted set. -/
def Wanted.key (w : Wanted) : Nat × Nat × Reel := (w.comp, w.index, w.reel)

/-- The bases of a reel that joins the wanted set (R17, R18). -/
def State.newBases (s : State) (k : Nat) (r : Reel) : Lanes (Option Nat) :=
  r.lanes.foldl (fun b l => b.set l (some (s.firstBase k r l))) (Lanes.all none)

theorem foldl_setBase {f : Lane → Nat} (l : Lane) : ∀ (ls : List Lane) (b : Lanes (Option Nat)),
    (ls.foldl (fun b l => b.set l (some (f l))) b).get l = if l ∈ ls then some (f l) else b.get l
  | [], b => by simp
  | a :: ls, b => by
    rw [List.foldl_cons, foldl_setBase l ls, Lanes.get_set]
    by_cases h : l = a
    · subst h; simp
    · simp [h]

theorem newBases_get (s : State) (k : Nat) (r : Reel) (l : Lane) :
    (s.newBases k r).get l = if l ∈ r.lanes then some (s.firstBase k r l) else none := by
  rw [State.newBases, foldl_setBase, Lanes.get_all]

/-- The member that a reel becomes as it joins the wanted set (R17, R18). -/
def State.newMember (s : State) (k : Nat) (r : Reel) : Wanted :=
  { comp := s.boundIdent, index := k, reel := r, finished := false, bases := s.newBases k r }

theorem addReel_of_row {s : State} {k : Nat} {row : ReelRow} (h : s.row k = some row) :
    addReel k s = queueReport (.want s.boundIdent k row.reel.ident row.reel.entry false)
      { s with wanted := s.wanted ++ [s.newMember k row.reel] } := by
  unfold addReel
  rw [h]
  rfl

/-- A test of the wanted set that finds every member's finished field in place changes nothing. -/
theorem noteFinished_eq (s : State) :
    noteFinished s = { s with wanted := s.wanted.map (fun w => { w with finished := w.finished || w.picturesDone }) } := rfl

theorem Wanted.finished_or {w : Wanted} (h : w.finished = true) : { w with finished := w.finished || w.picturesDone } = w := by
  obtain ⟨comp, index, reel, finished, bases⟩ := w
  subst h
  rfl

theorem noteFinished_keys (s : State) : (noteFinished s).wanted.map Wanted.key = s.wanted.map Wanted.key := by
  rw [noteFinished_eq, List.map_map]
  rfl

/-! ## The loop of additions and removals -/

section

variable {s : State}

theorem sortWanted_of_next {n k : Nat} (h : (noteFinished s).nextWanted = some k) :
    sortWanted (n + 1) s = sortWanted n (addReel k (noteFinished s)) := by
  rw [sortWanted]
  simp only [h]

theorem sortWanted_of_taken {n : Nat} {w : Wanted} (h : (noteFinished s).nextWanted = none)
    (hw : (noteFinished s).wanted.find? (noteFinished s).instantsTaken = some w) :
    sortWanted (n + 1) s = sortWanted n (removeReel w.index (noteFinished s)) := by
  rw [sortWanted]
  simp only [h, hw]

theorem sortWanted_of_settled {n : Nat} (h : (noteFinished s).nextWanted = none)
    (hw : (noteFinished s).wanted.find? (noteFinished s).instantsTaken = none) : sortWanted (n + 1) s = noteFinished s := by
  rw [sortWanted]
  simp only [h, hw]

theorem nextWanted_of_two {v w : Wanted} {rest : List Wanted} (h : s.wanted = v :: w :: rest) : s.nextWanted = none := by
  rw [State.nextWanted, h]

/-- The addition test of a single member (R18). -/
theorem nextWanted_of_one {w : Wanted} (h : s.wanted = [w]) :
    (s.row (w.index + 1) = none → s.nextWanted = none) ∧
    (∀ next, s.row (w.index + 1) = some next → s.nextWanted =
      if w.finished = true ∧ (s.reelTaken (w.index + 1) next.reel = false ∨ s.instantsTaken w = true) then some (w.index + 1)
      else none) := by
  rw [State.nextWanted, h]
  refine ⟨fun hr => ?_, fun next hr => ?_⟩ <;> simp only [hr]

end

/-! ## A removal's effects -/

theorem emptySlots_appendsEvents (l : Lane) (goes : AsmSlot → Bool) (note : Nat → Counters → Counters) (s : State) :
    appendsEvents s (emptySlots l goes note s) := by
  unfold emptySlots returnBlocks
  dsimp only
  split
  · exact deassertEvent_appendsEvents _ _
  · exact appendsEvents_refl s

theorem appendsEvents_foldl {α : Type} {f : State → α → State} (h : ∀ s a, appendsEvents s (f s a)) :
    ∀ (l : List α) (s : State), appendsEvents s (l.foldl f s)
  | [], s => appendsEvents_refl s
  | a :: l, s => appendsEvents_trans (h s a) (appendsEvents_foldl h l (f s a))

theorem joinUnit_link_of_not_text {l : Lane} (hl : ∀ i, l ≠ .txt i) (x : AsmSlot) (s : State) : (joinUnit l x s).link = s.link := by
  cases l with
  | txt i => exact absurd rfl (hl i)
  | _ => rfl

theorem joinLane_link_of_not_text {l : Lane} (hl : ∀ i, l ≠ .txt i) (s : State) : (joinLane l s).link = s.link :=
  joinRun_induction (P := fun s t => t.link = s.link) (fun _ => rfl)
    (fun s x _ _ ht => ht.trans (joinUnit_link_of_not_text hl x s)) _ s

theorem avToLane_not_text (a : AvLane) (i : Fin 4) : avToLane a ≠ .txt i := by cases a <;> simp [avToLane]

theorem removeReel_appendsEvents (k : Nat) (s : State) : appendsEvents s (removeReel k s) := by
  refine appendsEvents_trans (t := clearReel k s) ?_ ?_
  · obtain ⟨rest, hevents, hqueue⟩ := appendsEvents_foldl
      (fun s l => emptySlots_appendsEvents l (fun x => decide (x.reel = k)) noteAbandoned s) allLanes
      { s with wanted := s.wanted.filter (fun w => decide (w.index ≠ k)) }
    refine ⟨rest, hevents, ?_⟩
    rw [clearReel, hqueue]
  · rw [removeReel_eq, joinTurns]
    refine appendsEvents_foldl (fun s a => ⟨[], by simp, ?_⟩) avLanes _
    rw [joinLane_link_of_not_text (avToLane_not_text a), List.append_nil]

theorem joinLane_keys (l : Lane) (s : State) : (joinLane l s).wanted.map Wanted.key = s.wanted.map Wanted.key := by
  refine joinRun_induction (P := fun s t => t.wanted.map Wanted.key = s.wanted.map Wanted.key) (fun _ => rfl) (fun s x _ _ ht => ?_) _ s
  rw [ht, joinUnit_wanted, leaveSlot_wanted, List.map_map]
  refine List.map_congr_left fun w _ => ?_
  rw [Function.comp_apply]
  split <;> rfl

theorem clearReel_wanted (k : Nat) (s : State) : (clearReel k s).wanted = s.wanted.filter (fun w => decide (w.index ≠ k)) := by
  have hfold : ∀ (ls : List Lane) (t : State),
      (ls.foldl (fun s l => emptySlots l (fun x => decide (x.reel = k)) noteAbandoned s) t).wanted = t.wanted := by
    intro ls
    induction ls with
    | nil => exact fun _ => rfl
    | cons a as ih =>
      intro t
      rw [List.foldl_cons, ih, (emptySlots_reports a _ _ t).wanted_eq]
  exact hfold allLanes { s with wanted := s.wanted.filter (fun w => decide (w.index ≠ k)) }

theorem removeReel_keys (k : Nat) (s : State) : (removeReel k s).wanted.map Wanted.key =
    (s.wanted.map Wanted.key).filter (fun x => decide (x.2.1 ≠ k)) := by
  have hfold : ∀ (ls : List AvLane) (t : State),
      (ls.foldl (fun s l => joinLane (avToLane l) s) t).wanted.map Wanted.key = t.wanted.map Wanted.key := by
    intro ls
    induction ls with
    | nil => exact fun _ => rfl
    | cons a as ih =>
      intro t
      rw [List.foldl_cons, ih, joinLane_keys]
  rw [removeReel_eq, joinTurns, hfold, clearReel_wanted, List.filter_map]
  rfl

/-- A removal leaves no slot of its reel, and takes no slot of another in. -/
theorem removeReel_slots (k : Nat) (s : State) (l : Lane) :
    ∀ x ∈ (removeReel k s).laneSlots l, x ∈ s.laneSlots l ∧ x.reel ≠ k := by
  intro x hx
  have hleft : x ∈ (s.laneSlots l).filter (fun x => decide (x.reel ≠ k)) := by
    by_cases hl : ∀ i, l ≠ .txt i
    · obtain ⟨a, rfl⟩ := exists_avLane hl
      obtain ⟨-, joined, -, -, hslots⟩ := removeReel_lane k a s
      rw [hslots] at hx
      exact (List.mem_filter.mp hx).1
    · obtain ⟨i, rfl⟩ : ∃ i, l = .txt i := by simpa using hl
      rwa [(removeReel_text k i s).1] at hx
  obtain ⟨hmem, hk⟩ := List.mem_filter.mp hleft
  exact ⟨hmem, by simpa using hk⟩

/-- A report that is neither an EVENT nor a HOLD keeps its place in the queue when another such report is offered (R12). -/
theorem LinkPort.mem_offer_of_kept {l : LinkPort} {x r : Report} (hx : x ∈ l.queue) (he : x.isEvent = false)
    (hr : r.holdLane = none) : x ∈ (l.offer r).queue := by
  by_cases hup : l.state = .up
  · rw [LinkPort.offer_of_not_replaced hup (by simp [hr])]
    split
    · exact List.mem_append_left _ hx
    split
    · exact hx
    · cases hd : dropNewestEvent (l.queue.drop l.inFlight) with
      | none => exact hx
      | some rest =>
        have hkeep : ∀ {q q' : List Report}, dropNewestEvent q = some q' → x ∈ q → x ∈ q' := by
          intro q
          induction q with
          | nil => intro q' h; simp [dropNewestEvent] at h
          | cons a as ih =>
            intro q' h hxq
            unfold dropNewestEvent at h
            cases hda : dropNewestEvent as with
            | some rest =>
              rw [hda] at h
              cases h
              rcases List.mem_cons.mp hxq with rfl | hxa
              · exact List.mem_cons_self ..
              · exact List.mem_cons_of_mem _ (ih hda hxa)
            | none =>
              rw [hda] at h
              by_cases hea : a.isEvent = true
              · simp only [hea, if_true, Option.some.injEq] at h
                subst h
                rcases List.mem_cons.mp hxq with rfl | hxa
                · rw [he] at hea; cases hea
                · exact hxa
              · simp [hea] at h
        rw [← List.take_append_drop l.inFlight l.queue] at hx
        simp only [Option.map_some, Option.getD_some, List.mem_append] at hx ⊢
        rcases hx with hx | hx
        · exact .inl (.inl hx)
        · exact .inl (.inr (hkeep hd hx))
  · rwa [LinkPort.offer_of_not_up l r hup]

/-! ## What the loop keeps -/

/-- A state of the loop after a member has taken another's place: that member stands first, its instants are still to come, the other
has no slot, and the first one's WANT waits (R18, R19, R21). -/
structure TakesPlace (c k : Nat) (r : Reel) (old : Nat) (want : Report) (waits : Prop) (s : State) : Prop where
  members : ∃ rest, s.wanted.map Wanted.key = (c, k, r) :: rest ∧ ∀ x ∈ rest, x.2.1 ≠ k
  coming : s.reelTaken k r = false
  slots : ∀ l, ∀ x ∈ s.laneSlots l, x.reel ≠ old
  waiting : waits → want ∈ s.link.queue

theorem reelTaken_congr {s t : State} (ht : t.timeline = s.timeline) (hs : t.sound = s.sound) (k : Nat) (r : Reel) :
    t.reelTaken k r = s.reelTaken k r := by
  rw [State.reelTaken, ht, hs]; rfl

theorem takesPlace_noteFinished {c k old : Nat} {r : Reel} {want : Report} {waits : Prop} {s : State}
    (h : TakesPlace c k r old want waits s) : TakesPlace c k r old want waits (noteFinished s) := by
  obtain ⟨hm, hc, hs, hw⟩ := h
  exact ⟨by rw [noteFinished_keys]; exact hm, hc, hs, hw⟩

theorem takesPlace_sortWanted {c k old : Nat} {r : Reel} {want : Report} {waits : Prop} (hwant : want.isEvent = false) :
    ∀ (n : Nat) {s : State}, TakesPlace c k r old want waits s → TakesPlace c k r old want waits (sortWanted n s)
  | 0, _, h => h
  | n + 1, s, h => by
    have hnoted := takesPlace_noteFinished h
    obtain ⟨⟨rest, hkeys, hrest⟩, hcoming, hslots, hwaiting⟩ := hnoted
    cases hnext : (noteFinished s).nextWanted with
    | some j =>
      rw [sortWanted_of_next hnext]
      refine takesPlace_sortWanted hwant n ?_
      obtain ⟨w, hw⟩ : ∃ w, (noteFinished s).wanted = [w] := by
        unfold State.nextWanted at hnext
        split at hnext
        next w hw => exact ⟨w, hw⟩
        next => cases hnext
      rw [hw] at hkeys
      obtain ⟨hkey, hnil⟩ := List.cons.inj hkeys
      have hindex : w.index = k := congrArg (fun x => x.2.1) hkey
      obtain ⟨hnone, hsome⟩ := nextWanted_of_one hw
      cases hrow : (noteFinished s).row (w.index + 1) with
      | none => rw [hnone hrow] at hnext; cases hnext
      | some next =>
        have hj : j = w.index + 1 := by
          rw [hsome next hrow] at hnext
          split at hnext
          · exact (Option.some.inj hnext).symm
          · cases hnext
        rw [hj, addReel_of_row hrow]
        refine ⟨⟨[(noteFinished s).newMember (w.index + 1) next.reel |>.key], ?_, ?_⟩, hcoming, hslots, fun hp => ?_⟩
        · change ((noteFinished s).wanted ++ [_]).map Wanted.key = _
          rw [hw, List.map_append, List.map_cons, hkey]
          rfl
        · intro x hx
          rw [List.mem_singleton.mp hx]
          change w.index + 1 ≠ k
          omega
        · exact LinkPort.mem_offer_of_kept (hwaiting hp) hwant rfl
    | none =>
      cases htaken : (noteFinished s).wanted.find? (noteFinished s).instantsTaken with
      | none => rw [sortWanted_of_settled hnext htaken]; exact takesPlace_noteFinished h
      | some w =>
        rw [sortWanted_of_taken hnext htaken]
        refine takesPlace_sortWanted hwant n ?_
        have hmem := List.mem_map_of_mem (f := Wanted.key) (List.mem_of_find?_eq_some htaken)
        have hwtaken := List.find?_some htaken
        rw [hkeys] at hmem
        have hne : w.index ≠ k := by
          rcases List.mem_cons.mp hmem with heq | hmem
          · obtain ⟨-, hkr⟩ := Prod.mk.inj heq
            obtain ⟨hk, hr⟩ := Prod.mk.inj hkr
            rw [State.instantsTaken, hk, hr, hcoming] at hwtaken
            cases hwtaken
          · exact hrest _ hmem
        have hcontent := (removeReel_content w.index (noteFinished s)).fields
        obtain ⟨-, -, -, -, -, -, htimeline, -, hsound, -⟩ := hcontent
        refine ⟨⟨rest.filter (fun x => decide (x.2.1 ≠ w.index)), ?_, fun x hx => hrest x ((List.mem_filter.mp hx).1)⟩,
          (reelTaken_congr htimeline hsound k r).trans hcoming, fun l x hx => hslots l x (removeReel_slots _ _ l x hx).1,
          fun hp => (removeReel_appendsEvents _ _).mem (hwaiting hp)⟩
        rw [removeReel_keys, hkeys, List.filter_cons_of_pos (by simpa using hne.symm)]

/-! ## The next reel joins -/

section

variable {s : State} {w : Wanted} {next : ReelRow}

/-- The state whose next reel has joined a member that has finished (R18). -/
def joinNext (w : Wanted) (next : ReelRow) (s : State) : State :=
  queueReport (.want s.boundIdent (w.index + 1) next.reel.ident next.reel.entry false)
    { s with wanted := [w, s.newMember (w.index + 1) next.reel] }

theorem sortWanted_joins (hw : s.wanted = [w]) (hf : w.finished = true) (hrow : s.row (w.index + 1) = some next)
    (htaken : s.reelTaken (w.index + 1) next.reel = false) (n : Nat) :
    sortWanted (n + 1) s = sortWanted n (joinNext w next s) := by
  have hnoted : noteFinished s = s := by
    rw [noteFinished_eq, hw, List.map_singleton, Wanted.finished_or hf, ← hw]
  have hnext : (noteFinished s).nextWanted = some (w.index + 1) := by
    rw [hnoted, (nextWanted_of_one hw).2 next hrow, if_pos ⟨hf, .inl htaken⟩]
  rw [sortWanted_of_next hnext, hnoted, addReel_of_row hrow, hw]
  rfl

/-- After the next reel has joined, a test of the wanted set finds two members. -/
theorem joinNext_noted (hf : w.finished = true) : ∃ v : Wanted, v.key = (s.newMember (w.index + 1) next.reel).key ∧
    noteFinished (joinNext w next s) = queueReport (.want s.boundIdent (w.index + 1) next.reel.ident next.reel.entry false)
      { s with wanted := [w, v] } := by
  refine ⟨{ s.newMember (w.index + 1) next.reel with
    finished := false || (s.newMember (w.index + 1) next.reel).picturesDone }, rfl, ?_⟩
  have hmembers : (joinNext w next s).wanted = [w, s.newMember (w.index + 1) next.reel] := rfl
  rw [noteFinished_eq, hmembers, List.map_cons, List.map_singleton, Wanted.finished_or hf]
  rfl

theorem joinNext_settles (hf : w.finished = true) (htaken : s.reelTaken (w.index + 1) next.reel = false)
    (hstays : s.instantsTaken w = false) (n : Nat) : ∃ v : Wanted, v.key = (s.newMember (w.index + 1) next.reel).key ∧
    sortWanted (n + 1) (joinNext w next s) =
      queueReport (.want s.boundIdent (w.index + 1) next.reel.ident next.reel.entry false) { s with wanted := [w, v] } := by
  obtain ⟨v, hv, hnoted⟩ := joinNext_noted (s := s) (next := next) hf
  obtain ⟨-, hkr⟩ := Prod.mk.inj hv
  obtain ⟨hk, hr⟩ := Prod.mk.inj hkr
  refine ⟨v, hv, ?_⟩
  have hvtaken : s.instantsTaken v = false := by
    rw [State.instantsTaken, hk, hr]
    exact htaken
  rw [sortWanted_of_settled, hnoted]
  · rw [hnoted]
    exact nextWanted_of_two rfl
  · rw [hnoted]
    change [w, v].find? s.instantsTaken = none
    simp [hstays, hvtaken]

theorem joinNext_takesPlace (hf : w.finished = true) (htaken : s.reelTaken (w.index + 1) next.reel = false)
    (hgone : s.instantsTaken w = true) (n : Nat) :
    TakesPlace s.boundIdent (w.index + 1) next.reel w.index
      (.want s.boundIdent (w.index + 1) next.reel.ident next.reel.entry false)
      (s.link.state = .up ∧ s.link.queue.length < 64) (sortWanted (n + 1) (joinNext w next s)) := by
  obtain ⟨v, hv, hnoted⟩ := joinNext_noted (s := s) (next := next) hf
  have hfind : (noteFinished (joinNext w next s)).wanted.find? (noteFinished (joinNext w next s)).instantsTaken = some w := by
    rw [hnoted]
    change [w, v].find? s.instantsTaken = some w
    simp [hgone]
  rw [sortWanted_of_taken (by rw [hnoted]; exact nextWanted_of_two rfl) hfind]
  refine takesPlace_sortWanted rfl n ?_
  rw [hnoted]
  let u := queueReport (.want s.boundIdent (w.index + 1) next.reel.ident next.reel.entry false) { s with wanted := [w, v] }
  have hu : u = queueReport (.want s.boundIdent (w.index + 1) next.reel.ident next.reel.entry false) { s with wanted := [w, v] } := rfl
  rw [← hu]
  obtain ⟨-, -, -, -, -, -, htimeline, -, hsound, -⟩ := (removeReel_content w.index u).fields
  refine ⟨⟨[], ?_, by simp⟩, (reelTaken_congr htimeline hsound _ _).trans htaken, fun l x hx => (removeReel_slots _ u l x hx).2,
    fun hp => (removeReel_appendsEvents _ u).mem (LinkPort.mem_offer_self hp.1 hp.2)⟩
  have hkeys : u.wanted.map Wanted.key = [w.key, (s.newMember (w.index + 1) next.reel).key] := by
    change [w, v].map Wanted.key = _
    rw [List.map_cons, List.map_singleton, hv]
  rw [removeReel_keys, hkeys]
  simp [Wanted.key, State.newMember]

end

/-- Settles O16: admission case by case, the member that a reel becomes, and the loop of additions and removals. -/
theorem reportAdmission : Obligations.ReportAdmission := by
  refine ⟨LinkPort.offer_cases, fun s k row hrow => ⟨s.newMember k row.reel, addReel_of_row hrow, rfl, rfl, rfl, rfl,
    newBases_get s k row.reel⟩, fun s w next hw hf hrow htaken => ⟨fun hstays => ?_, fun hgone => ?_⟩⟩
  · obtain ⟨v, hv, hsort⟩ := joinNext_settles (s := s) (next := next) hf htaken hstays (2 * s.timeline.table.length)
    obtain ⟨hcomp, hkr⟩ := Prod.mk.inj hv
    obtain ⟨hk, hr⟩ := Prod.mk.inj hkr
    exact ⟨v, (sortWanted_joins hw hf hrow htaken _).trans hsort, hcomp, hk, hr⟩
  · have hplace := joinNext_takesPlace (s := s) (next := next) hf htaken hgone (2 * s.timeline.table.length)
    rw [← sortWanted_joins hw hf hrow htaken] at hplace
    obtain ⟨⟨rest, hkeys, -⟩, -, hslots, hwaiting⟩ := hplace
    obtain ⟨v, members, hmembers, hkey, -⟩ := List.map_eq_cons_iff.mp hkeys
    obtain ⟨hcomp, hkr⟩ := Prod.mk.inj hkey
    obtain ⟨hk, hr⟩ := Prod.mk.inj hkr
    exact ⟨v, members, hmembers, hcomp, hk, hr, hslots, fun hup hroom => hwaiting ⟨hup, hroom⟩⟩

end Sys2Proof.Machine

/-! PROOF. The Cell Sorter and the Unit Assembler: where a cell is dropped, and what its fragment does to its unit (R22 to R30). -/

namespace Sys2Proof.Machine

/-! ## The first tests -/

section

variable {s : State} {l : Lane} {k u base : Nat} {f : Fragment}

theorem isTextLane_iff : isTextLane l = true ↔ ∃ i, l = .txt i := by
  cases l <;> simp [isTextLane]

theorem assemble_reaches (hb : s.base k l = some base) (hlow : base ≤ u) (hhigh : u ≤ base + 3) {dur : Nat}
    (hdur : u < dur ∨ ∃ i, l = .txt i) : assemble l k u dur f s = reachSlot l k u f s := by
  have hin : ¬ ((isTextLane l = false ∧ dur ≤ u) ∨ base + 3 < u) := by
    rintro (⟨htext, h⟩ | h)
    · rcases hdur with hd | hd
      · omega
      · rw [isTextLane_iff.mpr hd] at htext
        cases htext
    · omega
  rw [assemble_of_base hb, if_neg (by omega), if_neg hin]

theorem findSlot_eq_none_iff : (s.laneSlots l).find? (fun x => decide (x.reel = k) && decide (x.unit = u)) = none ↔
    ∀ x ∈ s.laneSlots l, x.reel ≠ k ∨ x.unit ≠ u := by
  rw [List.find?_eq_none]
  refine forall₂_congr fun x _ => ?_
  rw [Bool.and_eq_true, decide_eq_true_eq, decide_eq_true_eq]
  exact Decidable.not_and_iff_not_or_not

theorem reachSlot_of_found {x : AsmSlot}
    (h : (s.laneSlots l).find? (fun x => decide (x.reel = k) && decide (x.unit = u)) = some x) :
    reachSlot l k u f s = placeFragment l x f s := by
  rw [reachSlot, h]

theorem reachSlot_of_none (h : ∀ x ∈ s.laneSlots l, x.reel ≠ k ∨ x.unit ≠ u) : reachSlot l k u f s =
    if (s.laneSlots l).length < 4 then
      if f.damaged = true ∧ (s.freshSlot k u).contradicts l f = true then dropOversize s
      else placeFragment l (s.freshSlot k u) f
        { s.setSlots l (s.laneSlots l ++ [s.freshSlot k u]) with draws := s.draws + 1 }
    else s.count (fun c => { c with noSlot := bump32 1 c.noSlot }) := by
  rw [reachSlot, findSlot_eq_none_iff.mpr h]

theorem placeFragment_of_duplicate {x : AsmSlot} (h : x.complete = true ∨ x.has f.index = true) :
    placeFragment l x f s = s.count (fun c => { c with duplicate := bump32 1 c.duplicate }) := if_pos h

end

/-! ## A fragment and its unit -/

section

variable (x : AsmSlot) (f : Fragment)

/-- The region of the frame store block that a fragment needs (R27). -/
abbrev AsmSlot.regionOf : Nat := f.index * x.content.stride / 65536

/-- A fragment that needs no further block: it is empty, or its region's block is there (R27). -/
abbrev AsmSlot.holdsRegion : Prop := f.payload.length = 0 ∨ x.regionOf f ∈ x.regions

theorem needsBlock_iff : x.needsBlock f = true ↔ ¬ x.holdsRegion f := by
  simp [AsmSlot.needsBlock, AsmSlot.holdsRegion, AsmSlot.regionOf, Config.blockBytes]

theorem contradicts_iff (l : Lane) : x.contradicts l f = true ↔ sizeLimit l < f.index * x.content.stride + f.payload.length ∨
    (∃ j, x.last = some j ∧ (j < f.index ∨ f.lastFlag = true ∧ j ≠ f.index)) ∨
    (f.lastFlag = true ∧ ∃ g ∈ x.content.frags, f.index < g.1) := by
  unfold AsmSlot.contradicts
  cases x.last with
  | none => simp
  | some j =>
    simp only [Option.map_some, Option.getD_some, Bool.or_eq_true, Bool.and_eq_true, decide_eq_true_eq, List.any_eq_true,
      Option.some.injEq, exists_eq_left']
    rw [or_assoc, or_assoc, or_assoc]

/-- A unit after its fragment is placed and its completion is tested (R27, R30). -/
def AsmSlot.placed : AsmSlot := (x.place f).settle

theorem settle_of_no_last {y : AsmSlot} (h : y.last = none) : y.settle = y := by rw [AsmSlot.settle, h]

/-- Completion: the last fragment is known, and every one before it is present (R30). -/
theorem settle_of_last {y : AsmSlot} {j : Nat} (h : y.last = some j) : y.settle =
    if ∀ i, i ≤ j → y.has i = true then
      { y with complete := true, size := y.extent, damaged := y.damaged || decide (y.extent = 0) }
    else y := by
  have hall : (List.range (j + 1)).all y.has = true ↔ ∀ i, i ≤ j → y.has i = true := by
    simp only [List.all_eq_true, List.mem_range, Nat.lt_succ_iff]
  have hsettle : y.settle = if (List.range (j + 1)).all y.has then
      { y with complete := true, size := y.extent, damaged := y.damaged || decide (y.extent = 0) } else y := by
    unfold AsmSlot.settle
    split
    next hnone => rw [h] at hnone; cases hnone
    next j' hj' =>
      rw [h] at hj'
      cases hj'
      rfl
  by_cases hp : ∀ i, i ≤ j → y.has i = true
  · rw [hsettle, if_pos (hall.mpr hp), if_pos hp]
  · rw [hsettle, if_neg (fun h' => hp (hall.mp h')), if_neg hp]

theorem place_has (i : Nat) : (x.place f).has i = true ↔ i = f.index ∨ x.has i = true := by
  simp only [AsmSlot.has, AsmSlot.place, List.any_append, List.any_cons, List.any_nil, Bool.or_false, Bool.or_eq_true,
    decide_eq_true_eq]
  rw [or_comm, eq_comm]

theorem place_last : (x.place f).last = if f.lastFlag then some f.index else x.last := rfl

/-- A unit not yet complete becomes so with its fragment exactly where every fragment up to the last is then present (R30). -/
theorem placed_complete_iff (h : x.complete = false) :
    (x.placed f).complete = true ↔ ∃ j, (x.placed f).last = some j ∧ ∀ i, i ≤ j → i = f.index ∨ x.has i = true := by
  obtain ⟨-, -, -, -, hlast⟩ := settle_same (x.place f)
  have hplace : (x.place f).complete = false := h
  rw [AsmSlot.placed, hlast]
  cases hj : (x.place f).last with
  | none => rw [settle_of_no_last hj, hplace]; simp
  | some j =>
    rw [settle_of_last hj]
    simp only [place_has, Option.some.injEq, exists_eq_left']
    by_cases hp : ∀ i, i ≤ j → i = f.index ∨ x.has i = true
    · rw [if_pos hp]
      exact ⟨fun _ => hp, fun _ => rfl⟩
    · rw [if_neg hp, hplace]
      exact ⟨fun h' => Bool.noConfusion h', fun h' => absurd h' hp⟩

/-- The unit that a complete slot holds has the extent of what was placed (R30). -/
theorem placed_size (h : x.complete = false) (hc : (x.placed f).complete = true) :
    (x.placed f).size = (x.place f).extent ∧
    (x.placed f).damaged = ((x.place f).damaged || decide ((x.place f).extent = 0)) := by
  have hplace : (x.place f).complete = false := h
  rw [AsmSlot.placed] at hc ⊢
  cases hj : (x.place f).last with
  | none => rw [settle_of_no_last hj, hplace] at hc; cases hc
  | some j =>
    rw [settle_of_last hj] at hc ⊢
    by_cases hp : ∀ i, i ≤ j → (x.place f).has i = true
    · rw [if_pos hp]; exact ⟨rfl, rfl⟩
    · rw [if_neg hp, hplace] at hc; cases hc

theorem placed_damaged_of_filling (hc : (x.placed f).complete = false) :
    (x.placed f).damaged = (x.place f).damaged := by
  rw [AsmSlot.placed] at hc ⊢
  cases hj : (x.place f).last with
  | none => rw [settle_of_no_last hj]
  | some j =>
    rw [settle_of_last hj] at hc ⊢
    by_cases hp : ∀ i, i ≤ j → (x.place f).has i = true
    · rw [if_pos hp] at hc; cases hc
    · rw [if_neg hp]

theorem place_damaged_iff : (x.place f).damaged = true ↔ x.damaged = true ∨ f.damaged = true ∨
    ((x.placed f).last ≠ some f.index ∧ f.payload.length < x.content.stride) := by
  obtain ⟨-, -, -, -, hlast⟩ := settle_same (x.place f)
  rw [AsmSlot.placed, hlast, place_last]
  simp [AsmSlot.place, or_assoc]

theorem placed_damaged_iff (h : x.complete = false) : (x.placed f).damaged = true ↔ x.damaged = true ∨ f.damaged = true ∨
    ((x.placed f).last ≠ some f.index ∧ f.payload.length < x.content.stride) ∨
    ((x.placed f).complete = true ∧ (x.placed f).size = 0) := by
  have hplace := place_damaged_iff x f
  cases hc : (x.placed f).complete with
  | false =>
    rw [placed_damaged_of_filling x f hc, hplace]
    simp
  | true =>
    obtain ⟨hsize, hdamaged⟩ := placed_size x f h hc
    rw [hdamaged, hsize, Bool.or_eq_true, hplace, decide_eq_true_eq]
    simp only [true_and, or_assoc]

/-- The size of a complete unit is the end of its last fragment (R30). -/
theorem placed_extent (h : x.complete = false) {j : Nat} {g : Nat × List Byte} (hc : (x.placed f).complete = true)
    (hj : (x.placed f).last = some j) (hg : (x.placed f).content.frags.find? (fun g => decide (g.1 = j)) = some g) :
    (x.placed f).size = j * x.content.stride + g.2.length := by
  obtain ⟨-, -, -, hcontent, hlast⟩ := settle_same (x.place f)
  obtain ⟨hsize, -⟩ := placed_size x f h hc
  rw [AsmSlot.placed, hlast] at hj
  rw [AsmSlot.placed, hcontent] at hg
  have hidx : g.1 = j := by simpa using List.find?_some hg
  rw [hsize, AsmSlot.extent, hj]
  simp only [hg, Option.map_some, Option.getD_some, AsmSlot.fragEnd, hidx]
  rfl

theorem place_regions :
    (x.place f).regions = if x.holdsRegion f then x.regions else x.regions ++ [x.regionOf f] := by
  have hiff : (f.payload.length = 0 ∨ x.regions.contains (f.index * x.content.stride / Config.blockBytes) = true) ↔
      x.holdsRegion f := by simp [AsmSlot.holdsRegion, AsmSlot.regionOf, Config.blockBytes]
  by_cases h : x.holdsRegion f
  · rw [if_pos h]
    exact if_pos (hiff.mpr h)
  · rw [if_neg h]
    exact if_neg fun h' => h (hiff.mp h')

end

section

variable {l : Lane} {x : AsmSlot} {f : Fragment} {s : State}

theorem placeFragment_of_contradicts (hc : x.complete = false) (hf : x.has f.index = false) (h : x.contradicts l f = true) :
    placeFragment l x f s =
      if f.damaged then dropOversize s else updateWanted (joinLane l (putSlot l x.closed (dropOversize s))) := by
  rw [placeFragment, if_neg (by simp [hc, hf]), if_pos h]
  rfl

theorem placeFragment_of_exhausted (hc : x.complete = false) (hf : x.has f.index = false) (h : x.contradicts l f = false)
    (hblock : ¬ x.holdsRegion f) (hpool : s.buffer.pool = 0) : placeFragment l x f s =
      exhaustPool (emptySlots l (fun y => decide (y.reel = x.reel) && decide (y.unit = x.unit)) noteAbandoned s) := by
  rw [placeFragment, if_neg (by simp [hc, hf]), if_neg (by simp [h]), if_pos ⟨(needsBlock_iff x f).mpr hblock, hpool⟩]

theorem placeFragment_of_placed (hc : x.complete = false) (hf : x.has f.index = false)
    (h : x.contradicts l f = false) (hblock : x.holdsRegion f ∨ 0 < s.buffer.pool) : placeFragment l x f s =
      updateWanted (joinLane l (putSlot l (x.placed f)
        { s with buffer := { s.buffer with pool := if x.holdsRegion f then s.buffer.pool else s.buffer.pool - 1 } })) := by
  have hneeds := needsBlock_iff x f
  have hroom : ¬ (x.needsBlock f = true ∧ s.buffer.pool = 0) := by
    rintro ⟨hn, hp⟩
    rcases hblock with hb | hb
    · exact hneeds.mp hn hb
    · omega
  have htaken : s.buffer.pool - (if x.needsBlock f = true then 1 else 0) =
      if x.holdsRegion f then s.buffer.pool else s.buffer.pool - 1 := by
    by_cases hb : x.holdsRegion f
    · rw [if_neg (fun hn => hneeds.mp hn hb), if_pos hb]; rfl
    · rw [if_pos (hneeds.mpr hb), if_neg hb]
  rw [placeFragment, if_neg (by simp [hc, hf]), if_neg (by simp [h]), if_neg hroom, ← htaken]
  rfl

end

/-- Settles O13: the first tests in their order, and the fragment's four ends. -/
theorem contentCellDrops : Obligations.ContentCellDrops := by
  refine ⟨fun s c damaged h => ?_, fun s c damaged w hw hl => ?_, fun s l k u dur base f hb => ⟨fun h => ?_, fun h => ?_,
    fun hlow hhigh hl hdur => ?_, fun hlow hhigh hdur hnone hfull => ?_, fun hlow hhigh hdur hdup hex => ?_⟩,
    fun s l k u dur base f hb hlow hhigh hdur => ⟨fun x hx => ?_, fun hnone hroom => ⟨fun hok => ?_, fun hd hcon => ?_⟩⟩,
    fun s l x f hc hf => ⟨contradicts_iff x f l, fun h hd => ?_, fun h hd => ?_, fun h hblock hpool hslot => ?_, fun h hblock => ?_⟩⟩
  · have hnone : s.wanted.find? (fun w => decide (w.comp = c.comp) && decide (w.index = c.reel)) = none := by
      rw [List.find?_eq_none]
      intro w hw
      rcases h w hw with h | h <;> simp [h]
    rw [sortCell, hnone]
    rfl
  · simp only [sortCell, hw, hl]; rfl
  · rw [assemble_of_base hb, if_pos h]; rfl
  · rw [assemble_of_base hb, if_neg (by omega), if_pos (.inr h)]; rfl
  · have htext : isTextLane l = false := by
      rw [← Bool.not_eq_true, isTextLane_iff]
      rintro ⟨i, hi⟩
      exact hl i hi
    rw [assemble_of_base hb, if_neg (by omega), if_pos (.inl ⟨htext, hdur⟩)]; rfl
  · rw [assemble_reaches hb hlow hhigh (.inl hdur), reachSlot_of_none hnone, if_neg (by omega)]; rfl
  · obtain ⟨y, hy, hreel, hunit⟩ := hex
    cases hfind : (s.laneSlots l).find? (fun x => decide (x.reel = k) && decide (x.unit = u)) with
    | none =>
      rcases findSlot_eq_none_iff.mp hfind y hy with h | h
      · exact absurd hreel h
      · exact absurd hunit h
    | some x =>
      have hx := List.find?_some hfind
      simp only [Bool.and_eq_true, decide_eq_true_eq] at hx
      rw [assemble_reaches hb hlow hhigh (.inl hdur), reachSlot_of_found hfind,
        placeFragment_of_duplicate (hdup x (List.mem_of_find?_eq_some hfind) hx.1 hx.2)]
      rfl
  · rw [assemble_reaches hb hlow hhigh hdur, reachSlot_of_found hx]
  · have hnot : ¬ (f.damaged = true ∧ (s.freshSlot k u).contradicts l f = true) := by
      rintro ⟨hd, hcon⟩
      rcases hok with h | h
      · rw [hd] at h; cases h
      · rw [hcon] at h; cases h
    rw [assemble_reaches hb hlow hhigh hdur, reachSlot_of_none hnone, if_pos hroom, if_neg hnot]
  · rw [assemble_reaches hb hlow hhigh hdur, reachSlot_of_none hnone, if_pos hroom, if_pos ⟨hd, hcon⟩]; rfl
  · rw [placeFragment_of_contradicts hc hf h, if_pos hd]; rfl
  · rw [placeFragment_of_contradicts hc hf h, if_neg (by simp [hd])]; rfl
  · refine ⟨_, placeFragment_of_exhausted hc hf h hblock hpool, ?_⟩
    have hreports := emptySlots_reports l (fun y => decide (y.reel = x.reel) && decide (y.unit = x.unit)) noteAbandoned s
    have hblocks : slotBlocks [x] = x.regions.length := by simp
    rw [hslot, hpool, hblocks, Nat.zero_add] at hreports
    exact hreports
  · obtain ⟨hreel, hunit, hregions, hcontent, hlast⟩ := settle_same (x.place f)
    exact ⟨x.placed f, placeFragment_of_placed hc hf h hblock, hreel, hunit, hcontent, hregions.trans (place_regions x f), hlast,
      placed_complete_iff x f hc, placed_damaged_iff x f hc, fun j g => placed_extent x f hc⟩

end Sys2Proof.Machine

/-! PROOF. The Sync Measurement Unit: the staged delay, the sync check, and the capture channels (R100, R104 to R109). -/

namespace Sys2Proof.Machine

/-! ## Reports and one changed block -/

theorem reportsFrom.setSync {u t : State} (h : reportsFrom u t) (y : Sync) :
    reportsFrom { u with sync := y } { t with sync := y } := by
  obtain ⟨q, ev, aq, al, at_, dropped, rfl⟩ := h.exists_eq
  rfl

theorem reportsFrom.setSound {u t : State} (h : reportsFrom u t) (d : Sound) :
    reportsFrom { u with sound := d } { t with sound := d } := by
  obtain ⟨q, ev, aq, al, at_, dropped, rfl⟩ := h.exists_eq
  rfl

/-- Accepting a command changes no event but HEARTBEAT_LOST and ACTION_OVERFLOW (R61). -/
theorem event_acceptCommand (s : State) {k : EventKind} (h : k ≠ .heartbeatLost) (ho : k ≠ .actionOverflow) :
    (acceptCommand s).event k = s.event k := by
  rw [acceptCommand, event_deassertEvent_of_ne _ h ho]
  rfl

@[simp] theorem acceptCommand_sync (s : State) : (acceptCommand s).sync = s.sync := (acceptCommand_reports s).sync_eq

/-! ## Staging -/

theorem clampDelay_eq (n : Int) : clampDelay n = max (-24000) (min 24000 n) := rfl

theorem clampDelay_of_in {n : Int} (h : -24000 ≤ n) (h' : n ≤ 24000) : clampDelay n = n := by
  rw [clampDelay_eq]
  omega

theorem clampDelay_of_out {n : Int} (h : n < -24000 ∨ 24000 < n) : clampDelay n ≠ n := by
  rw [clampDelay_eq]
  omega

/-- A clamped delay is clamped no further. -/
theorem clampDelay_clampDelay (n : Int) : clampDelay (clampDelay n) = clampDelay n := by
  simp only [clampDelay_eq]
  omega

/-- The state with a delay staged, before SYNC_LIMIT (R100). -/
def State.withStaged (n : Int) (s : State) : State :=
  { s with sound := { s.sound with staged := clampDelay n, pending := true } }

theorem stageDelay_of_eq {n : Int} (h : clampDelay n = n) (s : State) : stageDelay n s = s.withStaged n := if_pos h

theorem stageDelay_of_ne {n : Int} (h : clampDelay n ≠ n) (s : State) : stageDelay n s = occur .syncLimit (s.withStaged n) := if_neg h

theorem stageDelay_reports (n : Int) (s : State) : reportsFrom (s.withStaged n) (stageDelay n s) := by
  by_cases h : clampDelay n = n
  · rw [stageDelay_of_eq h]; exact reportsFrom_refl _
  · rw [stageDelay_of_ne h]; exact occur_reports _ _

/-! ## Pair records -/

theorem editLast_append (f : PairRec → PairRec) (p : PairRec) : ∀ before : List PairRec, editLast f (before ++ [p]) = before ++ [f p]
  | [] => rfl
  | [_] => rfl
  | a :: b :: rest => by
    have ih := editLast_append f p (b :: rest)
    simp only [List.cons_append] at ih ⊢
    rw [editLast, ih]
    exact fun h => by cases h

theorem PairRec.fallback_of_none {p : PairRec} (h : p.validity = none) (v : Validity) : p.fallback v = { p with validity := some v } := by
  rw [PairRec.fallback, h]; rfl

theorem PairRec.fallback_of_some {p : PairRec} (h : p.validity ≠ none) (v : Validity) : p.fallback v = p := by
  obtain ⟨w, hw⟩ := Option.ne_none_iff_exists'.mp h
  rw [PairRec.fallback, hw]
  cases p
  exact congrArg _ hw.symm

/-- The difference of a record is that of its two counts (R107). -/
theorem PairRec.difference_eq_some (p : PairRec) (d : Int) : p.difference = some d ↔
    p.validity = some .valid ∧ ∃ a b : Nat, p.light = some (.ticks a) ∧ p.echo = some (.ticks b) ∧ d = (a : Int) - b := by
  unfold PairRec.difference
  by_cases hv : p.validity = some .valid
  · rw [if_pos hv]
    split
    next a b ha hb => simp [hv, ha, hb, eq_comm]
    next hne =>
      refine ⟨fun h => (nomatch h), fun ⟨_, a, b, ha, hb, _⟩ => (hne a b ha hb).elim⟩
  · rw [if_neg hv]
    simp [hv]

theorem Sync.marking_iff (y : Sync) : y.marking = true ↔
    (y.light.mode = .markDelay ∧ y.light.state = .counting) ∨ (y.echo.mode = .markDelay ∧ y.echo.state = .counting) := by
  simp [Sync.marking, CapChannel.marking]

/-- Reel `k` is the ARMED check's target and unit `u` one of its sync marks (R106). -/
def State.marksHere (s : State) (k u : Nat) : Prop :=
  s.sync.armed = true ∧ s.sync.target = some k ∧
    ∃ row, s.row k = some row ∧ row.reel.kind = .test ∧ row.reel.marks.contains u = true

theorem marksHere_iff (s : State) (k u : Nat) : s.marksHere k u ↔ (s.sync.armed &&
    ((s.row k).map (fun r => decide (r.reel.kind = .test) && r.reel.marks.contains u)).getD false &&
    decide (s.sync.target = some k)) = true := by
  unfold State.marksHere
  cases s.row k with
  | none => simp
  | some row =>
    simp only [Option.map_some, Option.getD_some, Bool.and_eq_true, decide_eq_true_eq, Option.some.injEq, exists_eq_left']
    exact ⟨fun ⟨ha, ht, hk⟩ => ⟨⟨ha, hk⟩, ht⟩, fun ⟨⟨ha, hk⟩, ht⟩ => ⟨ha, ht, hk⟩⟩

theorem markRelease_of_not_mark {s : State} {k u : Nat} (h : ¬ s.marksHere k u) (missing : Bool) : markRelease k u missing s = s :=
  if_neg (fun h' => h ((marksHere_iff s k u).mpr h'))

/-- The records before the one that a mark opens: the last of them is OVERRUN where its count still ran (R106). -/
def Sync.earlier (y : Sync) : List PairRec := if y.marking then editLast (PairRec.fallback .overrun) y.pairs else y.pairs

theorem markRelease_of_mark {s : State} {k u : Nat} (h : s.marksHere k u) (missing : Bool) :
    markRelease k u missing s = { s with sync := { s.sync with
      light := channelIn .markDelay, echo := channelIn .markDelay,
      pairs := s.sync.earlier ++ [{
        mark := u, light := none, echo := none, flashWidth := none, echoWidth := none, delay := s.sound.live,
        validity := if missing then some .missing else none }] } } :=
  if_pos ((marksHere_iff s k u).mp h)

/-! ## The mean -/

theorem foldl_add_eq_sum : ∀ (l : List Int) (a : Int), l.foldl (· + ·) a = a + l.sum
  | [], a => by simp
  | b :: l, a => by rw [List.foldl_cons, foldl_add_eq_sum l, List.sum_cons]; omega

/-- The quotient of the mean lies within half a divisor of the exact one, and below it where both neighbours are equally near (R107). -/
theorem mean_bounds (a n : Nat) (hn : 0 < n) : let q := (2 * a + n - 1) / (2 * n)
    2 * ((a : Int) - (q : Int) * n).natAbs ≤ n ∧ (2 * ((a : Int) - (q : Int) * n).natAbs = n → q * n ≤ a) := by
  intro q
  have hlow : q * (2 * n) ≤ 2 * a + n - 1 := Nat.div_mul_le_self _ _
  have hhigh : 2 * a + n - 1 < q * (2 * n) + 2 * n := Nat.lt_div_mul_add (by omega)
  have hq : q * (2 * n) = 2 * (q * n) := Nat.mul_left_comm q 2 n
  rw [hq] at hlow hhigh
  generalize hx : q * n = x at *
  have hcast : (q : Int) * n = (x : Int) := by rw [← hx]; push_cast; rfl
  rw [hcast]
  omega

theorem meanTowardZero_near (sum : Int) (n : Nat) (hn : 0 < n) :
    2 * (sum - meanTowardZero sum n * n).natAbs ≤ n ∧
    (2 * (sum - meanTowardZero sum n * n).natAbs = n → (meanTowardZero sum n * n).natAbs ≤ sum.natAbs) := by
  obtain ⟨hnear, htie⟩ := mean_bounds sum.natAbs n hn
  unfold meanTowardZero
  dsimp only
  generalize (2 * sum.natAbs + n - 1) / (2 * n) = q at hnear htie ⊢
  have hcast : ((q * n : Nat) : Int) = (q : Int) * n := by push_cast; rfl
  generalize q * n = x at htie hcast
  split
  · rw [Int.neg_mul]
    rw [← hcast] at hnear htie ⊢
    omega
  · rw [← hcast] at hnear htie ⊢
    omega

/-! ## Finishing a check -/

/-- The differences of the VALID records (R107). -/
def State.checkDiffs (s : State) : List Int := s.sync.pairs.filterMap PairRec.difference

/-- The correction of a conclusive check (R107). -/
def State.correction (s : State) : Int := meanTowardZero s.checkDiffs.sum s.checkDiffs.length

/-- The delay that a conclusive check calls for, before it is clamped (R107). -/
def State.calledFor (s : State) : Int := s.sound.live + s.correction

/-- The result of a check that finishes (R107). -/
def State.checkResult (s : State) : SyncResult :=
  let conclusive := decide (3 ≤ s.checkDiffs.length)
  { conclusive, reel := s.sync.target.getD 0, comp := s.boundIdent, records := s.sync.pairs.length, valid := s.checkDiffs.length,
    correction := if conclusive then some s.correction else none,
    proposed := if conclusive then some (clampDelay s.calledFor) else none,
    clamped := conclusive && decide (clampDelay s.calledFor ≠ s.calledFor), staged := conclusive && s.sync.auto,
    pairs := s.sync.pairs, finished := s.clock.now }

/-- The Sync Measurement Unit after a check has finished (R107). -/
def State.checkedSync (s : State) : Sync :=
  { s.sync with
    armed := false, target := none, finishDue := false, light := channelIn .off, echo := channelIn .off,
    last := some s.checkResult }

/-- The delay that a finished check stages: only under auto-apply, and only where it is conclusive (R107). -/
def State.checkedSound (s : State) : Sound :=
  if s.checkResult.staged then { s.sound with staged := clampDelay s.calledFor, pending := true } else s.sound

/-- A finished check: the result, the staged delay, and the two events (R107). -/
theorem finishCheck_eq (s : State) : finishCheck s = occur .syncResult { (if s.checkResult.clamped
    then occur .syncLimit { s with sync := s.checkedSync } else { s with sync := s.checkedSync }) with sound := s.checkedSound } := by
  have hdiffs : (s.sync.pairs.filterMap PairRec.difference).foldl (· + ·) 0 = s.checkDiffs.sum := by
    rw [foldl_add_eq_sum, Int.zero_add]; rfl
  have hsound : ∀ t : State, t.sound = s.sound →
      (if s.checkResult.staged then stageDelay (clampDelay s.calledFor) t else t) = { t with sound := s.checkedSound } := by
    intro t ht
    unfold State.checkedSound
    split
    · rw [stageDelay_of_eq (clampDelay_clampDelay _), State.withStaged, clampDelay_clampDelay, ht]
    · rw [← ht]
  rw [← hsound]
  · simp only [finishCheck, hdiffs]
    rfl
  · split
    · exact (occur_reports _ _).sound_eq
    · rfl

theorem finishCheck_reports (s : State) :
    reportsFrom { s with sync := s.checkedSync, sound := s.checkedSound } (finishCheck s) := by
  rw [finishCheck_eq]
  refine reportsFrom_trans (reportsFrom.setSound (u := { s with sync := s.checkedSync }) ?_ _) (occur_reports _ _)
  split
  · exact occur_reports _ _
  · exact reportsFrom_refl _

@[simp] theorem finishCheck_sync (s : State) : (finishCheck s).sync = s.checkedSync := (finishCheck_reports s).sync_eq
@[simp] theorem finishCheck_sound (s : State) : (finishCheck s).sound = s.checkedSound := (finishCheck_reports s).sound_eq

/-- Other events than the two of a check stand, where ACTION_OVERFLOW is not asked for. -/
theorem finishCheck_event_of_ne (s : State) {k : EventKind} (h : k ≠ .syncResult) (hl : k ≠ .syncLimit) (ho : k ≠ .actionOverflow) :
    (finishCheck s).event k = s.event k := by
  rw [finishCheck_eq, event_occur_of_ne _ h ho]
  split
  · exact event_occur_of_ne { s with sync := s.checkedSync } hl ho
  · rfl

theorem finishCheck_syncResult (s : State) :
    ((finishCheck s).event .syncResult).count = min 65535 ((s.event .syncResult).count + 1) := by
  rw [finishCheck_eq, occur_count _ (by decide)]
  split
  · rw [show ({ occur .syncLimit { s with sync := s.checkedSync } with sound := s.checkedSound } : State).event .syncResult =
      s.event .syncResult from event_occur_of_ne { s with sync := s.checkedSync } (by decide) (by decide)]
  · rfl

/-- SYNC_LIMIT occurs where the delay that the check calls for is clamped (R107). -/
theorem finishCheck_syncLimit (s : State) :
    (s.checkResult.clamped = false → (finishCheck s).event .syncLimit = s.event .syncLimit) ∧
    (s.checkResult.clamped = true →
      ((finishCheck s).event .syncLimit).count = min 65535 ((s.event .syncLimit).count + 1)) := by
  rw [finishCheck_eq, event_occur_of_ne _ (by decide) (by decide)]
  refine ⟨fun h => ?_, fun h => ?_⟩
  · rw [if_neg (by simp [h])]
    rfl
  · rw [if_pos h]
    exact occur_count { s with sync := s.checkedSync } (by decide)

/-- The result of a conclusive check. -/
theorem checkResult_of_conclusive {s : State} (h : 3 ≤ s.checkDiffs.length) :
    s.checkResult.conclusive = true ∧ s.checkResult.correction = some s.correction ∧
    s.checkResult.proposed = some (clampDelay s.calledFor) ∧
    (s.checkResult.clamped = true ↔ clampDelay s.calledFor ≠ s.calledFor) ∧ s.checkResult.staged = s.sync.auto := by
  simp [State.checkResult, h]

theorem checkResult_of_inconclusive {s : State} (h : s.checkDiffs.length < 3) :
    s.checkResult.correction = none ∧ s.checkResult.proposed = none ∧ s.checkResult.clamped = false ∧
    s.checkResult.staged = false := by
  simp [State.checkResult, Nat.not_le.mpr h]

/-! ## The end of a check -/

theorem checkReelEnd_of_other {s : State} {k : Nat} (h : s.sync.armed = false ∨ s.sync.target ≠ some k) : checkReelEnd k s = s := by
  refine if_neg (fun ⟨harmed, htarget⟩ => ?_)
  obtain h | h := h
  · simp [harmed] at h
  · exact h htarget

theorem checkReelEnd_of_target {s : State} {k : Nat} (h : s.sync.armed = true) (h' : s.sync.target = some k) :
    checkReelEnd k s = if s.sync.marking then { s with sync := { s.sync with finishDue := true } } else finishCheck s :=
  if_pos ⟨h, h'⟩

theorem checkClosing_of_unarmed {s : State} (h : s.sync.armed = false) : checkClosing s = s := if_neg (by simp [h])

theorem checkClosing_of_armed {s : State} (h : s.sync.armed = true) : checkClosing s = finishCheck { s with sync := { s.sync with
    pairs := if s.sync.marking then editLast (PairRec.fallback .noEdge) s.sync.pairs else s.sync.pairs } } := if_pos h

/-- Settles O49: the two commands, the records that a mark opens, the live delay, the ends of a check, and its result. -/
theorem syncCommands : Obligations.SyncCommands := by
  refine ⟨fun tag s hserves => ⟨fun delay => ?setSync, fun auto => ?syncCheck⟩, fun s k u missing => ?mark, fun s => ?live,
    fun s k => ?ends, PairRec.difference_eq_some, fun s => ?finish⟩
  case setSync =>
    have hreports := stageDelay_reports delay (acceptCommand s)
    refine ⟨stageDelay delay (acceptCommand s), ?_, reportsFrom_trans ?_ hreports, fun hlow hhigh => ?_, fun hout => ?_⟩
    · refine (next_manage hserves _ _ _).trans ?_
      dsimp only
      rw [hreports.sound_eq, State.withStaged, acceptCommand_sound]
      rfl
    · have hset := (acceptCommand_reports s).setSound { s.sound with staged := clampDelay delay, pending := true }
      rw [State.withStaged, acceptCommand_sound]
      exact hset
    · rw [stageDelay_of_eq (clampDelay_of_in hlow hhigh)]
      exact event_acceptCommand s (by decide) (by decide)
    · rw [stageDelay_of_ne (clampDelay_of_out hout), occur_count _ (by decide)]
      rw [show ((acceptCommand s).withStaged delay).event .syncLimit = s.event .syncLimit from
        event_acceptCommand s (by decide) (by decide)]
  case syncCheck =>
    have htarget : (acceptCommand s).checkTarget = s.checkTarget := by
      rw [State.checkTarget, acceptCommand_timeline]
      have hrow : ∀ k, (acceptCommand s).row k = s.row k := fun k => by rw [State.row, acceptCommand_timeline]; rfl
      simp only [hrow]
      rfl
    refine ⟨fun harmed => ?_, fun harmed hstate => ?_, fun harmed hnone => ?_, fun k harmed hidle hclosing hk => ?_⟩
    · refine (next_manage hserves _ _ _).trans (congrArg Host.Outcome.next (if_pos ?_))
      rw [acceptCommand_sync, harmed]
    all_goals
      refine (next_manage hserves _ _ _).trans (congrArg Host.Outcome.next ?_)
      rw [acceptCommand_sync, harmed, acceptCommand_timeline, htarget]
    · have hopen : s.timeline.state.isOpen = false := by
        obtain h | h := hstate <;> rw [h] <;> rfl
      rw [if_neg (by decide), if_pos hopen]
    · rw [hnone]
      simp
    · have hopen : ¬ s.timeline.state.isOpen = false := by
        cases h : s.timeline.state <;> simp_all [ShowState.isOpen]
      rw [if_neg (by decide), if_neg hopen, hk]
      simp only [State.mapSync, acceptCommand_sync]
  case mark =>
    refine ⟨Sync.marking_iff _, fun h => markRelease_of_not_mark h missing, fun h => ⟨s.sync.earlier, markRelease_of_mark h missing,
      fun hm => ?_, fun before p hm hp => ?_⟩⟩
    · rw [Sync.earlier, hm]; rfl
    · rw [Sync.earlier, if_pos hm, hp, editLast_append]
      exact ⟨fun hv => by rw [PairRec.fallback_of_none hv], fun hv => by rw [PairRec.fallback_of_some hv]⟩
  case live =>
    unfold makeLive staleRecords
    by_cases hd : s.sound.staged = s.sound.live
    · simp [hd, State.mapSound]
    · by_cases ha : s.sync.armed = true
      · simp [hd, ha, State.mapSound, State.mapSync]
      · simp [hd, ha, State.mapSound]
  case ends =>
    refine ⟨checkReelEnd_of_other, fun ha ht => ⟨fun hm => ?_, fun hm => ?_⟩, checkClosing_of_unarmed, fun ha hm => ?_,
      fun before p ha hm hp => ?_⟩
    · rw [checkReelEnd_of_target ha ht, hm]; rfl
    · rw [checkReelEnd_of_target ha ht, if_pos hm]
    · rw [checkClosing_of_armed ha, hm]; rfl
    · rw [checkClosing_of_armed ha, if_pos hm, hp, editLast_append]
      refine ⟨fun hv => by rw [PairRec.fallback_of_none hv], fun hv => ?_⟩
      rw [PairRec.fallback_of_some hv, ← hp]
  case finish =>
    obtain ⟨hkeep, hlimit⟩ := finishCheck_syncLimit s
    refine ⟨s.checkResult, finishCheck_sync s, rfl, rfl, rfl, rfl, rfl, rfl, decide_eq_true_iff, ?_,
      finishCheck_syncResult s, fun hn => ?_, fun hn => ?_⟩
    · rw [finishCheck_sync, finishCheck_sound]
      exact finishCheck_reports s
    · obtain ⟨hcorr, hprop, hclamped, hstaged⟩ := checkResult_of_inconclusive hn
      refine ⟨hcorr, hprop, hclamped, hstaged, ?_, hkeep hclamped⟩
      rw [finishCheck_sound, State.checkedSound, hstaged]
      rfl
    · obtain ⟨-, hcorr, hprop, hclamped, hstaged⟩ := checkResult_of_conclusive hn
      obtain ⟨hnear, htie⟩ := meanTowardZero_near s.checkDiffs.sum s.checkDiffs.length (by unfold State.checkDiffs; omega)
      refine ⟨s.correction, hcorr, hnear, htie, hprop, hclamped, hstaged, ?_, fun h => hkeep ?_, fun h => hlimit (hclamped.mpr h)⟩
      · rw [finishCheck_sound, State.checkedSound, hstaged]
        rfl
      · have hnot : ¬ s.checkResult.clamped = true := fun hc => hclamped.mp hc h
        simpa using hnot

end Sys2Proof.Machine

/-! PROOF. The capture channels: LIGHT and ECHO counts, and the projector frame monitor (R104, R106, R108, R109). -/

namespace Sys2Proof.Machine

section

variable {s : State}

/-! ## Pair counts -/

/-- With no check waiting, the end of a count of LIGHT or ECHO turns both channels OFF where none counts any more (R106). -/
theorem afterPairCount_of_not_due (hdue : s.sync.finishDue = false) : afterPairCount s =
    if s.sync.light.ended = true ∧ s.sync.echo.ended = true then
      { s with sync := { s.sync with light := channelIn .off, echo := channelIn .off } }
    else s := by
  unfold afterPairCount
  by_cases hended : s.sync.light.ended = true ∧ s.sync.echo.ended = true
  · simp only [State.mapSync, if_pos hended]
    exact if_neg (fun h => Bool.false_ne_true (hdue.symm.trans h.1))
  · simp only [State.mapSync, if_neg hended]
    exact if_neg (fun h => Bool.false_ne_true (hdue.symm.trans h.1))

theorem CapChannel.ended_of_counting {c : CapChannel} (h : c.state = .counting) : c.ended = false := by
  rw [CapChannel.ended, h]; rfl

/-! ## The projector frame monitor -/

theorem badMeasurement_from (s : State) :
    reportsFrom { s with sync := { s.sync with bad := min 4 (s.sync.bad + 1), good := 0 } } (badMeasurement s) := by
  unfold badMeasurement
  dsimp only
  split
  · exact assertEvent_reports _ _
  · exact reportsFrom_refl _

theorem goodMeasurement_from (s : State) :
    reportsFrom { s with sync := { s.sync with good := min 16 (s.sync.good + 1), bad := 0 } } (goodMeasurement s) := by
  unfold goodMeasurement
  dsimp only
  split
  · exact deassertEvent_reports _ _
  · exact reportsFrom_refl _

/-- PROJECTOR_SLIP at the fourth bad measurement in a row, and not before (R108). -/
theorem badMeasurement_slip (s : State) :
    (3 ≤ s.sync.bad → (badMeasurement s).isAsserted .projectorSlip = true) ∧
    (s.sync.bad < 3 → (badMeasurement s).isAsserted .projectorSlip = s.isAsserted .projectorSlip) := by
  have hcount : (s.mapSync (fun y => { y with bad := satAdd 4 1 y.bad, good := 0 })).sync.bad = min 4 (s.sync.bad + 1) := rfl
  unfold badMeasurement
  dsimp only
  rw [hcount]
  refine ⟨fun h => ?_, fun h => ?_⟩
  · rw [if_pos (by omega)]
    exact isAsserted_assertEvent _ _
  · rw [if_neg (by omega)]
    rfl

/-- PROJECTOR_SLIP ends at the sixteenth good measurement in a row (R108). -/
theorem goodMeasurement_slip (s : State) :
    (15 ≤ s.sync.good → (goodMeasurement s).isAsserted .projectorSlip = false) ∧
    (s.sync.good < 15 → (goodMeasurement s).isAsserted .projectorSlip = s.isAsserted .projectorSlip) := by
  have hcount : (s.mapSync (fun y => { y with good := satAdd 16 1 y.good, bad := 0 })).sync.good = min 16 (s.sync.good + 1) := rfl
  unfold goodMeasurement
  dsimp only
  rw [hcount]
  refine ⟨fun h => ?_, fun h => ?_⟩
  · rw [if_pos (by omega)]
    exact isAsserted_deassertEvent _ _ (by decide)
  · rw [if_neg (by omega)]
    rfl

theorem measureFrame_of_near {n : Nat} (h : n ≤ s.expectedPeriod + s.expectedPeriod / 64 ∧ s.expectedPeriod ≤ n + s.expectedPeriod / 64) :
    measureFrame n s = goodMeasurement s := by
  refine if_pos ?_
  split <;> omega

theorem measureFrame_of_not_near {n : Nat}
    (h : ¬ (n ≤ s.expectedPeriod + s.expectedPeriod / 64 ∧ s.expectedPeriod ≤ n + s.expectedPeriod / 64)) :
    measureFrame n s = badMeasurement s := by
  refine if_neg ?_
  split <;> omega

/-- A measurement changes the two runs of the Sync Measurement Unit and hands over reports (R108). -/
theorem measureFrame_from (n : Nat) (s : State) : ∃ bad good,
    reportsFrom { s with sync := { s.sync with bad := bad, good := good } } (measureFrame n s) := by
  by_cases hnear : n ≤ s.expectedPeriod + s.expectedPeriod / 64 ∧ s.expectedPeriod ≤ n + s.expectedPeriod / 64
  · rw [measureFrame_of_near hnear]
    exact ⟨0, min 16 (s.sync.good + 1), goodMeasurement_from s⟩
  · rw [measureFrame_of_not_near hnear]
    exact ⟨min 4 (s.sync.bad + 1), 0, badMeasurement_from s⟩

/-- A measurement tells whether the signal is there no more than before (R108). -/
theorem measureFrame_signal (n : Nat) (s : State) : (measureFrame n s).isAsserted .frameSignalLost = s.isAsserted .frameSignalLost := by
  have hevent : (measureFrame n s).event .frameSignalLost = s.event .frameSignalLost := by
    unfold measureFrame goodMeasurement badMeasurement
    dsimp only
    generalize (if n < s.expectedPeriod then s.expectedPeriod - n else n - s.expectedPeriod) = d
    split <;> split
    · rw [event_deassertEvent_of_ne _ (by decide) (by decide)]; rfl
    · rfl
    · rw [event_assertEvent_of_ne _ (by decide) (by decide)]; rfl
    · rfl
  rw [State.isAsserted, hevent]
  rfl

/-- The state behind a rising edge on FRAME: the signal is there (R109). -/
def signalled (s : State) : State := deassertEvent .frameSignalLost s

theorem signalled_reports (s : State) : reportsFrom s (signalled s) := deassertEvent_reports _ s

/-- A rising edge on FRAME by the mode and state of its channel (R104, R108, R109). -/
theorem frameEdge_rising (s : State) :
    frameEdge .rising s = (signalled s).mapSync (fun y => { y with frame := (frameEdge .rising s).sync.frame }) ∨
    ∃ n frame, frameEdge .rising s = measureFrame n ((signalled s).mapSync (fun y => { y with frame := frame })) := by
  unfold frameEdge signalled
  rw [if_pos rfl]
  generalize deassertEvent .frameSignalLost s = t
  dsimp only
  split
  · exact .inl rfl
  · exact .inl rfl
  · split
    · exact .inr ⟨_, _, rfl⟩
    · exact .inl rfl
  · exact .inl rfl
  · exact .inl rfl

/-- Ticks counted; none behind a count that ended as NO_EDGE. -/
def CapCount.value : CapCount → Nat
  | .ticks n => n
  | .noEdge => 0

/-- FRAME once its count has reached four expected periods (R108, R109). -/
def State.lostFrame (s : State) : CapChannel :=
  { s.sync.frame with count := .ticks (max s.sync.frame.count.value (4 * s.expectedPeriod)), judged := true }

theorem loseFrame_eq (s : State) : loseFrame s = assertEvent .frameSignalLost (if s.sync.frame.mode = .period
    then badMeasurement (s.mapSync (fun y => { y with frame := s.lostFrame }))
    else s.mapSync (fun y => { y with frame := s.lostFrame })) := by
  unfold loseFrame State.lostFrame CapCount.value
  rfl

/-- The loss of the FRAME signal (R108, R109). -/
theorem loseFrame_from (s : State) : ∃ bad good, (loseFrame s).isAsserted .frameSignalLost = true ∧
    reportsFrom { s with sync := { s.sync with frame := s.lostFrame, bad := bad, good := good } } (loseFrame s) ∧
    (s.sync.frame.mode = .period → bad = min 4 (s.sync.bad + 1) ∧ good = 0) ∧
    (s.sync.frame.mode ≠ .period → bad = s.sync.bad ∧ good = s.sync.good) := by
  rw [loseFrame_eq]
  by_cases h : s.sync.frame.mode = .period
  · rw [if_pos h]
    exact ⟨min 4 (s.sync.bad + 1), 0, isAsserted_assertEvent _ _, reportsFrom_trans
      (badMeasurement_from (s.mapSync (fun y => { y with frame := s.lostFrame }))) (assertEvent_reports _ _), fun _ => ⟨rfl, rfl⟩,
      fun h' => absurd h h'⟩
  · rw [if_neg h]
    exact ⟨s.sync.bad, s.sync.good, isAsserted_assertEvent _ _, assertEvent_reports _ _, fun h' => absurd h' h, fun _ => ⟨rfl, rfl⟩⟩

/-! ## The expected period -/

theorem expectedPeriod_congr {s t : State} (h : t.timeline = s.timeline) : t.expectedPeriod = s.expectedPeriod := by
  unfold State.expectedPeriod State.currentRow State.row
  rw [h]

theorem framePeriod_eq (r : Reel) : r.framePeriod = if r.stereo then r.ticks / 2 else r.ticks := rfl

/-- The edge that ends a count of LIGHT or ECHO in MARK_DELAY begins its width (R106). -/
theorem endPairCount_of_width (c : Channel) (n : CapCount) (next : CapChannel) (hnext : next.state = .counting)
    (hc : c = .light ∨ c = .echo) (hdue : s.sync.finishDue = false) :
    endPairCount c n next s = { s with sync := { s.sync.setChannel c next with
      pairs := editLast (fun p => (p.put c (s.sync.channel c).mode n).settle) s.sync.pairs } } := by
  have hended := CapChannel.ended_of_counting hnext
  unfold endPairCount State.mapSync
  dsimp only
  obtain rfl | rfl := hc
  all_goals
    refine (afterPairCount_of_not_due (by exact hdue)).trans (if_neg ?_)
    rintro ⟨h1, h2⟩
  · exact Bool.false_ne_true (hended.symm.trans h1)
  · exact Bool.false_ne_true (hended.symm.trans h2)

/-- A rising edge on FRAME leaves Timeline and Picture Output, and the signal is there (R109). -/
theorem frameEdge_rising_frame (s : State) : (frameEdge .rising s).isAsserted .frameSignalLost = false ∧
    (frameEdge .rising s).timeline = s.timeline ∧ (frameEdge .rising s).picture = s.picture := by
  have hreports := signalled_reports s
  have hclear : (signalled s).isAsserted .frameSignalLost = false := isAsserted_deassertEvent _ _ (by decide)
  obtain h | ⟨n, frame, h⟩ := frameEdge_rising s
  · rw [h]
    exact ⟨hclear, hreports.timeline_eq, hreports.picture_eq⟩
  · obtain ⟨bad, good, hmeasure⟩ := measureFrame_from n ((signalled s).mapSync (fun y => { y with frame := frame }))
    rw [h, measureFrame_signal, hmeasure.timeline_eq, hmeasure.picture_eq]
    exact ⟨hclear, hreports.timeline_eq, hreports.picture_eq⟩

/-- A rising edge that ends an unjudged PERIOD count measures it and begins the next (R108). -/
theorem frameEdge_of_period {n : Nat} (h : s.sync.frame = { mode := .period, state := .counting, count := .ticks n, judged := false }) :
    frameEdge .rising s = measureFrame n ((signalled s).mapSync (fun y =>
      { y with frame := { mode := .period, state := .counting, count := .ticks 0, judged := false } })) := by
  have hframe : (signalled s).sync.frame = { mode := .period, state := .counting, count := .ticks n, judged := false } := by
    rw [(signalled_reports s).sync_eq, h]
  unfold frameEdge signalled at *
  rw [if_pos rfl]
  simp only [hframe]

end

/-- Settles O50: the pair counts by the ends of their counts, FRAME by its edge and its loss, and the measurement that an edge ends. -/
theorem captureChannels : Obligations.CaptureChannels := by
  intro s hrun
  have hevent : ∀ c e, exec (.captureEdge c e) s = .next (takeEdge c e s) := fun _ _ => next_running hrun _
  have htimeout : ∀ c, exec (.captureCountTimeout c) s = .next (countTimeout c s) := fun _ => next_running hrun _
  refine ⟨fun n hc hdue => ?light, fun n hc hdue => ?echo, fun hmode hstate hdue => ?timeout, fun hstate => ?frameTimeout, ?edge,
    fun hstate hjudged => ?loss, fun n hc => ?period, fun c row hc hrow => ?cursor, fun u row hc hu hrow => ?last⟩
  case light =>
    rw [hevent]
    refine congrArg Host.Outcome.next ?_
    have hedge : takeEdge .light .rising s = endPairCount .light (.ticks n)
        { mode := .highWidth, state := .counting, count := .ticks 0, judged := false } s := by
      simp only [takeEdge, pairEdge, Sync.channel, hc]
    rw [hedge, endPairCount_of_width _ _ _ rfl (.inl rfl) hdue]
    simp only [Sync.setChannel, Sync.channel, hc, PairRec.put]
  case echo =>
    rw [hevent]
    refine congrArg Host.Outcome.next ?_
    have hedge : takeEdge .echo .rising s = endPairCount .echo (.ticks n)
        { mode := .highWidth, state := .counting, count := .ticks 0, judged := false } s := by
      simp only [takeEdge, pairEdge, Sync.channel, hc]
    rw [hedge, endPairCount_of_width _ _ _ rfl (.inr rfl) hdue]
    simp only [Sync.setChannel, Sync.channel, hc, PairRec.put]
  case timeout =>
    have hcount : countTimeout .light s = endPairCount .light .noEdge { s.sync.light with state := .done, count := .noEdge } s := by
      unfold countTimeout
      exact if_neg (by rw [Sync.channel]; exact (fun hn => hn hstate))
    refine ⟨_, htimeout _, ?_⟩
    rw [hcount, endPairCount, afterPairCount_of_not_due (by exact hdue)]
    simp only [State.mapSync, Sync.setChannel, Sync.channel, hmode, PairRec.put]
    split
    · exact ⟨rfl, nofun, rfl⟩
    · exact ⟨rfl, by simp, rfl⟩
  case frameTimeout =>
    refine ⟨_, htimeout _, ?_⟩
    unfold countTimeout
    rw [if_neg (by rw [Sync.channel]; exact (fun hn => hn hstate))]
    refine ⟨rfl, rfl, fun hjudged => ?_⟩
    obtain ⟨-, -, hlost, -⟩ := loseFrame_from s
    simp only [Sync.channel, hjudged]
    exact hlost
  case edge => exact ⟨_, hevent _ _, frameEdge_rising_frame s⟩
  case loss =>
    obtain ⟨bad, good, hlost, hreports, hperiod, hother⟩ := loseFrame_from s
    refine ⟨loseFrame s, (next_running hrun _).trans (congrArg Host.Outcome.next (if_pos ⟨hstate, hjudged⟩)), hlost, ?_,
      hreports.timeline_eq, hreports.picture_eq, fun h => ?_, fun h => ?_⟩
    · rw [hreports.sync_eq]; rfl
    · rw [hreports.sync_eq]; exact hperiod h
    · rw [hreports.sync_eq]; exact hother h
  case period =>
    intro e near
    let begun : CapChannel := { mode := .period, state := .counting, count := .ticks 0, judged := false }
    have hbegun : begun = { mode := .period, state := .counting, count := .ticks 0, judged := false } := rfl
    rw [← hbegun]
    let v := (signalled s).mapSync (fun y => { y with frame := begun })
    have hv : v = (signalled s).mapSync (fun y => { y with frame := begun }) := rfl
    have hsync : v.sync = { s.sync with frame := begun } := by rw [hv, State.mapSync, (signalled_reports s).sync_eq]
    have hexpected : v.expectedPeriod = e := expectedPeriod_congr (signalled_reports s).timeline_eq
    have hslip : v.isAsserted .projectorSlip = s.isAsserted .projectorSlip := by
      rw [State.isAsserted, show v.event .projectorSlip = s.event .projectorSlip from
        event_deassertEvent_of_ne _ (by decide) (by decide)]
      rfl
    have hedge : takeEdge .frame .rising s = measureFrame n v := frameEdge_of_period hc
    refine ⟨_, hevent _ _, ?_⟩
    rw [hedge]
    by_cases hnear : near
    · have hgood := goodMeasurement_from v
      obtain ⟨hclear, hstay⟩ := goodMeasurement_slip v
      rw [hsync] at hclear hstay hgood
      rw [measureFrame_of_near (by rw [hexpected]; exact hnear), hgood.sync_eq]
      refine ⟨rfl, fun _ => ⟨rfl, rfl, hclear⟩, fun h => absurd hnear h, fun h => ?_⟩
      rw [hstay (h.resolve_right fun hn => hn.1 hnear).2, hslip]
    · have hbad := badMeasurement_from v
      obtain ⟨hset, hstay⟩ := badMeasurement_slip v
      rw [hsync] at hset hstay hbad
      rw [measureFrame_of_not_near (by rw [hexpected]; exact hnear), hbad.sync_eq]
      refine ⟨rfl, fun h => absurd h hnear, fun _ => ⟨rfl, rfl, hset⟩, fun h => ?_⟩
      rw [hstay (h.resolve_left fun hn => hnear hn.1).2, hslip]
  case cursor =>
    rw [State.expectedPeriod, State.currentRow, hc]
    simp only [hrow, Option.map_some, Option.getD_some, framePeriod_eq]
  case last =>
    rw [State.expectedPeriod, State.currentRow, hc, hu]
    simp only [Option.bind_some, hrow, Option.map_some, Option.getD_some, framePeriod_eq]

end Sys2Proof.Machine

/-! PROOF. Entry to CLOSING, block by block, and the events that close a showing (R20, R39, R48, R72, R83, R88 to R90, R107, R126, R136,
R153). -/

namespace Sys2Proof.Machine

/-! ## Reports offered one after another -/

theorem occur_appendsEvents (k : EventKind) (s : State) : appendsEvents s (occur k s) := (occur_atMost k s).events

theorem enterState_appendsEvents (st : ShowState) (s : State) : appendsEvents s (enterState st s) := (enterState_atMost s st).events

theorem returnBlocks_appendsEvents (n : Nat) (s : State) : appendsEvents s (returnBlocks n s) := by
  unfold returnBlocks
  dsimp only
  split
  · exact deassertEvent_appendsEvents _ _
  · exact appendsEvents_refl s

/-- Offering reports changes the queue alone (R12). -/
theorem LinkPort.foldl_offer_eq : ∀ (rs : List Report) (l : LinkPort),
    rs.foldl LinkPort.offer l = { l with queue := (rs.foldl LinkPort.offer l).queue }
  | [], _ => rfl
  | r :: rs, l => by
    rw [List.foldl_cons, LinkPort.foldl_offer_eq rs]
    rw [LinkPort.offer_eq l r]

/-- A report in the queue, whose lane none of the reports offered holds, stays there while there is room (R12, R13). -/
theorem LinkPort.mem_foldl_offer_of_mem {x : Report} : ∀ (rs : List Report) (l : LinkPort), x ∈ l.queue →
    l.queue.length + rs.length ≤ 64 → (∀ r ∈ rs, x.holdLane ≠ r.holdLane ∨ r.holdLane = none) →
      x ∈ (rs.foldl LinkPort.offer l).queue
  | [], _, hx, _, _ => hx
  | r :: rs, l, hx, hroom, hlanes => by
    rw [List.length_cons] at hroom
    have hlen := (LinkPort.length_offer l r).1
    exact LinkPort.mem_foldl_offer_of_mem rs (l.offer r)
      (LinkPort.mem_offer hx (by omega) (hlanes r (List.mem_cons_self ..))) (by omega)
      (fun r' hr' => hlanes r' (List.mem_cons_of_mem _ hr'))

/-- Reports of different lanes that find room are all in the queue (R12, R13). -/
theorem LinkPort.mem_foldl_offer : ∀ (rs : List Report) (l : LinkPort), l.state = .up → l.queue.length + rs.length ≤ 64 →
    (rs.filterMap Report.holdLane).Nodup → ∀ x ∈ rs, x ∈ (rs.foldl LinkPort.offer l).queue
  | [], _, _, _, _, x, hx => by cases hx
  | r :: rs, l, hup, hroom, hnodup, x, hx => by
    rw [List.length_cons] at hroom
    have hlen := (LinkPort.length_offer l r).1
    have hup' : (l.offer r).state = .up := by rw [LinkPort.offer_eq]; exact hup
    have hrest : (rs.filterMap Report.holdLane).Nodup := by
      refine hnodup.sublist (List.Sublist.filterMap _ (List.sublist_cons_self r rs))
    obtain rfl | hx := List.mem_cons.mp hx
    · refine LinkPort.mem_foldl_offer_of_mem rs (l.offer x) (LinkPort.mem_offer_self hup (by omega)) (by omega) fun r' hr' => ?_
      cases hlane : r'.holdLane with
      | none => exact .inr rfl
      | some lane =>
        refine .inl fun hsame => ?_
        rw [List.filterMap_cons_some hsame, List.nodup_cons] at hnodup
        exact hnodup.1 (List.mem_filterMap.mpr ⟨r', hr', hlane⟩)
    · exact LinkPort.mem_foldl_offer rs (l.offer r) hup' (by omega) hrest x hx

/-! ## Caption messages -/

/-- Caption messages handed to the line one after another (R124). -/
def CueEngine.offers (c : CueEngine) (ms : List CaptionMsg) : CueEngine := ms.foldl (fun c m => (c.offer m).1) c

/-- Caption messages that find room are all admitted, and nothing but the line and its queue changes (R124, R125). -/
theorem CueEngine.offers_of_room : ∀ (ms : List CaptionMsg) (c : CueEngine), c.queue.length + ms.length ≤ 32 →
    (c.line = .idle → c.queue = []) →
      ((c.offers ms).line, (c.offers ms).queue) = admitted (decide (c.line = .idle)) c.line c.queue ms ∧
      c.offers ms = { c with line := (c.offers ms).line, queue := (c.offers ms).queue, timer := (c.offers ms).timer }
  | [], c, _, hidle => by
    refine ⟨?_, rfl⟩
    unfold admitted
    by_cases h : c.line = .idle
    · simp [CueEngine.offers, h, hidle h]
    · simp [CueEngine.offers, h]
  | m :: ms, c, hroom, hidle => by
    have hfree : ¬ Config.captionPlaces ≤ c.queue.length := by
      simp only [Config.captionPlaces, List.length_cons] at *; omega
    by_cases h : c.line = .idle
    · have hoffer : (c.offer m).1 = { c with queue := [], line := .sending m, timer := captionTicks m } := by
        rw [CueEngine.offer, if_neg hfree, h, hidle h]; rfl
      obtain ⟨hline, hsame⟩ := CueEngine.offers_of_room ms { c with queue := [], line := .sending m, timer := captionTicks m }
        (by simp only [List.length_cons, List.length_nil] at *; omega) (fun h' => by cases h')
      simp only [CueEngine.offers, List.foldl_cons, hoffer] at hline hsame ⊢
      refine ⟨?_, hsame⟩
      rw [hline]
      simp [admitted, h, hidle h]
    · have hoffer : (c.offer m).1 = { c with queue := c.queue ++ [m] } := by
        rw [CueEngine.offer, if_neg hfree]
        split
        · next hl _ => exact absurd hl h
        · rfl
      obtain ⟨hline, hsame⟩ := CueEngine.offers_of_room ms { c with queue := c.queue ++ [m] }
        (by simp only [List.length_cons, List.length_append, List.length_nil] at *; omega) (fun h' => absurd h' h)
      simp only [CueEngine.offers, List.foldl_cons, hoffer] at hline hsame ⊢
      refine ⟨?_, hsame⟩
      rw [hline]
      simp [admitted, h]

theorem CueEngine.offer_of_room {c : CueEngine} (m : CaptionMsg) (h : c.queue.length < 32) :
    (c.offer m).2 = true ∧ (c.offer m).1.queue.length ≤ c.queue.length + 1 := by
  unfold CueEngine.offer
  rw [if_neg (by simp only [Config.captionPlaces]; omega)]
  split
  next next_ rest _ hq =>
    have : (c.queue ++ [m]).length = rest.length + 1 := by rw [hq]; rfl
    rw [List.length_append] at this
    simp only [List.length_cons, List.length_nil] at this
    exact ⟨rfl, show rest.length ≤ c.queue.length + 1 by omega⟩
  next => exact ⟨rfl, by simp⟩

/-- A caption message that finds room goes to the line alone (R124). -/
theorem offerCaption_of_room {m : CaptionMsg} {s : State} (h : s.cues.queue.length < 32) :
    offerCaption m s = ({ s with cues := (s.cues.offer m).1 }, true) := by
  unfold offerCaption
  dsimp only
  exact if_pos (CueEngine.offer_of_room m h).1

theorem queueCaption_of_room {m : CaptionMsg} {s : State} (h : s.cues.queue.length < 32) :
    queueCaption m s = { s with cues := (s.cues.offer m).1 } := by rw [queueCaption, offerCaption_of_room h]

/-- Caption messages that find room go to the line alone (R124). -/
theorem foldl_queueCaption : ∀ (ms : List CaptionMsg) (s : State), s.cues.queue.length + ms.length ≤ 32 →
    ms.foldl (fun s m => queueCaption m s) s = { s with cues := s.cues.offers ms }
  | [], _, _ => rfl
  | m :: ms, s, h => by
    rw [List.length_cons] at h
    have hlen := (CueEngine.offer_of_room (c := s.cues) m (by omega)).2
    rw [List.foldl_cons, queueCaption_of_room (by omega), foldl_queueCaption ms _ (by simp only; omega)]
    rfl

/-! ## Slots, queues and the pool -/

/-- `t` is `u` but for slots, buffer and counters, and what reaches the Event Table. -/
def slotsFrom (u t : State) : Prop :=
  t = { u with
    slots := t.slots, buffer := t.buffer, counters := t.counters, events := t.events,
    actions := { u.actions with queue := t.actions.queue, line := t.actions.line, timer := t.actions.timer },
    link := { u.link with queue := t.link.queue } }

theorem slotsFrom_refl (s : State) : slotsFrom s s := rfl

theorem slotsFrom_trans {s t u : State} (h : slotsFrom s t) (h' : slotsFrom t u) : slotsFrom s u := by
  unfold slotsFrom at *
  rw [h'] at *
  rw [h]

theorem slotsFrom_of_reports {s t : State} (h : reportsFrom s t) : slotsFrom s t := by
  unfold slotsFrom
  unfold reportsFrom at h
  rw [h]

theorem slotsFrom_foldl {α : Type} {f : State → α → State} (h : ∀ s a, slotsFrom s (f s a)) :
    ∀ (l : List α) (s : State), slotsFrom s (l.foldl f s)
  | [], s => slotsFrom_refl s
  | a :: l, s => slotsFrom_trans (h s a) (slotsFrom_foldl h l (f s a))

/-- What emptying slots and returning blocks leave alone, beside what the whole content path leaves alone. -/
theorem slotsFrom.fields {u t : State} (h : slotsFrom u t) :
    t.wanted = u.wanted ∧ t.holds = u.holds ∧ t.cues = u.cues ∧ t.draws = u.draws := by
  unfold slotsFrom at h
  rw [h]
  exact ⟨rfl, rfl, rfl, rfl⟩

theorem returnBlocks_slotsFrom (n : Nat) (s : State) : slotsFrom s (returnBlocks n s) :=
  slotsFrom_trans (t := { s with buffer := { s.buffer with pool := s.buffer.pool + n } }) rfl
    (slotsFrom_of_reports (returnBlocks_reports n s))

theorem emptySlots_slotsFrom (l : Lane) (goes : AsmSlot → Bool) (note : Nat → Counters → Counters) (s : State) :
    slotsFrom s (emptySlots l goes note s) :=
  slotsFrom_trans (t := (s.setSlots l ((s.laneSlots l).filter (fun x => !goes x))).count (note ((s.laneSlots l).filter goes).length))
    rfl (returnBlocks_slotsFrom _ _)

/-! ## Lanes purged -/

/-- One lane's part of the purge at CLOSING (R20, R39). -/
def purgeLane (l : Lane) (s : State) : State :=
  returnBlocks (unitBlocks (s.queue l)) ((emptySlots l (fun _ => true) noteAbandoned s).setQueue l [])

/-- Some lanes purged, one after another (R20, R39). -/
def purgeSome (ls : List Lane) (s : State) : State := ls.foldl (fun s l => purgeLane l s) s

theorem purgeLanes_eq (s : State) : purgeLanes s = purgeSome allLanes s := rfl

theorem purgeLane_laneSlots (l m : Lane) (s : State) : (purgeLane l s).laneSlots m = if m = l then [] else s.laneSlots m := by
  rw [purgeLane, returnBlocks_laneSlots]
  have hnone : (s.laneSlots l).filter (fun _ => !true) = [] := List.filter_eq_nil_iff.mpr (by simp)
  exact (emptySlots_laneSlots l m (fun _ => true) noteAbandoned s).trans
    (congrArg (fun slots => if m = l then slots else s.laneSlots m) hnone)

theorem purgeLane_queue (l m : Lane) (s : State) : (purgeLane l s).queue m = if m = l then [] else s.queue m := by
  rw [purgeLane, returnBlocks_queue, queue_setQueue, emptySlots_queue]

theorem purgeLane_pool (l : Lane) (s : State) : (purgeLane l s).buffer.pool = s.buffer.pool + s.laneBlocks l := by
  have hslots : slotBlocks ((s.laneSlots l).filter (fun _ => true)) = slotBlocks (s.laneSlots l) := by
    rw [List.filter_eq_self.mpr fun _ _ => rfl]
  rw [purgeLane, returnBlocks_buffer]
  simp only [setQueue_buffer, emptySlots_pool, hslots, State.laneBlocks]
  omega

theorem purgeLane_appendsEvents (l : Lane) (s : State) : appendsEvents s (purgeLane l s) :=
  appendsEvents_trans (emptySlots_appendsEvents l _ _ s) (returnBlocks_appendsEvents _ _)

theorem purgeLane_slotsFrom (l : Lane) (s : State) : slotsFrom s (purgeLane l s) :=
  slotsFrom_trans (slotsFrom_trans (emptySlots_slotsFrom l _ _ s) (t := emptySlots l (fun _ => true) noteAbandoned s)
    (u := (emptySlots l (fun _ => true) noteAbandoned s).setQueue l []) rfl) (returnBlocks_slotsFrom _ _)

theorem event_returnBlocks (n : Nat) (s : State) {k : EventKind} (h : k ≠ .bufferFull) (ho : k ≠ .actionOverflow) :
    (returnBlocks n s).event k = s.event k := by
  unfold returnBlocks
  dsimp only
  split
  · rw [event_deassertEvent_of_ne _ h ho]; rfl
  · rfl

theorem event_emptySlots (l : Lane) (goes : AsmSlot → Bool) (note : Nat → Counters → Counters) (s : State) {k : EventKind}
    (h : k ≠ .bufferFull) (ho : k ≠ .actionOverflow) : (emptySlots l goes note s).event k = s.event k :=
  (event_returnBlocks _ _ h ho).trans rfl

theorem event_purgeLane (l : Lane) (s : State) {k : EventKind} (h : k ≠ .bufferFull) (ho : k ≠ .actionOverflow) :
    (purgeLane l s).event k = s.event k :=
  (event_returnBlocks _ _ h ho).trans (event_emptySlots l _ _ s h ho)

/-- What purging some lanes leaves: those lanes empty, the others as they were, and their blocks in the pool (R20, R39). -/
theorem purgeSome_lanes : ∀ (ls : List Lane) (s : State), ls.Nodup →
    (∀ m, (purgeSome ls s).laneSlots m = if m ∈ ls then [] else s.laneSlots m) ∧
    (∀ m, (purgeSome ls s).queue m = if m ∈ ls then [] else s.queue m) ∧
    (purgeSome ls s).buffer.pool = s.buffer.pool + (ls.map s.laneBlocks).sum
  | [], s, _ => by simp [purgeSome]
  | l :: ls, s, hnodup => by
    obtain ⟨hnotin, hrest⟩ := List.nodup_cons.mp hnodup
    obtain ⟨hslots, hqueue, hpool⟩ := purgeSome_lanes ls (purgeLane l s) hrest
    have hblocks : ls.map (purgeLane l s).laneBlocks = ls.map s.laneBlocks := List.map_congr_left fun m hm => by
      have hne : m ≠ l := fun h => hnotin (h ▸ hm)
      rw [State.laneBlocks, purgeLane_laneSlots, purgeLane_queue, if_neg hne, if_neg hne, State.laneBlocks]
    refine ⟨fun m => ?_, fun m => ?_, ?_⟩
    · refine (hslots m).trans ?_
      rw [purgeLane_laneSlots]
      by_cases hm : m = l <;> simp [hm]
    · refine (hqueue m).trans ?_
      rw [purgeLane_queue]
      by_cases hm : m = l <;> simp [hm]
    · refine hpool.trans ?_
      rw [hblocks, purgeLane_pool, List.map_cons, List.sum_cons]
      omega

theorem purgeSome_cons (l : Lane) (ls : List Lane) (s : State) : purgeSome (l :: ls) s = purgeSome ls (purgeLane l s) := rfl

theorem purgeSome_slotsFrom (ls : List Lane) (s : State) : slotsFrom s (purgeSome ls s) :=
  slotsFrom_foldl (fun s l => purgeLane_slotsFrom l s) ls s

theorem purgeSome_appendsEvents (ls : List Lane) (s : State) : appendsEvents s (purgeSome ls s) :=
  appendsEvents_foldl (fun s l => purgeLane_appendsEvents l s) ls s

theorem event_purgeSome {k : EventKind} (h : k ≠ .bufferFull) (ho : k ≠ .actionOverflow) :
    ∀ (ls : List Lane) (s : State), (purgeSome ls s).event k = s.event k
  | [], _ => rfl
  | l :: ls, s => by rw [purgeSome_cons, event_purgeSome h ho ls, event_purgeLane l s h ho]

/-- What the purge at CLOSING leaves (R20, R39): every lane empty and its blocks in the pool. -/
theorem purgeLanes_lanes (s : State) : (∀ m, (purgeLanes s).laneSlots m = []) ∧ (∀ m, (purgeLanes s).queue m = []) ∧
    (purgeLanes s).buffer.pool = s.totalBlocks := by
  obtain ⟨hslots, hqueue, hpool⟩ := purgeSome_lanes allLanes s nodup_allLanes
  rw [purgeLanes_eq, State.totalBlocks_eq, sumLanes_eq_sum]
  refine ⟨fun m => ?_, fun m => ?_, hpool⟩
  · rw [hslots, if_pos (mem_allLanes m)]
  · rw [hqueue, if_pos (mem_allLanes m)]

theorem purgeLanes_slotsFrom (s : State) : slotsFrom s (purgeLanes s) := by
  rw [purgeLanes_eq]
  exact purgeSome_slotsFrom _ s

theorem purgeLanes_appendsEvents (s : State) : appendsEvents s (purgeLanes s) := by
  rw [purgeLanes_eq]
  exact purgeSome_appendsEvents _ s

theorem event_purgeLanes (s : State) {k : EventKind} (h : k ≠ .bufferFull) (ho : k ≠ .actionOverflow) :
    (purgeLanes s).event k = s.event k := by
  rw [purgeLanes_eq, event_purgeSome h ho]

end Sys2Proof.Machine

/-! PROOF. Entry to CLOSING, block by block, and the events that close a showing (R20, R39, R48, R72, R83, R88 to R90, R107, R126, R136,
R153). -/

namespace Sys2Proof.Machine

/-! ## The stages of CLOSING -/

section

variable (o : ShowOutcome) (s : State)

/-- The outputs, the Timeline and the Action Unit at CLOSING, before the reports (R90, R98, R153). -/
def closedOutputs : State :=
  deassertEvent .stall { closeSound (enterState .closing (unresolveActions (s.mapTimeline (Timeline.closing o)))) with
    picture := PictureOut.reset }

/-- The lanes at CLOSING, once the reports have been offered: nothing wanted, nothing held (R20, R39, R48). -/
def closedLanes : State :=
  { purgeLanes { queueClosingReports (closedOutputs o s) with wanted := [] } with holds := AvLanes.all LaneHold.reset }

theorem enterClosing_eq : enterClosing o s = queueClose o (checkClosing (cueClosing (closedLanes o s))) := rfl

/-- What the outputs' closing changes (R90, R98, R153). -/
theorem closedOutputs_from : ∃ frame, reportsFrom { s with
    timeline := { s.timeline.closing o with state := .closing }, sync := { s.sync with frame := frame },
    actions := (unresolveActions s).actions, sound := (closeSound s).sound, picture := PictureOut.reset } (closedOutputs o s) := by
  obtain ⟨frame, hstate⟩ := enterState_eq .closing (unresolveActions (s.mapTimeline (Timeline.closing o)))
  refine ⟨frame, reportsFrom_trans ?_ (deassertEvent_reports _ _)⟩
  rw [hstate]
  obtain ⟨q, ev, aq, al, at_, dropped, h⟩ := (fireTrigger_reports (.state .closing)
    { unresolveActions (s.mapTimeline (Timeline.closing o)) with
      timeline := { (unresolveActions (s.mapTimeline (Timeline.closing o))).timeline with state := .closing },
      sync := { (unresolveActions (s.mapTimeline (Timeline.closing o))).sync with frame := frame } }).exists_eq
  rw [h]
  rfl

theorem closedOutputs_atMost : appendsAtMost 3 s (closedOutputs o s) := by
  refine appendsAtMost_trans (m := 1) (t := { closeSound (enterState .closing (unresolveActions (s.mapTimeline (Timeline.closing o)))) with
    picture := PictureOut.reset }) ?_ (deassertEvent_atMost _ _)
  obtain ⟨rest, hevents, hlen, hqueue⟩ := enterState_atMost (unresolveActions (s.mapTimeline (Timeline.closing o))) .closing
  exact ⟨rest, hevents, hlen, hqueue⟩

end

section

variable (s : State)

/-! ## The reports of CLOSING -/

theorem cancelWants_holdLanes : s.cancelWants.filterMap Report.holdLane = [] := by
  rw [List.filterMap_eq_nil_iff]
  intro r hr
  obtain ⟨w, -, rfl⟩ := List.mem_map.mp hr
  rfl

theorem closingReleases_holdLanes : s.closingReleases.filterMap Report.holdLane = avLanes.filter (fun l => (s.hold l).held) := by
  rw [State.closingReleases, List.filterMap_map]
  exact List.filterMap_some

theorem closingReleases_length : s.closingReleases.length ≤ 6 := by
  rw [State.closingReleases, List.length_map]
  exact Nat.le_trans (List.length_filter_le _ _) (by decide)

/-- The cancel WANTs and the releases of CLOSING are all in the queue where it has room (R20, R48). -/
theorem queueClosingReports_mem (hup : s.link.state = .up) (hroom : s.link.queue.length + s.wanted.length ≤ 58) {r : Report}
    (hr : r ∈ s.cancelWants ∨ r ∈ s.closingReleases) : r ∈ (queueClosingReports s).link.queue := by
  have hwants : s.cancelWants.length = s.wanted.length := List.length_map ..
  have hreleases := closingReleases_length s
  have hnodup : (avLanes.filter (fun l => (s.hold l).held)).Nodup := nodup_avLanes.filter _
  have hall : ∀ rs : List Report, rs = s.cancelWants ++ s.closingReleases ∨ rs = s.closingReleases ++ s.cancelWants →
      r ∈ (rs.foldl LinkPort.offer s.link).queue := by
    intro rs hrs
    refine LinkPort.mem_foldl_offer rs s.link hup ?_ ?_ r ?_
    · obtain rfl | rfl := hrs <;> rw [List.length_append] <;> omega
    · obtain rfl | rfl := hrs <;> rw [List.filterMap_append, cancelWants_holdLanes, closingReleases_holdLanes]
      · exact hnodup
      · rw [List.append_nil]; exact hnodup
    · obtain rfl | rfl := hrs <;> rw [List.mem_append]
      · exact hr
      · exact hr.symm
  unfold queueClosingReports
  dsimp only
  refine hall _ ?_
  split
  · exact .inl rfl
  · exact .inr rfl

/-! ## The Cue Engine at CLOSING -/

theorem State.closedInView_length : s.closedInView.length ≤ 4 := by
  unfold State.closedInView
  split
  · exact Nat.zero_le 4
  · exact Nat.le_trans (List.length_filter_le _ _) (by decide)

/-- The Cue Engine emptied at CLOSING, before the CLEAR_ALLs (R126). -/
def emptyCues : State :=
  deassertEvent .captionOverflow { s with cues := { s.cues with
    tables := Vector.replicate 4 [], begun := [], ended := [], inView := none, overlay := none, queue := [] } }

theorem cueClosing_eq : cueClosing s = { emptyCues s with
    cues := (emptyCues s).cues.offers (s.closedInView.map CaptionMsg.clearAll) } := by
  have hqueue : (emptyCues s).cues.queue = [] := by rw [emptyCues, (deassertEvent_reports _ _).cues_eq]
  have hlen := s.closedInView_length
  rw [← foldl_queueCaption _ _ (by rw [hqueue, List.length_map]; simp only [List.length_nil]; omega), List.foldl_map]
  unfold cueClosing State.closedInView emptyCues
  rfl

/-- The Cue Engine after CLOSING (R126). -/
theorem cueClosing_cues : (cueClosing s).cues.tables = Vector.replicate 4 [] ∧ (cueClosing s).cues.overlay = none ∧
    ((cueClosing s).cues.line, (cueClosing s).cues.queue) =
      admitted (decide (s.cues.line = .idle)) s.cues.line [] (s.closedInView.map CaptionMsg.clearAll) ∧
    (cueClosing s).isAsserted .captionOverflow = false := by
  have hcues : (emptyCues s).cues = { s.cues with
      tables := Vector.replicate 4 [], begun := [], ended := [], inView := none, overlay := none, queue := [] } := by
    rw [emptyCues, (deassertEvent_reports _ _).cues_eq]
  have hlen := s.closedInView_length
  obtain ⟨hline, hsame⟩ := CueEngine.offers_of_room (s.closedInView.map CaptionMsg.clearAll) (emptyCues s).cues
    (by rw [hcues, List.length_map]; simp only [List.length_nil]; omega) (fun _ => by rw [hcues])
  rw [cueClosing_eq]
  refine ⟨?_, ?_, ?_, isAsserted_deassertEvent _ _ (by decide)⟩
  · dsimp only; rw [hsame, hcues]
  · dsimp only; rw [hsame, hcues]
  · dsimp only; rw [hline, hcues]

theorem cueClosing_appendsEvents : appendsEvents s (cueClosing s) := by
  rw [cueClosing_eq]
  exact deassertEvent_appendsEvents _ _

theorem event_cueClosing {k : EventKind} (h : k ≠ .captionOverflow) (ho : k ≠ .actionOverflow) :
    (cueClosing s).event k = s.event k := by
  rw [cueClosing_eq]
  exact (event_deassertEvent_of_ne _ h ho).trans rfl

/-! ## The check at CLOSING -/

theorem finishCheck_appendsEvents : appendsEvents s (finishCheck s) := by
  rw [finishCheck_eq]
  refine appendsEvents_trans ?_ (occur_appendsEvents _ _)
  split
  · exact occur_appendsEvents .syncLimit { s with sync := s.checkedSync }
  · exact appendsEvents_refl s

/-- CLOSING leaves no check ARMED; apart from that it may stage a delay and tells the result (R107). -/
theorem checkClosing_from : ∃ y d, reportsFrom { s with sync := y, sound := d } (checkClosing s) ∧ y.armed = false ∧
    d.routing = s.sound.routing ∧ appendsEvents s (checkClosing s) ∧
    ∀ k, k ≠ .syncResult → k ≠ .syncLimit → k ≠ .actionOverflow → (checkClosing s).event k = s.event k := by
  by_cases h : s.sync.armed = true
  · rw [checkClosing_of_armed h]
    generalize { s.sync with pairs := if s.sync.marking then editLast (PairRec.fallback .noEdge) s.sync.pairs else s.sync.pairs } = y
    refine ⟨_, _, finishCheck_reports { s with sync := y }, rfl, ?_, finishCheck_appendsEvents { s with sync := y },
      fun k hk hl ho => finishCheck_event_of_ne { s with sync := y } hk hl ho⟩
    unfold State.checkedSound
    split <;> rfl
  · have hfalse : s.sync.armed = false := by simpa using h
    rw [checkClosing_of_unarmed hfalse]
    exact ⟨s.sync, s.sound, reportsFrom_refl _, hfalse, rfl, appendsEvents_refl s, fun _ _ _ _ => rfl⟩

end

/-! ## The whole of CLOSING -/

/-- The blocks are those of slots, queues and pool (R35). -/
theorem totalBlocks_congr {s t : State} (hs : t.slots = s.slots) (hb : t.buffer = s.buffer) : t.totalBlocks = s.totalBlocks := by
  have hlane : t.laneBlocks = s.laneBlocks := funext fun l => by
    simp only [State.laneBlocks, laneSlots_congr hs, queue_congr (congrArg Buffer.queues hb)]
  rw [State.totalBlocks_eq, State.totalBlocks_eq, hb, hlane]

theorem closedInView_congr {s t : State} (h : t.cues = s.cues) (h' : t.timeline.table = s.timeline.table) :
    t.closedInView = s.closedInView := by
  have hrow : t.row = s.row := funext fun k => by rw [State.row, h']; rfl
  unfold State.closedInView
  rw [h, hrow]

section

variable (o : ShowOutcome) (s : State)

/-- The state behind the reports of CLOSING has the slots, queues and cues of before (R90). -/
theorem queueClosingReports_closedOutputs : ∃ frame q ev aq al at_ dropped draws,
    queueClosingReports (closedOutputs o s) = { s with
      timeline := { s.timeline.closing o with state := .closing }, sync := { s.sync with frame := frame },
      actions := { (unresolveActions s).actions with queue := aq, line := al, timer := at_ },
      sound := (closeSound s).sound, picture := PictureOut.reset, link := { s.link with queue := q }, events := ev,
      counters := { s.counters with actionsDropped := dropped }, draws := draws } := by
  obtain ⟨frame, hout⟩ := closedOutputs_from o s
  obtain ⟨q, ev, aq, al, at_, dropped, h⟩ := hout.exists_eq
  unfold queueClosingReports
  dsimp only
  rw [LinkPort.foldl_offer_eq, h]
  exact ⟨frame, _, ev, aq, al, at_, dropped, _, rfl⟩

/-- The lanes at CLOSING as a purge of every lane, with the holds reset (R20, R39, R48). -/
theorem closedLanes_purged : ∃ v, closedLanes o s = { v with holds := AvLanes.all LaneHold.reset } ∧
    (∀ m, v.laneSlots m = []) ∧ (∀ m, v.queue m = []) ∧
    v.buffer.pool = (closedOutputs o s).totalBlocks ∧
    slotsFrom { queueClosingReports (closedOutputs o s) with wanted := [] } v ∧
    appendsEvents { queueClosingReports (closedOutputs o s) with wanted := [] } v ∧
    v.event .stall = (closedOutputs o s).event .stall := by
  unfold closedLanes
  generalize closedOutputs o s = t
  have hevent : ({ queueClosingReports t with wanted := [] } : State).event .stall = t.event .stall := rfl
  have htotal : ({ queueClosingReports t with wanted := [] } : State).totalBlocks = t.totalBlocks := rfl
  generalize { queueClosingReports t with wanted := [] } = w at hevent htotal ⊢
  obtain ⟨hslots, hqueue, hpool⟩ := purgeLanes_lanes w
  exact ⟨purgeLanes w, rfl, hslots, hqueue, hpool.trans htotal, purgeLanes_slotsFrom w, purgeLanes_appendsEvents w,
    (event_purgeLanes w (by decide) (by decide)).trans hevent⟩

/-- The lanes at CLOSING (R20, R39). -/
theorem closedLanes_lanes : (∀ l, (closedLanes o s).laneSlots l = []) ∧ (∀ l, (closedLanes o s).queue l = []) ∧
    (closedLanes o s).buffer.pool = s.totalBlocks := by
  obtain ⟨v, hclosed, hslots, hqueue, hpool, -⟩ := closedLanes_purged o s
  obtain ⟨frame, hout⟩ := closedOutputs_from o s
  rw [hclosed]
  exact ⟨hslots, hqueue, hpool.trans (totalBlocks_congr hout.slots_eq hout.buffer_eq)⟩

/-- What CLOSING leaves of the state, but for what its blocks and the Event Table make of it (R90). -/
theorem closedLanes_eq : (closedLanes o s).cues = s.cues ∧ (closedLanes o s).wanted = [] ∧
    (closedLanes o s).holds = AvLanes.all LaneHold.reset ∧ (closedLanes o s).picture = PictureOut.reset ∧
    (closedLanes o s).sound = (closeSound s).sound ∧ (closedLanes o s).actions.table = (unresolveActions s).actions.table ∧
    (closedLanes o s).timeline = { s.timeline.closing o with state := .closing } ∧ (closedLanes o s).counting = s.counting ∧
    (closedLanes o s).clock = s.clock := by
  obtain ⟨frame, q, ev, aq, al, at_, dropped, draws, hu⟩ := queueClosingReports_closedOutputs o s
  obtain ⟨v, hclosed, -, -, -, h, -⟩ := closedLanes_purged o s
  unfold slotsFrom at h
  rw [hclosed, h, hu]
  exact ⟨rfl, rfl, rfl, rfl, rfl, rfl, rfl, rfl, rfl⟩

theorem closedLanes_stall : (closedLanes o s).isAsserted .stall = false := by
  have hclear : (closedOutputs o s).isAsserted .stall = false := isAsserted_deassertEvent _ _ (by decide)
  obtain ⟨v, hclosed, -, -, -, -, -, hevent⟩ := closedLanes_purged o s
  rw [hclosed, State.isAsserted, show ({ v with holds := AvLanes.all LaneHold.reset } : State).event .stall = _ from hevent]
  exact hclear

/-- The reports of CLOSING are in the queue behind the purge (R20, R48). -/
theorem closedLanes_mem (hup : s.link.state = .up) (hroom : s.link.queue.length ≤ 40) (hwanted : s.wanted.length ≤ 2) {r : Report}
    (hr : r ∈ s.cancelWants ∨ r ∈ s.closingReleases) : r ∈ (closedLanes o s).link.queue := by
  obtain ⟨frame, hout⟩ := closedOutputs_from o s
  have hlen := (closedOutputs_atMost o s).length_le
  have hmem : r ∈ (queueClosingReports (closedOutputs o s)).link.queue := by
    refine queueClosingReports_mem _ (hout.link_state_eq.trans hup) (by rw [hout.wanted_eq]; simp only; omega) ?_
    have hwants : (closedOutputs o s).cancelWants = s.cancelWants := by rw [State.cancelWants, hout.wanted_eq]; rfl
    have htags : ∀ l, (closedOutputs o s).holdTags l = s.holdTags l := holdTags_congr hout.wanted_eq
    have hhold : ∀ l, (closedOutputs o s).hold l = s.hold l := fun l => hold_congr hout.holds_eq l
    have hreleases : (closedOutputs o s).closingReleases = s.closingReleases := by
      simp only [State.closingReleases, htags, hhold]
    rw [hwants, hreleases]
    exact hr
  obtain ⟨v, hclosed, -, -, -, -, hpurge, -⟩ := closedLanes_purged o s
  rw [hclosed]
  exact hpurge.mem hmem

end

/-- Settles O40: the stages of CLOSING read off one after another, each leaving what the ones before it left. -/
theorem closingLeaves : Obligations.ClosingLeaves := by
  intro o s
  obtain ⟨hcues, hwanted, hholds, hpicture, hsound, htable, htimeline, hcounting, -⟩ := closedLanes_eq o s
  obtain ⟨hslots, hqueue, hpool⟩ := closedLanes_lanes o s
  have hstall := closedLanes_stall o s
  have hmem : ∀ hup hroom hw r hr, r ∈ (closedLanes o s).link.queue := fun hup hroom hw r hr =>
    closedLanes_mem o s hup hroom hw (r := r) hr
  have hview := closedInView_congr (s := s) (t := closedLanes o s) hcues (by rw [htimeline]; rfl)
  have hclosed := enterClosing_eq o s
  generalize closedLanes o s = v at *
  obtain ⟨htables, hoverlay, hline, hcaption⟩ := cueClosing_cues v
  obtain ⟨hcueWanted, hcueSlots, hcueBuffer, hcueHolds, -⟩ := (cueClosing_cuesFrom v).fields
  have hcue := cueClosing_content v
  have hcueMem : ∀ r ∈ v.link.queue, r ∈ (cueClosing v).link.queue := fun r => (cueClosing_appendsEvents v).mem
  have hcueStall : (cueClosing v).isAsserted .stall = false := by
    rw [State.isAsserted, event_cueClosing _ (by decide) (by decide)]
    exact hstall
  have hpic : (cueClosing v).picture = PictureOut.reset := by rw [show cueClosing v = _ from hcue]; exact hpicture
  have hsnd : (cueClosing v).sound = (closeSound s).sound := by rw [show cueClosing v = _ from hcue]; exact hsound
  have hact : (cueClosing v).actions.table = (unresolveActions s).actions.table := by
    rw [show cueClosing v = _ from hcue]; exact htable
  have hcueTimeline := hcue.timeline_eq.trans htimeline
  have hcueCounting := hcue.counting_eq.trans hcounting
  generalize cueClosing v = w at *
  obtain ⟨y, d, hcheck, harmed, hrouting, hmore, hevent⟩ := checkClosing_from w
  have htl := (checkClosing_timeline w).trans hcueTimeline
  have hct := (checkClosing_counting w).trans hcueCounting
  obtain ⟨-, -, -, hcomps, hclock, hschedule, hstore, hmgmt, hpending, -⟩ := (enterClosing_show s o).fields
  have htable' : (checkClosing w).actions.table = (unresolveActions s).actions.table := by
    rw [show checkClosing w = _ from hcheck]; exact hact
  generalize checkClosing w = x at *
  have hlast : ∀ r ∈ v.link.queue, r ∈ x.link.queue := fun r hr => hmore.mem (hcueMem r hr)
  have hopen : x.openRecord = s.openRecord := by rw [State.openRecord, hct]; rfl
  have hclk : x.clock = s.clock := by rw [← hclock, hclosed]; rfl
  rw [hclosed] at hcomps hclock hschedule hstore hmgmt hpending ⊢
  refine ⟨queueClose o x, rfl, ?_⟩
  have hfinal : (queueClose o x).timeline = x.timeline := rfl
  rw [hfinal, htl]
  refine ⟨rfl, rfl, rfl, rfl, rfl, rfl, rfl, rfl, rfl, rfl, ?stall, hcheck.picture_eq.trans hpic, ?routing,
    hcheck.wanted_eq.trans (hcueWanted.trans hwanted),
    fun l => (laneSlots_congr (hcheck.slots_eq.trans hcueSlots) l).trans (hslots l),
    fun l => (queue_congr (t := queueClose o x) (congrArg Buffer.queues (hcheck.buffer_eq.trans hcueBuffer)) l).trans (hqueue l),
    (congrArg Buffer.pool (hcheck.buffer_eq.trans hcueBuffer)).trans hpool, hcheck.holds_eq.trans (hcueHolds.trans hholds),
    (congrArg CueEngine.tables hcheck.cues_eq).trans htables, (congrArg CueEngine.overlay hcheck.cues_eq).trans hoverlay,
    (congrArg Sync.armed hcheck.sync_eq).trans harmed, fun j hj => ?resolved, (show x.counting.charged = _ by rw [hct]),
    (show x.counting.log = _ by rw [hct]), (show x.counting.places = _ by rw [hct]), (show x.counting.bound = _ by rw [hct]),
    hcomps, hclock, hstore, hmgmt, hschedule,
    hpending, fun hup hroom hw => ⟨fun m hm => ?want, fun l hl => ?release⟩, ?captions, ?captionEvent, ?entry⟩
  case stall =>
    change x.isAsserted .stall = false
    rw [State.isAsserted, hevent _ (by decide) (by decide) (by decide)]
    exact hcueStall
  case routing =>
    refine (congrArg Sound.routing hcheck.sound_eq).trans (hrouting.trans ?_)
    rw [hsnd]
    rfl
  case resolved =>
    rw [getElem_congr_coll (show (queueClose o x).actions.table = _ from htable')]
    simp [unresolveActions, mapVec]
  case want => exact hlast _ (hmem hup hroom hw _ (.inl (List.mem_map.mpr ⟨m, hm, rfl⟩)))
  case release =>
    refine hlast _ (hmem hup hroom hw _ (.inr (List.mem_map.mpr ⟨l, ?_, rfl⟩)))
    exact List.mem_filter.mpr ⟨mem_avLanes l, hl⟩
  case captions =>
    rw [hview, hcues] at hline
    rw [← hline]
    exact congrArg (fun c : CueEngine => (c.line, c.queue)) hcheck.cues_eq
  case captionEvent =>
    change x.isAsserted .captionOverflow = false
    rw [State.isAsserted, hevent _ (by decide) (by decide) (by decide)]
    exact hcaption
  case entry =>
    refine ⟨_, rfl, congrArg (· ++ _) (congrArg Counting.queue hct), ?_⟩
    dsimp only
    rw [hopen, hclk, htl]
    rfl

/-! ## The end of a reel and of the showing -/

theorem endInterval_of_interval {s : State} {u : UnitRef} {row : ReelRow} (hu : s.timeline.interval = some u)
    (hrow : s.row u.reel = some row) :
    endInterval s = afterInterval u.reel u.unit row (reachTick (row.instant u.unit + row.reel.ticks) s) := by
  simp only [endInterval, hu, hrow]

@[simp] theorem checkReelEnd_timeline (k : Nat) (s : State) : (checkReelEnd k s).timeline = s.timeline := by
  unfold checkReelEnd
  split
  · split
    · rfl
    · exact finishCheck_timeline s
  · rfl

@[simp] theorem reelEnds_timeline (k : Nat) (s : State) : (reelEnds k s).timeline = s.timeline :=
  (checkReelEnd_timeline k _).trans (cueReelEnd_content k s).timeline_eq

/-- The state behind the end of a unit's interval: a reel's end has been told, and no interval runs (R75, R80). -/
def intervalEnded (k u : Nat) (row : ReelRow) (s : State) : State :=
  (if row.reel.dur ≤ u + 1 then reelEnds k s else s).mapTimeline (fun t => { t with interval := none })

theorem intervalEnded_timeline (k u : Nat) (row : ReelRow) (s : State) :
    (intervalEnded k u row s).timeline = { s.timeline with interval := none } := by
  unfold intervalEnded State.mapTimeline
  split
  · rw [reelEnds_timeline]
  · rfl

/-- With no unit left the end of an interval ends the composition (R89). -/
theorem afterInterval_of_no_cursor {k u : Nat} {row : ReelRow} {s : State} (h : s.timeline.cursor = none) :
    afterInterval k u row s = enterClosing .completed (intervalEnded k u row s) := by
  have hnone : (intervalEnded k u row s).timeline.cursor = none := by rw [intervalEnded_timeline]; exact h
  unfold afterInterval
  simp only [decide_eq_true_eq]
  unfold intervalEnded at hnone ⊢
  rw [hnone]

/-- Where a unit is left the end of an interval pauses, stalls, crosses a boundary or plays on (R80, R82, R84, R86). -/
theorem afterInterval_of_cursor {k u : Nat} {row : ReelRow} {s : State} {c : Cursor} (h : s.timeline.cursor = some c) :
    afterInterval k u row s = if row.reel.dur ≤ u + 1 ∧ row.reel.kind = .intermission then
        if s.timeline.pausePending then enterPaused .operator none (intervalEnded k u row s)
        else enterPaused .intermission (if row.reel.hold = 0 then none else some (row.reel.hold * 96000)) (intervalEnded k u row s)
      else if s.timeline.pausePending then enterPaused .operator none (intervalEnded k u row s)
      else if 12 ≤ s.timeline.missing then enterStalled (intervalEnded k u row s)
      else if row.reel.dur ≤ u + 1 then ((s.row c.reel).map (fun next => crossBoundary row next (intervalEnded k u row s))).getD
        (intervalEnded k u row s)
      else intervalEnded k u row s := by
  have htimeline := intervalEnded_timeline k u row s
  have hsome : (intervalEnded k u row s).timeline.cursor = some c := by rw [htimeline]; exact h
  have hrow : (intervalEnded k u row s).row c.reel = s.row c.reel := by rw [State.row, htimeline]; rfl
  have hpending : (intervalEnded k u row s).timeline.pausePending = s.timeline.pausePending := by rw [htimeline]
  have hmissing : (intervalEnded k u row s).timeline.missing = s.timeline.missing := by rw [htimeline]
  rw [← hpending, ← hmissing, ← hrow]
  unfold afterInterval
  simp only [decide_eq_true_eq]
  unfold intervalEnded at hsome ⊢
  rw [hsome]
  dsimp only
  generalize ((if row.reel.dur ≤ u + 1 then reelEnds k s else s).mapTimeline _) = t
  cases t.row c.reel <;> rfl

/-- Settles O42: the three limits, each by the state it asks for, and the end of the last interval with no unit left. -/
theorem limitsAndEndClose : Obligations.LimitsAndEndClose := by
  intro s hrun
  refine ⟨fun hcue => ?_, fun hcue => ?_, fun hstall => ?_, fun hstall => ?_, fun o => by simp [Timeline.closing],
    fun u row hplay hnone hu hrow hp => ?_⟩
  · refine ⟨max s.timeline.cueTimer (s.mgmt.limits.cueSeconds * 96000 + 1), Nat.le_max_left _ _,
      Nat.lt_of_lt_of_le (Nat.lt_succ_self _) (Nat.le_max_right _ _), ?_⟩
    exact (next_running hrun _).trans (congrArg Host.Outcome.next (if_pos hcue))
  · exact (next_running hrun _).trans (congrArg Host.Outcome.next (if_neg hcue))
  · exact (next_running hrun _).trans (congrArg Host.Outcome.next (if_pos hstall))
  · exact (next_running hrun _).trans (congrArg Host.Outcome.next (if_neg hstall))
  · have hreach := reachTick_holdsFrom_of_le hp
    have hreachT : (reachTick (row.instant u.unit + row.reel.ticks) s).timeline =
        { s.timeline with p := row.instant u.unit + row.reel.ticks } := by rw [show reachTick _ s = _ from hreach]
    have hend : endInterval s = enterClosing .completed
        (intervalEnded u.reel u.unit row (reachTick (row.instant u.unit + row.reel.ticks) s)) := by
      rw [endInterval_of_interval hu hrow, afterInterval_of_no_cursor (by rw [hreachT]; exact hnone)]
    obtain ⟨t, ht, -, -, -, -, -, -, -, -, -, -, -, -, -, hwanted, -⟩ := closingLeaves .completed
      (intervalEnded u.reel u.unit row (reachTick (row.instant u.unit + row.reel.ticks) s))
    refine ⟨t, ?_, ?_, ?_, ?_, hwanted⟩
    · refine (next_running hrun _).trans (congrArg Host.Outcome.next ((if_pos ⟨hplay, hnone⟩).trans (hend.trans ht)))
    all_goals rw [← ht, enterClosing_timeline]
    · rfl
    · dsimp only
      rw [intervalEnded_timeline, hreachT]
      rfl

end Sys2Proof.Machine

/-! PROOF. The Showing Counter: the allowance match, the count point and the charge, and the reconciliation of start-up (R128, R131 to R133,
R136, R143, R144). -/

namespace Sys2Proof.Machine

/-! ## Matching an allowance -/

theorem matchAllowance_some (s : State) (comp : Nat) (i : Fin 32) :
    s.matchAllowance comp (some i.val) = if s.matchesAt comp i then some i else none := dif_pos i.isLt

theorem mem_allIndices (i : Fin 32) : i ∈ allIndices := List.mem_ofFn.mpr ⟨i, rfl⟩

theorem matchAllowance_none_eq_none (s : State) (comp : Nat) :
    s.matchAllowance comp none = none ↔ ∀ i, s.matchesAt comp i = false := by
  change allIndices.find? (s.matchesAt comp) = none ↔ _
  rw [List.find?_eq_none]
  exact ⟨fun h i => by simpa using h i (mem_allIndices i), fun h i _ => by simp [h i]⟩

/-- Without an index the lowest OPEN allowance of the identity is taken (R131). -/
theorem matchAllowance_none_eq_some (s : State) (comp : Nat) (i : Fin 32) :
    s.matchAllowance comp none = some i ↔ s.matchesAt comp i = true ∧ ∀ j < i, s.matchesAt comp j = false := by
  have hget : ∀ (n : Nat) (h : n < allIndices.length), allIndices[n] = ⟨n, by simpa [allIndices] using h⟩ := fun n h => by
    simp only [allIndices, List.getElem_ofFn, id]
  change allIndices.find? (s.matchesAt comp) = some i ↔ _
  rw [List.find?_eq_some_iff_getElem]
  refine and_congr_right fun hi => ⟨fun ⟨n, hn, hni, hbefore⟩ j hj => ?_,
    fun h => ⟨i.val, by simp [allIndices], hget _ _, fun j hj => ?_⟩⟩
  · rw [hget] at hni
    subst hni
    have hlt : j.val < n := hj
    have hj' := hbefore j.val hlt
    rw [hget] at hj'
    simpa using hj'
  · rw [hget]
    simpa using h ⟨j, by omega⟩ hj

/-! ## The count point -/

theorem countPoint_bounds (coverage span : Nat) :
    (256 * (countPoint coverage span - 1) < coverage * span ∨ coverage * span = 0) ∧
    coverage * span ≤ 256 * countPoint coverage span := by
  unfold countPoint
  generalize coverage * span = x
  omega

theorem countPoint_within {coverage span : Nat} (h : 1 ≤ coverage) (h' : coverage ≤ 256) (hspan : 1 ≤ span) :
    1 ≤ countPoint coverage span ∧ countPoint coverage span ≤ span := by
  have hlow : 1 ≤ coverage * span := Nat.mul_pos h hspan
  have hhigh : coverage * span ≤ 256 * span := Nat.mul_le_mul_right span h'
  unfold countPoint
  generalize coverage * span = x at *
  omega

/-- A FEATURE composition spans a unit at least: a FEATURE reel begins before its end. -/
theorem compositionOf_span_pos {ident : Nat} {title : List Byte} {reels : List Reel} (hreels : ∀ r ∈ reels, r.entry < r.dur)
    (hfeature : (compositionOf ident title reels).feature = true) : 1 ≤ (compositionOf ident title reels).span := by
  obtain ⟨hclass, hspan⟩ := compositionOf_derived ident title reels
  obtain ⟨r, hr, hkind⟩ := hclass.mp hfeature
  have hlt := hreels r hr
  have hmem : r.dur - r.entry ∈ (reels.filter (fun r => decide (r.kind = .feature))).map (fun r => r.dur - r.entry) :=
    List.mem_map.mpr ⟨r, List.mem_filter.mpr ⟨hr, by simpa using hkind⟩, rfl⟩
  have hsum := (List.perm_cons_erase hmem).sum_nat
  rw [List.sum_cons] at hsum
  rw [hspan]
  omega

/-! ## The derived state -/

section

variable (s : State) (a : Allowance)

theorem deriveState_of_revoked (h : a.revoked = true) : deriveState s (some a) = .revoked := if_pos h

theorem deriveState_of_spent {n : Nat} (h : a.revoked = false) (hn : a.allowed = some n) (hused : n ≤ a.used) :
    deriveState s (some a) = .spent := by
  simp [deriveState, h, hn, hused]

/-- The state of an allowance that is neither revoked nor spent goes by the clock (R128). -/
theorem deriveState_of_unspent (h : a.revoked = false) (hn : ∀ n, a.allowed = some n → a.used < n) : deriveState s (some a) =
    if s.clock.isSet = false then .pending
    else if minuteSecs a.untilDay a.untilMinute ≤ s.nowSecs then .expired
    else if s.nowSecs < minuteSecs a.fromDay a.fromMinute then .pending else .opened := by
  have hunspent : (a.allowed.map (fun n => decide (n ≤ a.used))).getD false = false := by
    cases hallowed : a.allowed with
    | none => rfl
    | some n => simpa using hn n hallowed
  simp [deriveState, h, hunspent]

end

/-! ## Evaluating -/

theorem evaluateWarnings_reports (s : State) : reportsFrom s (evaluateWarnings s) :=
  reportsFrom_trans (setLevel_reports .allowanceLow _ _) (setLevel_reports .allowanceExpiring _ _)

/-- The two warnings apart, evaluating them changes no event but ACTION_OVERFLOW (R145). -/
theorem event_evaluateWarnings (s : State) {k : EventKind} (h : k ≠ .allowanceLow) (h' : k ≠ .allowanceExpiring) (ho : k ≠ .actionOverflow) :
    (evaluateWarnings s).event k = s.event k := by
  rw [evaluateWarnings, event_setLevel_of_ne _ h' ho, event_setLevel_of_ne _ h ho]

theorem evaluateChanged_reports (i : Fin 32) (s : State) :
    reportsFrom (s.setPlace i { s.place i with state := deriveState s (s.place i).record }) (evaluateChanged i s) :=
  evaluateWarnings_reports _

theorem evaluateChanged_place (i j : Fin 32) (s : State) : (evaluateChanged i s).place j =
    if j = i then { s.place i with state := deriveState s (s.place i).record } else s.place j := by
  rw [State.place, (evaluateChanged_reports i s).counting_eq]
  exact setPlace_place s i j _

/-! ## The charge -/

section

variable (i : Fin 32) (s : State)

/-- The open showing's record once it is charged, with the showing's counts (R136). -/
def State.chargedRecord : Option LogRecord := s.openRecord.map (fun r => { r.withCounts s.timeline with charged := true })

/-- The place and the OPEN record charged (R133, R136). -/
def chargePlace : State :=
  { s with counting := { s.counting with
    charged := true, places := s.counting.places.set i (s.place i).charge,
    log := (s.chargedRecord.map (fun r => s.counting.log.map (fun x => if x.number = r.number then r else x))).getD s.counting.log } }

/-- The charge entry of the store queue (R133, R136). -/
def chargeEntry : StoreEntry :=
  { kind := .charge, record := s.chargedRecord, place := some (i, ((chargePlace i s).place i).stored), marks := [], owed := none }

theorem takeCharge_eq :
    takeCharge i s = occur .showingCounted (evaluateChanged i (enqueueStore (chargeEntry i s) (chargePlace i s))) := by
  have hopen : ({ s.setPlace i (s.place i).charge with counting :=
      { (s.setPlace i (s.place i).charge).counting with charged := true } } : State).openRecord = s.openRecord := rfl
  unfold takeCharge chargeEntry chargePlace State.chargedRecord
  dsimp only
  rw [hopen]
  cases s.openRecord <;> rfl

theorem chargePlace_place (j : Fin 32) : (chargePlace i s).place j = if j = i then (s.place i).charge else s.place j :=
  setPlace_place s i j _

theorem takeCharge_reports : reportsFrom
    ((enqueueStore (chargeEntry i s) (chargePlace i s)).setPlace i
      { (chargePlace i s).place i with state := deriveState s ((chargePlace i s).place i).record }) (takeCharge i s) := by
  rw [takeCharge_eq]
  exact reportsFrom_trans (evaluateChanged_reports i (enqueueStore (chargeEntry i s) (chargePlace i s))) (occur_reports _ _)

theorem takeCharge_place (j : Fin 32) : (takeCharge i s).place j =
    if j = i then { (s.place i).charge with state := deriveState s (s.place i).charge.record } else s.place j := by
  have h := setPlace_place (enqueueStore (chargeEntry i s) (chargePlace i s)) i j
    { (chargePlace i s).place i with state := deriveState s ((chargePlace i s).place i).record }
  rw [State.place, (takeCharge_reports i s).counting_eq]
  refine h.trans ?_
  rw [chargePlace_place, if_pos rfl]
  split
  · rfl
  next hj => exact (chargePlace_place i s j).trans (if_neg hj)

theorem takeCharge_count :
    ((takeCharge i s).event .showingCounted).count = min 65535 ((s.event .showingCounted).count + 1) := by
  rw [takeCharge_eq, occur_count _ (by decide), evaluateChanged, event_evaluateWarnings _ (by decide) (by decide) (by decide)]
  rfl

end

/-- Settles O37: the match, the count point, the derived state, and the charge read off its steps. -/
theorem allowanceMatchAndCountPoint : Obligations.AllowanceMatchAndCountPoint := by
  refine ⟨fun s comp => ⟨matchAllowance_some s comp, matchAllowance_none_eq_some s comp, matchAllowance_none_eq_none s comp⟩,
    fun c n => (countPoint_bounds c n).1, fun c n => (countPoint_bounds c n).2, fun c n => countPoint_within, fun n => ?full,
    fun i c b s => rfl, fun ident title reels => compositionOf_span_pos, fun s a => ?derived, fun s => ?feature, fun i a r s ha hr => ?charge⟩
  case full => unfold countPoint; omega
  case derived =>
    refine ⟨rfl, deriveState_of_revoked s a, fun n => deriveState_of_spent s a, fun hr hn => ?_⟩
    rw [deriveState_of_unspent s a hr hn]
    refine ⟨fun h => if_pos h, fun h hend => ?_, fun h hend hbegin => ?_, fun h hend hbegin => ?_⟩
    · rw [if_neg (by simp [h])]
      exact if_pos hend
    · rw [if_neg (by simp [h]), if_neg (show ¬ minuteSecs a.untilDay a.untilMinute ≤ _ from Nat.not_le.mpr hend)]
      exact if_pos hbegin
    · rw [if_neg (by simp [h]), if_neg (show ¬ minuteSecs a.untilDay a.untilMinute ≤ _ from Nat.not_le.mpr hend)]
      exact if_neg (Nat.not_lt.mpr hbegin)
  case feature =>
    refine ⟨fun i hb hc hp => ?_, fun h => ?_⟩
    · simp only [countFeature, hb]
      exact if_pos ⟨hc, hp⟩
    · cases hb : s.counting.bound with
      | none => simp only [countFeature, hb]
      | some i =>
        simp only [countFeature, hb]
        refine if_neg fun ⟨hc, hp⟩ => ?_
        obtain h | h | h := h
        · rw [hb] at h; cases h
        · rw [h] at hc; cases hc
        · exact h hp
  case charge =>
    have hreports := takeCharge_reports i s
    have hcharged : (s.place i).charge =
        { s.place i with record := some { a with used := min 65535 (a.used + 1) } } := by rw [Place.charge, ha]; rfl
    have hrecord : s.chargedRecord = some { r with
        presented := s.timeline.presented, repeated := s.timeline.repeated, stalls := s.timeline.stalls, charged := true } := by
      rw [State.chargedRecord, hr]; rfl
    have hplace := takeCharge_place i s
    rw [hcharged] at hplace
    refine ⟨congrArg Counting.charged hreports.counting_eq, (hplace i).trans (if_pos rfl), fun j hj => (hplace j).trans (if_neg hj),
      (congrArg Counting.log hreports.counting_eq).trans ?_, (congrArg Counting.queue hreports.counting_eq).trans ?_,
      takeCharge_count i s, hreports.timeline_eq, by rw [hreports.counting_eq]; rfl,
      by rw [hreports.counting_eq]; rfl, hreports.store_eq⟩
    · change ((s.chargedRecord.map _).getD _) = _
      rw [hrecord]
      rfl
    · change s.counting.queue ++ [chargeEntry i s] = _
      rw [chargeEntry, hrecord, chargePlace_place, if_pos rfl, hcharged]
      rfl

/-! ## Reconciliation -/

theorem openRecord_eq_none_iff (s : State) : s.openRecord = none ↔ ∀ r ∈ s.counting.log, r.outcome ≠ .opened := by
  rw [State.openRecord, List.find?_eq_none]
  simp

theorem reconcileNext_of_none {s : State} (h : s.openRecord = none) :
    reconcileNext s = { s with counting := { s.counting with startup := .complete } } := by
  unfold reconcileNext
  rw [h]

/-- An allowance of the store agrees with a stored OPEN record that has not been charged (R144). -/
def State.agrees (s : State) (r : LogRecord) (i : Fin 32) (a : Allowance) : Prop :=
  r.charged = false ∧ r.allowance = some i.val ∧ s.store.allowances[i].record = some a ∧ a.comp = r.comp ∧
  r.serialAtOpen = some s.store.allowances[i].serial ∧ r.usedAtOpen = some a.used

theorem reconcileIndex_eq_some_iff (s : State) (r : LogRecord) (i : Fin 32) :
    s.reconcileIndex r = some i ↔ ∃ a, s.agrees r i a := by
  unfold State.reconcileIndex State.agrees
  cases hr : r.allowance with
  | none => simp
  | some n =>
    by_cases hn : n < 32
    · simp only [dif_pos hn]
      have hsplit : ∀ {i : Fin 32}, n = i.val → s.store.allowances[n] = s.store.allowances[i] := fun h => by subst h; rfl
      cases ha : s.store.allowances[n].record with
      | none =>
        simp only [reduceCtorEq, false_iff, not_exists]
        rintro a ⟨-, hi, hrec, -⟩
        cases hi
        rw [← hsplit rfl, ha] at hrec
        cases hrec
      | some a =>
        constructor
        · intro h
          rw [Option.ite_none_right_eq_some] at h
          obtain ⟨⟨hc, hagree⟩, hi⟩ := h
          cases hi
          exact ⟨a, hc, rfl, ha, hagree⟩
        · rintro ⟨b, hc, hi, hrec, hcomp, hserial, hused⟩
          cases hi
          rw [← hsplit rfl, ha] at hrec
          cases hrec
          exact if_pos ⟨hc, hcomp, hserial, hused⟩
    · simp only [dif_neg hn, reduceCtorEq, false_iff, not_exists]
      rintro a ⟨-, hi, -⟩
      cases hi
      exact hn i.isLt

/-- A stored OPEN record as reconciliation leaves it (R144). -/
def State.interrupted (s : State) (r : LogRecord) : LogRecord :=
  { r with outcome := .interrupted, ended := some s.clock.now, endUnset := !s.clock.isSet, charged := r.charged || r.allowance.isSome }

/-- A record that agrees with no place of the store is INTERRUPTED alone (R144). -/
theorem reconcileNext_of_no_place {s : State} {r : LogRecord} (h : s.openRecord = some r) (hi : s.reconcileIndex r = none) :
    reconcileNext s = enqueueStore
      { kind := .reconciliation, record := some (s.interrupted r), place := none, marks := [], owed := none }
      (s.setRecord (s.interrupted r)) := by
  have hi' : (s.setRecord (s.interrupted r)).reconcileIndex r = none := hi
  unfold reconcileNext
  rw [h]
  dsimp only
  change (match (s.setRecord (s.interrupted r)).reconcileIndex r with | some i => _ | none => _) = _
  rw [hi']
  rfl

/-- The entry that covers an INTERRUPTED record and the place that it charges (R144). -/
def State.reconcileEntry (s : State) (r : LogRecord) (i : Fin 32) : StoreEntry :=
  { kind := .reconciliation, record := some (s.interrupted r), place := some (i, (s.reconciledPlace i).stored), marks := [], owed := none }

/-- A record that agrees with a place of the store charges it (R144). -/
theorem reconcileNext_of_place {s : State} {r : LogRecord} {i : Fin 32} (h : s.openRecord = some r) (hi : s.reconcileIndex r = some i) :
    reconcileNext s = evaluateChanged i (enqueueStore (s.reconcileEntry r i)
      ((s.setRecord (s.interrupted r)).setPlace i (s.reconciledPlace i))) := by
  have hi' : (s.setRecord (s.interrupted r)).reconcileIndex r = some i := hi
  have hplace : ((s.setRecord (s.interrupted r)).setPlace i (s.reconciledPlace i)).place i = s.reconciledPlace i :=
    (setPlace_place _ i i _).trans (if_pos rfl)
  unfold reconcileNext
  rw [h]
  dsimp only
  change (match (s.setRecord (s.interrupted r)).reconcileIndex r with | some i => _ | none => _) = _
  rw [hi']
  dsimp only
  change evaluateChanged i (enqueueStore
    { kind := .reconciliation, record := some (s.interrupted r),
      place := some (i, (((s.setRecord (s.interrupted r)).setPlace i (s.reconciledPlace i)).place i).stored), marks := [],
      owed := none } _) = _
  rw [hplace]
  rfl

/-- The next reconciliation of an OPEN record, whether it charges a place or not (R144). -/
theorem reconcileNext_of_open {s : State} {r : LogRecord} (h : s.openRecord = some r) : ∃ (t : State) (e : StoreEntry),
    reconcileNext s = t ∧ e.kind = .reconciliation ∧ e.record = some (s.interrupted r) ∧ e.marks = [] ∧ e.owed = none ∧
      t.counting.queue = s.counting.queue ++ [e] ∧
      t.counting.log = s.counting.log.map (fun x => if x.number = r.number then s.interrupted r else x) ∧
      t.counting.startup = s.counting.startup ∧ t.counting.next = s.counting.next ∧ t.store = s.store ∧ t.timeline = s.timeline ∧
      t.mgmt = s.mgmt ∧
      (∀ i a, s.agrees r i a →
        t.place i = { record := some a.charge, serial := s.store.allowances[i].serial, state := deriveState s (some a.charge) } ∧
        e.place = some (i, { record := some a.charge, serial := s.store.allowances[i].serial }) ∧ ∀ j, j ≠ i → t.place j = s.place j) ∧
      ((∀ i a, ¬ s.agrees r i a) → e.place = none ∧ t.counting.places = s.counting.places) := by
  cases hi : s.reconcileIndex r with
  | none =>
    refine ⟨_, _, reconcileNext_of_no_place h hi, rfl, rfl, rfl, rfl, rfl, rfl, rfl, rfl, rfl, rfl, rfl, fun i a ha => ?_,
      fun _ => ⟨rfl, rfl⟩⟩
    have := (reconcileIndex_eq_some_iff s r i).mpr ⟨a, ha⟩
    rw [hi] at this
    cases this
  | some i =>
    have hreports := evaluateChanged_reports i (enqueueStore (s.reconcileEntry r i)
      ((s.setRecord (s.interrupted r)).setPlace i (s.reconciledPlace i)))
    have hplace := fun j => evaluateChanged_place i j (enqueueStore (s.reconcileEntry r i)
      ((s.setRecord (s.interrupted r)).setPlace i (s.reconciledPlace i)))
    refine ⟨_, s.reconcileEntry r i, reconcileNext_of_place h hi, rfl, rfl, rfl, rfl, ?_, ?_, ?_, ?_, hreports.store_eq,
      hreports.timeline_eq, hreports.mgmt_eq, fun j a ha => ?_, fun hnone => ?_⟩
    · rw [hreports.counting_eq]; rfl
    · rw [hreports.counting_eq]; rfl
    · rw [hreports.counting_eq]; rfl
    · rw [hreports.counting_eq]; rfl
    · have hj := (reconcileIndex_eq_some_iff s r j).mpr ⟨a, ha⟩
      rw [hi] at hj
      cases hj
      obtain ⟨-, -, hrecord, -⟩ := ha
      have hset : ∀ k, (enqueueStore (s.reconcileEntry r i)
          ((s.setRecord (s.interrupted r)).setPlace i (s.reconciledPlace i))).place k =
          if k = i then s.reconciledPlace i else s.place k := fun k => setPlace_place (s.setRecord (s.interrupted r)) i k _
      have hrec : s.reconciledPlace i =
          { record := some a.charge, serial := s.store.allowances[i].serial, state := (s.place i).state } := by
        rw [State.reconciledPlace, hrecord]; rfl
      refine ⟨?_, ?_, fun k hk => ?_⟩
      · rw [hplace, if_pos rfl, hset, if_pos rfl, hrec]
        rfl
      · rw [State.reconcileEntry, hrec]
        rfl
      · rw [hplace, if_neg hk, hset, if_neg hk]
    · obtain ⟨a, ha⟩ := (reconcileIndex_eq_some_iff s r i).mp hi
      exact absurd ha (hnone i a)

/-! ## The end of the start-up read -/

theorem evaluateAll_reports (s : State) : reportsFrom { s with counting := { s.counting with
    places := mapVec (fun p => { p with state := deriveState s p.record }) s.counting.places } } (evaluateAll s) :=
  evaluateWarnings_reports _

theorem evaluateAll_place (s : State) (i : Fin 32) :
    (evaluateAll s).place i = { s.place i with state := deriveState s (s.place i).record } := by
  rw [State.place, (evaluateAll_reports s).counting_eq]
  simp [mapVec, State.place]

/-- The copy that start-up takes of the store, evaluated (R143). -/
theorem takenCopy_from (s : State) : ∃ places, reportsFrom { s with counting := { s.counting with
      places := places, log := s.store.log, next := numberFromStore s.store, startup := .reconciling } } (takenCopy s) ∧
    ∀ i : Fin 32, places[i] = {
      record := s.store.allowances[i].record, serial := s.store.allowances[i].serial,
      state := deriveState s s.store.allowances[i].record } := by
  refine ⟨_, reportsFrom_trans (evaluateAll_reports _) (evaluateLog_reports _), fun i => ?_⟩
  rw [Fin.getElem_fin, getElem_mapVec, getElem_mapVec]
  rfl

/-- Settles O54: the copy that start-up takes, and the reconciliation of one OPEN record after another. -/
theorem startupReadEnds : Obligations.StartupReadEnds := by
  refine ⟨fun s hrun hread => ?_, fun s hnone => reconcileNext_of_none ((openRecord_eq_none_iff s).mpr hnone), fun s r h => ?_⟩
  · obtain ⟨places, hcopy, hplaces⟩ := takenCopy_from s
    have hexec : exec .startupReadEnd s = .next (reconcileNext (takenCopy s)) :=
      (next_running hrun _).trans (congrArg Host.Outcome.next (if_pos hread))
    have hlog : (takenCopy s).counting.log = s.store.log := by rw [hcopy.counting_eq]
    cases ho : (takenCopy s).openRecord with
    | none =>
      have hnext := reconcileNext_of_none ho
      refine ⟨_, hexec, ?_⟩
      rw [hnext]
      refine ⟨by rw [hcopy.counting_eq]; rfl, hcopy.store_eq, hcopy.timeline_eq, hcopy.mgmt_eq, fun _ => ⟨rfl, hlog, ?_, fun i => ?_⟩,
        fun r hr => ?_⟩
      · rw [hcopy.counting_eq]
      · have hp : ({ takenCopy s with counting := { (takenCopy s).counting with startup := .complete } } : State).place i = places[i] := by
          rw [State.place, hcopy.counting_eq]
        rw [hp, hplaces]
        exact ⟨rfl, rfl, rfl⟩
      · rw [State.openRecord, hlog, hr] at ho
        cases ho
    | some r =>
      obtain ⟨t, e, ht, hkind, hrecord, -, -, hqueue, -, hstartup, hnumber, hstore, htimeline, hmgmt, -⟩ := reconcileNext_of_open ho
      refine ⟨t, by rw [hexec, ht], ?_, hstore.trans hcopy.store_eq, htimeline.trans hcopy.timeline_eq, hmgmt.trans hcopy.mgmt_eq,
        fun hnone => ?_, fun r' hr' => ⟨?_, e, hkind, ?_, ?_⟩⟩
      · rw [hnumber, hcopy.counting_eq]; rfl
      · have := (openRecord_eq_none_iff (takenCopy s)).mpr (by rw [hlog]; exact hnone)
        rw [ho] at this
        cases this
      · rw [hstartup, hcopy.counting_eq]
      · rw [hqueue, hcopy.counting_eq]
      · rw [State.openRecord, hlog, hr'] at ho
        cases ho
        rw [hrecord, State.interrupted, hcopy.clock_eq]
  · obtain ⟨t, e, ht, hkind, hrecord, hmarks, howed, hqueue, hlog, hstartup, -, hstore, htimeline, -, hplace, hnone⟩ := reconcileNext_of_open h
    exact ⟨t, e, ht, hkind, hrecord, hmarks, howed, hqueue, hlog, hstartup, hstore, htimeline, hplace, hnone⟩

end Sys2Proof.Machine

/-! PROOF. The Schedule Unit: the head check and what a miss leaves, the second roll, and SET_CLOCK (R59 to R61, R64 to R66, R134, R135,
R137). -/

namespace Sys2Proof.Machine

/-! ## A place for a new record -/

/-- The place found is a free one, unless every place looked at is held (R135). -/
theorem freePlace_or (log : List LogRecord) : ∀ fuel p : Nat,
    (p ≤ freePlace log p fuel ∧ freePlace log p fuel < p + fuel ∧ ∀ x ∈ log, x.place ≠ freePlace log p fuel) ∨
    ∀ q, p ≤ q → q < p + fuel → ∃ x ∈ log, x.place = q
  | 0, p => .inr fun q h h' => absurd h' (by omega)
  | fuel + 1, p => by
    by_cases hheld : log.any (fun r => decide (r.place = p)) = true
    · have hstep : freePlace log p (fuel + 1) = freePlace log (p + 1) fuel := if_pos hheld
      obtain ⟨hlow, hhigh, hfree⟩ | hall := freePlace_or log fuel (p + 1)
      · rw [hstep]
        exact .inl ⟨by omega, by omega, hfree⟩
      · refine .inr fun q h h' => ?_
        by_cases hq : q = p
        · subst hq
          simpa using hheld
        · exact hall q (by omega) (by omega)
    · have hstep : freePlace log p (fuel + 1) = p := if_neg hheld
      rw [hstep]
      refine .inl ⟨(Nat.le_refl _), by omega, fun x hx h => hheld ?_⟩
      exact List.any_eq_true.mpr ⟨x, hx, by simpa using h⟩

/-- A log with fewer records than places has a free one (R135). -/
theorem freePlace_free {log : List LogRecord} (h : log.length < 512) :
    freePlace log 0 512 < 512 ∧ ∀ x ∈ log, x.place ≠ freePlace log 0 512 := by
  obtain ⟨-, hlt, hfree⟩ | hall := freePlace_or log 512 0
  · exact ⟨by omega, hfree⟩
  · have hsub : List.range 512 ⊆ log.map LogRecord.place := fun q hq => by
      obtain ⟨x, hx, hxq⟩ := hall q (Nat.zero_le q) (by simpa using List.mem_range.mp hq)
      exact List.mem_map.mpr ⟨x, hx, hxq⟩
    have hlen := (List.nodup_range (n := 512)).length_le_of_subset hsub
    rw [List.length_range, List.length_map] at hlen
    omega

theorem roomFor_of_free {s : State} (h : s.counting.log.length < 512) :
    s.roomFor = (freePlace s.counting.log 0 512, s.counting.log) := if_pos h

/-- A full log gives the place of its first exported record (R135). -/
theorem roomFor_of_full {s : State} (h : 512 ≤ s.counting.log.length) {old : LogRecord}
    (hold : s.counting.log.find? LogRecord.exported = some old) :
    s.roomFor = (old.place, s.counting.log.filter (fun x => decide (x.number ≠ old.number))) := by
  unfold State.roomFor
  rw [if_neg (show ¬ s.counting.log.length < Config.logPlaces from Nat.not_lt.mpr h), hold]

/-- A full log with room has an exported record (R135). -/
theorem exported_of_logRoom {s : State} (h : s.logRoom = true) (hfull : 512 ≤ s.counting.log.length) :
    ∃ old, s.counting.log.find? LogRecord.exported = some old := by
  have hany : s.counting.log.any LogRecord.exported = true := by
    have hnot : ¬ s.counting.log.length < Config.logPlaces := Nat.not_lt.mpr hfull
    unfold State.logRoom at h
    simp only [Bool.and_eq_true, Bool.or_eq_true, decide_eq_true_eq, hnot, false_or] at h
    exact h.2
  obtain ⟨x, hx, hexp⟩ := List.any_eq_true.mp hany
  cases hfind : s.counting.log.find? LogRecord.exported with
  | none => exact absurd hexp (List.find?_eq_none.mp hfind x hx)
  | some old => exact ⟨old, rfl⟩

/-! ## A new record -/

section

variable (r : LogRecord) (s : State)

/-- A new record in its place, under its number (R134, R135). -/
def State.placed (s : State) : LogRecord := { r with place := s.roomFor.1, number := s.counting.next }

/-- The Showing Counter with a new record, before its creation entry (R134, R135). -/
def State.withRecord (s : State) : State :=
  { s with counting := { s.counting with log := s.roomFor.2 ++ [s.placed r], next := s.counting.next + 1 } }

theorem createRecord_eq : createRecord r s = enqueueStore
    { kind := .creation, record := some (s.placed r), place := none, marks := [], owed := none } (evaluateLog (s.withRecord r)) := rfl

/-- The two log events follow the unexported records (R135). -/
theorem evaluateLog_levels (s : State) :
    (evaluateLog s).isAsserted .logNearlyFull = decide (480 ≤ s.unexported) ∧
    (evaluateLog s).isAsserted .logFull = (decide (512 ≤ s.unexported) || decide (4294967295 < s.counting.next)) := by
  refine ⟨?_, isAsserted_setLevel _ (by decide) _⟩
  rw [State.isAsserted, evaluateLog, event_setLevel_of_ne _ (by decide) (by decide)]
  exact isAsserted_setLevel _ (by decide) _

theorem event_evaluateLog (s : State) {k : EventKind} (h : k ≠ .logNearlyFull) (h' : k ≠ .logFull) (ho : k ≠ .actionOverflow) :
    (evaluateLog s).event k = s.event k := by
  rw [evaluateLog, event_setLevel_of_ne _ h' ho, event_setLevel_of_ne _ h ho]

/-- What a new record leaves: itself at the end of the log, and its creation entry at the tail of the store queue (R134 to R137). -/
theorem createRecord_reports : reportsFrom { s with counting := { s.counting with
    log := s.roomFor.2 ++ [s.placed r], next := s.counting.next + 1, header := (createRecord r s).counting.header,
    queue := s.counting.queue ++ [{ kind := .creation, record := some (s.placed r), place := none, marks := [], owed := none }] } }
    (createRecord r s) := by
  obtain ⟨q, ev, aq, al, at_, dropped, h⟩ := (evaluateLog_reports (s.withRecord r)).exists_eq
  rw [createRecord_eq, h]
  rfl

theorem event_createRecord {k : EventKind} (h : k ≠ .logNearlyFull) (h' : k ≠ .logFull) (ho : k ≠ .actionOverflow) :
    (createRecord r s).event k = s.event k := by
  rw [createRecord_eq]
  exact (event_evaluateLog (s.withRecord r) h h' ho).trans rfl

end

/-! ## A missed head -/

/-- The record of a missed entry, before its place and number (R66, R137). -/
def missedRecord (e : SchedEntry) (why : MissReason) (s : State) : LogRecord :=
  { place := 0, number := 0, comp := e.comp, slot := none, allowance := e.allowance, serialAtOpen := none,
    usedAtOpen := none, sched := some e.ident,
    start := { day := e.day, hour := e.minute / 60, minute := e.minute % 60, second := 0 },
    ended := some s.clock.now, endUnset := !s.clock.isSet, presented := 0, repeated := 0, stalls := 0,
    outcome := .missed, miss := some why, charged := false, exported := false }

section

variable {s : State} {e : SchedEntry} {why : MissReason}

theorem recordMiss_of_room (h : s.logRoom = true) (hq : s.counting.queue.length < 5) :
    recordMiss e why s = createRecord (missedRecord e why s) s := if_pos ⟨h, hq⟩

theorem recordMiss_of_full (h : s.logRoom = false ∨ 5 ≤ s.counting.queue.length) : recordMiss e why s = s := by
  refine if_neg fun ⟨hroom, hq⟩ => ?_
  obtain h | h := h
  · rw [h] at hroom; cases hroom
  · exact Nat.not_lt.mpr h hq

theorem recordMiss_reports (e : SchedEntry) (why : MissReason) (s : State) :
    reportsFrom { s with counting := (recordMiss e why s).counting } (recordMiss e why s) := by
  by_cases h : s.logRoom = true ∧ s.counting.queue.length < 5
  · have hreports := createRecord_reports (missedRecord e why s) s
    rw [recordMiss_of_room h.1 h.2, hreports.counting_eq]
    exact hreports
  · rw [recordMiss, if_neg h]
    exact reportsFrom_refl s

theorem missHead_reports (e : SchedEntry) (why : MissReason) (s : State) :
    reportsFrom { dropHead s with counting := (missHead e why s).counting } (missHead e why s) := by
  have hoccur := occur_reports .scheduleMissed (recordMiss e why (dropHead s))
  rw [missHead, hoccur.counting_eq]
  exact reportsFrom_trans (recordMiss_reports e why (dropHead s)) hoccur

theorem missHead_count (e : SchedEntry) (why : MissReason) (s : State) :
    ((missHead e why s).event .scheduleMissed).count = min 65535 ((s.event .scheduleMissed).count + 1) := by
  have hevent : (recordMiss e why (dropHead s)).event .scheduleMissed = s.event .scheduleMissed := by
    by_cases h : (dropHead s).logRoom = true ∧ (dropHead s).counting.queue.length < 5
    · rw [recordMiss_of_room h.1 h.2, event_createRecord _ _ (by decide) (by decide) (by decide)]
      rfl
    · rw [recordMiss, if_neg h]
      rfl
  rw [missHead, occur_count _ (by decide), hevent]

end

/-! ## The head check -/

section

variable {s : State} {e : SchedEntry} {rest : List SchedEntry}

/-- A due head by the tests of its START (R65). -/
def dueHead (e : SchedEntry) (s : State) : State :=
  match startTests (s.headCall e) s with
  | .ok (i, c, bound) => acceptStart i c bound (s.headCall e) (dropHead s)
  | .error .notFound => missHead e .notFound s
  | .error .noAllowance => missHead e .noAllowance s
  | .error _ => s

/-- The head check of a queue with a head (R64, R65). -/
theorem checkHead_cons (h : s.schedule.queue = e :: rest) : checkHead s =
    if s.entryLate e then missHead e .late s
    else if s.nowSecs + s.mgmt.limits.cueAdvance < entrySecs e then s
    else if s.timeline.state ≠ .idle ∨ s.isAsserted .heartbeatLost = true then s
    else dueHead e s := by
  unfold checkHead
  rw [h]
  rfl

theorem dropHead_of_cons (h : s.schedule.queue = e :: rest) : dropHead s = { s with schedule := { s.schedule with queue := rest } } := by
  rw [dropHead, h]
  rfl

end

/-- Settles O21: the head check test by test, and the record of a miss. -/
theorem scheduleHeadCheck : Obligations.ScheduleHeadCheck := by
  refine ⟨fun s e rest hq => ?check, fun s e rest why hq => ?miss⟩
  case check =>
    have hcheck := checkHead_cons hq
    refine ⟨fun hlate => ?_, fun hnot => ?_⟩
    · rw [hcheck, if_pos (by simpa [State.entryLate] using hlate)]
    rw [if_neg (by simpa [State.entryLate] using hnot)] at hcheck
    refine ⟨fun hahead => ?_, fun hdue => ?_⟩
    · rw [hcheck, if_pos hahead]
    rw [if_neg (Nat.not_lt.mpr hdue)] at hcheck
    refine ⟨fun hheld => ?_, fun hidle hbeat => ?_⟩
    · rw [hcheck, if_pos hheld]
    rw [if_neg (by simp [hidle, hbeat])] at hcheck
    refine ⟨fun i c b htest => ?_, fun htest => ?_, fun htest => ?_, fun r htest hfound hallow => ?_⟩
    · rw [hcheck, dueHead, htest]
      dsimp only
      rw [dropHead_of_cons hq]
    · rw [hcheck, dueHead, htest]
    · rw [hcheck, dueHead, htest]
    · rw [hcheck, dueHead, htest]
      cases r with
      | notFound => exact absurd rfl hfound
      | noAllowance => exact absurd rfl hallow
      | _ => rfl
  case miss =>
    intro t
    have hreports := missHead_reports e why s
    rw [dropHead_of_cons hq] at hreports
    have hcounting : t.counting = (recordMiss e why (dropHead s)).counting := (occur_reports .scheduleMissed _).counting_eq
    refine ⟨missHead_count e why s, hreports, fun hfull => ?_, fun hroom hlen => ?_⟩
    · rw [hcounting, recordMiss_of_full (s := dropHead s) hfull]
      rfl
    · have hrecord := recordMiss_of_room (s := dropHead s) (e := e) (why := why) hroom hlen
      have hcreate := createRecord_reports (missedRecord e why (dropHead s)) (dropHead s)
      obtain ⟨hnearly, hfull⟩ := evaluateLog_levels ((dropHead s).withRecord (missedRecord e why (dropHead s)))
      have hlevel : ∀ k, k ≠ .scheduleMissed → k ≠ .actionOverflow →
          t.isAsserted k = (evaluateLog ((dropHead s).withRecord (missedRecord e why (dropHead s)))).isAsserted k := fun k hk ho => by
        rw [State.isAsserted, show t.event k = _ from event_occur_of_ne _ hk ho, hrecord]
        rfl
      have hlog : t.counting.log = (dropHead s).roomFor.2 ++ [(dropHead s).placed (missedRecord e why (dropHead s))] := by
        rw [hcounting, hrecord, hcreate.counting_eq]
      have hunexported : t.unexported = ((dropHead s).withRecord (missedRecord e why (dropHead s))).unexported := by
        rw [State.unexported, hlog]
        rfl
      have hnext : t.counting.next = ((dropHead s).withRecord (missedRecord e why (dropHead s))).counting.next := by
        rw [hcounting, hrecord, hcreate.counting_eq]
        rfl
      refine ⟨(dropHead s).placed (missedRecord e why (dropHead s)), (dropHead s).roomFor.2, ?_, rfl, fun hfree => ?_, fun hfull => ?_,
        ?_, ?_⟩
      · have hsame := hcreate.counting_eq
        rw [← hrecord, ← hcounting] at hsame
        exact hsame
      · obtain ⟨hlt, hdistinct⟩ := freePlace_free hfree
        have hroomFor := roomFor_of_free (s := dropHead s) hfree
        rw [State.placed, hroomFor]
        exact ⟨rfl, hlt, hdistinct⟩
      · obtain ⟨old, hold⟩ := exported_of_logRoom (s := dropHead s) hroom hfull
        have hroomFor := roomFor_of_full (s := dropHead s) hfull hold
        rw [State.placed, hroomFor]
        exact ⟨old, hold, rfl, rfl⟩
      · rw [hlevel _ (by decide) (by decide), hnearly, hunexported, decide_eq_true_iff]
      · rw [hlevel _ (by decide) (by decide), hfull, hunexported, hnext, Bool.or_eq_true, decide_eq_true_iff, decide_eq_true_iff]

/-! ## The clock -/

theorem timeInRange_iff (t : TimeOfDay) : timeInRange t = true ↔ t.day ≤ 65535 ∧ t.hour ≤ 23 ∧ t.minute ≤ 59 ∧ t.second ≤ 59 := by
  simp [timeInRange, and_assoc]

/-- The second after a time of day is the next one, but behind the last second of the last day (R59). -/
theorem nextSecond_facts {t : TimeOfDay} (h : timeInRange t = true) : timeInRange (nextSecond t) = true ∧
    (t ≠ { day := 65535, hour := 23, minute := 59, second := 59 } → secsOf (nextSecond t) = secsOf t + 1) ∧
    (t = { day := 65535, hour := 23, minute := 59, second := 59 } → nextSecond t = timeZero) := by
  obtain ⟨day, hour, minute, second⟩ := t
  obtain ⟨hday, hhour, hminute, hsecond⟩ := (timeInRange_iff _).mp h
  simp only at hday hhour hminute hsecond
  have hlast : (⟨day, hour, minute, second⟩ : TimeOfDay) = { day := 65535, hour := 23, minute := 59, second := 59 } ↔
      day = 65535 ∧ hour = 23 ∧ minute = 59 ∧ second = 59 := by simp
  rw [ne_eq, hlast, timeInRange_iff]
  unfold nextSecond secsOf
  by_cases hs : second < 59
  · simp only [if_pos hs]
    omega
  by_cases hm : minute < 59
  · simp only [if_neg hs, if_pos hm]
    omega
  by_cases hh : hour < 23
  · simp only [if_neg hs, if_neg hm, if_pos hh]
    omega
  by_cases hd : day < 65535
  · simp only [if_neg hs, if_neg hm, if_neg hh, if_pos hd]
    omega
  · simp only [if_neg hs, if_neg hm, if_neg hh, if_neg hd]
    refine ⟨by omega, by omega, fun _ => rfl⟩

/-! ## An opening showing leaves the clock -/

/-- What an opening showing may change beside what a showing may: the slot it takes (R71). -/
theorem openShowing_show (i : Fin 4) (c : Composition) (b : Option (Fin 32)) (a : StartCall) (s : State) :
    showFrom { s with comps := s.comps.set i (.inUse c) } (openShowing i c b a s) := by
  have hfix : showFrom { s with comps := s.comps.set i (.inUse c) } (bindShowing i c b (fixContext i c a (evaluateAll s))) := by
    have h := evaluateAll_show s
    unfold showFrom at *
    rw [h]
    rfl
  have hrest : ∀ t, showFrom t (enterState .cueing (resolveActions (updateWanted (addReel 0 (createOpen i c a.sched t))))) := fun t => by
    have h1 := showFrom_trans (createOpen_show t i c a.sched) (showFrom_of_content (addReel_content 0 _))
    generalize addReel 0 (createOpen i c a.sched t) = u at h1 ⊢
    have h2 := showFrom_trans h1 (updateWanted_show u)
    generalize updateWanted u = v at h2 ⊢
    exact showFrom_trans h2 (showFrom_trans (setActions_show v _) (enterState_show (resolveActions v) _))
  unfold openShowing
  exact showFrom_trans hfix (hrest _)

theorem acceptStart_show (i : Fin 4) (c : Composition) (b : Option (Fin 32)) (a : StartCall) (s : State) :
    showFrom { s with comps := s.comps.set i (.inUse c) } (acceptStart i c b a s) := by
  have h := openShowing_show i c b a s
  unfold acceptStart
  generalize openShowing i c b a s = t at h ⊢
  exact showFrom_trans h (settleFrom_show t t)

/-- What a showing may change is not the clock. -/
theorem showFrom.clock_eq {u t : State} (h : showFrom u t) : t.clock = u.clock := by
  obtain ⟨-, -, -, -, hclock, -⟩ := h.fields
  exact hclock

/-- The head check leaves the clock (R64). -/
theorem checkHead_clock (s : State) : (checkHead s).clock = s.clock := by
  have hmiss : ∀ e why, (missHead e why s).clock = s.clock := fun e why => (missHead_reports e why s).clock_eq
  cases hq : s.schedule.queue with
  | nil => rw [checkHead, hq]
  | cons e rest =>
    rw [checkHead_cons hq]
    split
    · exact hmiss _ _
    split
    · rfl
    split
    · rfl
    unfold dueHead
    split
    · exact (acceptStart_show _ _ _ _ (dropHead s)).clock_eq
    · exact hmiss _ _
    · exact hmiss _ _
    · rfl

theorem checkStart_clock (s : State) : (checkStart s).clock = s.clock := by
  unfold checkStart
  split
  · exact (enterPlaying_show s).clock_eq
  · rfl

/-! ## The roll of a second -/

theorem rollDamage_reports (s : State) : reportsFrom { s with link := { s.link with damage := 0 } } (rollDamage s) := by
  have h : ∀ t : State, reportsFrom s t →
      reportsFrom { s with link := { s.link with damage := 0 } } { t with link := { t.link with damage := 0 } } := by
    intro t ht
    obtain ⟨q, ev, aq, al, at_, dropped, rfl⟩ := ht.exists_eq
    rfl
  unfold rollDamage
  refine h _ ?_
  split
  · exact deassertEvent_reports _ _
  · exact reportsFrom_refl s

theorem event_rollDamage (s : State) {k : EventKind} (h : k ≠ .cellDamage) (ho : k ≠ .actionOverflow) :
    (rollDamage s).event k = s.event k := by
  unfold rollDamage
  dsimp only
  split
  · exact event_deassertEvent_of_ne s h ho
  · rfl

theorem rollDamage_clears {s : State} (h : s.link.damage = 0) : (rollDamage s).isAsserted .cellDamage = false := by
  unfold rollDamage
  rw [if_pos h]
  exact isAsserted_deassertEvent s _ (by decide)

/-- A roll's minute part evaluates the allowances (R59, R128). -/
def rollMinute (minute : Bool) (s : State) : State := if minute then evaluateAll s else s

theorem serveRoll_eq (minute : Bool) (s : State) : serveRoll minute s = checkStart (checkHead (rollMinute minute (rollDamage s))) := rfl

theorem rollMinute_reports (minute : Bool) (s : State) :
    reportsFrom { s with counting := (rollMinute minute s).counting } (rollMinute minute s) := by
  cases minute
  · exact reportsFrom_refl s
  · change reportsFrom { s with counting := (evaluateAll s).counting } (evaluateAll s)
    rw [(evaluateAll_reports s).counting_eq]
    exact evaluateAll_reports s

theorem event_rollMinute (minute : Bool) (s : State) {k : EventKind} (h : k ≠ .allowanceLow) (h' : k ≠ .allowanceExpiring)
    (ho : k ≠ .actionOverflow) : (rollMinute minute s).event k = s.event k := by
  cases minute
  · rfl
  · exact event_evaluateWarnings _ h h' ho

theorem serveRoll_clock (minute : Bool) (s : State) : (serveRoll minute s).clock = s.clock := by
  rw [serveRoll_eq, checkStart_clock, checkHead_clock, (rollMinute_reports minute _).clock_eq]
  exact (rollDamage_reports s).clock_eq

/-- The state of a running part's second roll before the head check: the clock, the heartbeat timer, the damage count and, at a minute,
the allowances (R59, R61). -/
def rolled (s : State) : State :=
  rollMinute s.clock.endsMinute (rollDamage (rollHeartbeat { s with clock := s.clock.roll }))

theorem rollSecond_of_running {s : State} (h : s.running = true) : rollSecond s = checkStart (checkHead (rolled s)) := by
  unfold rollSecond
  rw [if_pos h]
  rfl

theorem rolled_reports (s : State) : reportsFrom { s with
    clock := { s.clock with now := nextSecond s.clock.now, tick := 0 }, link := { s.link with damage := 0 },
    schedule := { s.schedule with heartbeat := min 3600 (s.schedule.heartbeat + 1) }, counting := (rolled s).counting } (rolled s) := by
  have hbeat := heartbeatAt_reports (satAdd 3600 1 s.schedule.heartbeat) { s with clock := s.clock.roll }
  have hdamage := rollDamage_reports (rollHeartbeat { s with clock := s.clock.roll })
  have hminute := rollMinute_reports s.clock.endsMinute (rollDamage (rollHeartbeat { s with clock := s.clock.roll }))
  refine reportsFrom_trans ?_ hminute
  refine reportsFrom.setCounting (x := { s with
    clock := { s.clock with now := nextSecond s.clock.now, tick := 0 }, link := { s.link with damage := 0 },
    schedule := { s.schedule with heartbeat := min 3600 (s.schedule.heartbeat + 1) } }) ?_ _
  refine reportsFrom_trans ?_ hdamage
  obtain ⟨q, ev, aq, al, at_, dropped, h⟩ := hbeat.exists_eq
  rw [show rollHeartbeat { s with clock := s.clock.roll } = _ from h]
  rfl

/-- The allowances after a second roll: as they were but for a minute roll, which evaluates them (R59, R128). -/
theorem rolled_counting (s : State) :
    (s.clock.now.second < 59 → (rolled s).counting = s.counting) ∧
    (59 ≤ s.clock.now.second → ∀ i, (rolled s).place i = { s.place i with
      state := deriveState { s with clock := (rolled s).clock } (s.place i).record }) := by
  have hbeat := heartbeatAt_reports (satAdd 3600 1 s.schedule.heartbeat) { s with clock := s.clock.roll }
  have hdamage := rollDamage_reports (rollHeartbeat { s with clock := s.clock.roll })
  have hcounting : (rollDamage (rollHeartbeat { s with clock := s.clock.roll })).counting = s.counting :=
    hdamage.counting_eq.trans hbeat.counting_eq
  have hclock : (rolled s).clock = (rollDamage (rollHeartbeat { s with clock := s.clock.roll })).clock :=
    (rollMinute_reports _ _).clock_eq
  refine ⟨fun h => ?_, fun h i => ?_⟩
  · have hno : s.clock.endsMinute = false := by simpa [Clock.endsMinute] using h
    rw [rolled, hno]
    exact hcounting
  · have hyes : s.clock.endsMinute = true := by simpa [Clock.endsMinute] using h
    rw [hclock, rolled, hyes]
    change (evaluateAll _).place i = _
    rw [evaluateAll_place, State.place, hcounting]
    exact congrArg (fun st => ({ s.place i with state := st } : Place)) (deriveState_congr rfl _)

/-- Settles O20: the clock, and the second roll of a part in reset and of a running one. -/
theorem secondRollServed : Obligations.SecondRollServed := by
  refine ⟨fun t ht => nextSecond_facts ht, fun s hpower => ⟨fun hpin => ?_, fun hpin => ?_⟩⟩
  · refine (congrArg Host.Outcome.next (if_pos hpower)).trans (congrArg Host.Outcome.next ?_)
    have hnot : s.running = false := by simp [State.running, hpin]
    unfold rollSecond
    rw [if_neg (by simp [hnot])]
    rfl
  · have hrun : s.running = true := by simp [State.running, hpower, hpin]
    have hreports := rolled_reports s
    obtain ⟨hsame, hminute⟩ := rolled_counting s
    have hexec : exec .secondRoll s = .next (checkStart (checkHead (rolled s))) :=
      (congrArg Host.Outcome.next (if_pos hpower)).trans (congrArg Host.Outcome.next (rollSecond_of_running hrun))
    refine ⟨rolled s, hexec, hreports.clock_eq, by rw [checkStart_clock, checkHead_clock], hreports.link_damage_eq,
      hreports.schedule_eq, hreports.timeline_eq, hreports.comps_eq, hreports.store_eq, hreports.mgmt_eq, hreports.buffer_eq, hsame,
      hminute, fun hperiod hreached => ?_, fun hdamage => ?_, fun hqueue hready => ?_⟩
    · rw [State.isAsserted, rolled, event_rollMinute _ _ (by decide) (by decide) (by decide), event_rollDamage _ (by decide) (by decide)]
      exact heartbeatAt_lost (s := { s with clock := s.clock.roll }) hperiod hreached
    · rw [State.isAsserted, rolled, event_rollMinute _ _ (by decide) (by decide) (by decide)]
      have hbeat := heartbeatAt_reports (satAdd 3600 1 s.schedule.heartbeat) { s with clock := s.clock.roll }
      exact rollDamage_clears (s := rollHeartbeat { s with clock := s.clock.roll }) (hbeat.link_damage_eq.trans hdamage)
    · have hhead : checkHead (rolled s) = rolled s := by rw [checkHead, hreports.schedule_eq, hqueue]
      rw [hhead, checkStart, if_neg]
      rw [hreports.timeline_eq]
      exact fun h => hready h.1

/-- Settles O26: the clock set, and its second and minute rolls. -/
theorem setClockSets : Obligations.SetClockSets := by
  refine fun tag time s hserves => ⟨fun htime => ?_, fun htime => ?_⟩
  · have hset := deassertEvent_reports .clockUnset { acceptCommand s with clock := Clock.setTo time }
    have hclear := isAsserted_deassertEvent { acceptCommand s with clock := Clock.setTo time } .clockUnset (by decide)
    generalize hu : deassertEvent .clockUnset { acceptCommand s with clock := Clock.setTo time } = u at hset hclear
    have happly : applyClock time (acceptCommand s) = serveRoll true (heartbeatAt (if u.drawBool.1 then 0 else 1) u.drawBool.2) := by
      unfold applyClock
      rw [hu]
    have hbeat := heartbeatAt_reports (if u.drawBool.1 then 0 else 1) u.drawBool.2
    refine ⟨heartbeatAt (if u.drawBool.1 then 0 else 1) u.drawBool.2, if u.drawBool.1 then 0 else 1, ?_,
      hbeat.clock_eq.trans hset.clock_eq, serveRoll_clock _ _, ?_, by split <;> omega, ?_, ?_⟩
    · refine (next_manage hserves _ _ _).trans (congrArg Host.Outcome.next ?_)
      rw [if_pos htime, happly, acceptCommand_clock]
    · have hevent : ∀ n (v : State), (heartbeatAt n v).isAsserted .clockUnset = v.isAsserted .clockUnset := fun n v => by
        unfold heartbeatAt
        dsimp only
        split
        · rw [State.isAsserted, event_assertEvent_of_ne _ (by decide) (by decide)]; rfl
        · rfl
      rw [hevent]
      exact hclear
    · refine hbeat.schedule_eq.trans ?_
      rw [show u.drawBool.2.schedule = (acceptCommand s).schedule from hset.schedule_eq, acceptCommand_schedule]
    · exact hbeat.timeline_eq.trans (hset.timeline_eq.trans (acceptCommand_timeline s))
  · refine (next_manage hserves _ _ _).trans (congrArg Host.Outcome.next ?_)
    rw [htime]
    rfl

end Sys2Proof.Machine

/-! PROOF. What the lanes' operations leave: the wanted set, the slots, the Reel Buffer and the Lead Monitor, once for each operation
(R17 to R20, R31, R32, R38, R40 to R48). -/

namespace Sys2Proof.Machine

/-! ## Wanted set, slots and Reel Buffer -/

/-- `t` is `u` but for wanted set, slots, buffer and the counts of units, and what reaches the Event Table, where BUFFER_FULL and
ACTION_OVERFLOW alone may change. -/
structure StockFrom (u t : State) : Prop where
  frame : t = { u with
    wanted := t.wanted, slots := t.slots, buffer := t.buffer, events := t.events,
    counters := { u.counters with
      assembled := t.counters.assembled, discarded := t.counters.discarded, abandoned := t.counters.abandoned,
      actionsDropped := t.counters.actionsDropped },
    actions := { u.actions with queue := t.actions.queue, line := t.actions.line, timer := t.actions.timer },
    link := { u.link with queue := t.link.queue } }
  events : ∀ k, k ≠ .bufferFull → k ≠ .actionOverflow → t.event k = u.event k

theorem stockFrom_refl (s : State) : StockFrom s s := ⟨rfl, fun _ _ _ => rfl⟩

theorem stockFrom_trans {s t u : State} (h : StockFrom s t) (h' : StockFrom t u) : StockFrom s u := by
  refine ⟨?_, fun k hk ho => (h'.events k hk ho).trans (h.events k hk ho)⟩
  have hframe := h.frame
  have hframe' := h'.frame
  rw [hframe'] at *
  rw [hframe]

theorem stockFrom_foldl {α : Type} {f : State → α → State} (h : ∀ s a, StockFrom s (f s a)) :
    ∀ (l : List α) (s : State), StockFrom s (l.foldl f s)
  | [], s => stockFrom_refl s
  | a :: l, s => stockFrom_trans (h s a) (stockFrom_foldl h l (f s a))

theorem stockFrom_of_reports {s t : State} (h : reportsFrom s t)
    (hevents : ∀ k, k ≠ .bufferFull → k ≠ .actionOverflow → t.event k = s.event k) : StockFrom s t := by
  refine ⟨?_, hevents⟩
  unfold reportsFrom at h
  rw [h]

/-- What the wanted set and the Reel Buffer leave alone, beside what the whole content path leaves alone. -/
theorem StockFrom.fields {u t : State} (h : StockFrom u t) :
    t.holds = u.holds ∧ t.cues = u.cues ∧ t.counters.repeats = u.counters.repeats ∧ t.counters.silences = u.counters.silences ∧
    t.draws = u.draws := by
  rw [h.frame]
  exact ⟨rfl, rfl, rfl, rfl, rfl⟩

theorem contentFrom_of_stock {s t : State} (h : StockFrom s t) : contentFrom s t := by
  unfold contentFrom
  rw [h.frame]

theorem setWanted_stock (s : State) (w : List Wanted) : StockFrom s { s with wanted := w } := ⟨rfl, fun _ _ _ => rfl⟩

theorem setQueue_stock (s : State) (l : Lane) (v : List UnitRec) : StockFrom s (s.setQueue l v) := ⟨rfl, fun _ _ _ => rfl⟩

theorem returnBlocks_stock (n : Nat) (s : State) : StockFrom s (returnBlocks n s) :=
  stockFrom_trans (t := { s with buffer := { s.buffer with pool := s.buffer.pool + n } }) ⟨rfl, fun _ _ _ => rfl⟩
    (stockFrom_of_reports (returnBlocks_reports n s) fun _ hk ho => event_returnBlocks n s hk ho)

theorem emptySlots_stock_discarded (l : Lane) (goes : AsmSlot → Bool) (s : State) : StockFrom s (emptySlots l goes noteDiscarded s) :=
  stockFrom_trans (t := (s.setSlots l ((s.laneSlots l).filter (fun x => !goes x))).count
    (noteDiscarded ((s.laneSlots l).filter goes).length)) ⟨rfl, fun _ _ _ => rfl⟩ (returnBlocks_stock _ _)

theorem emptySlots_stock_abandoned (l : Lane) (goes : AsmSlot → Bool) (s : State) : StockFrom s (emptySlots l goes noteAbandoned s) :=
  stockFrom_trans (t := (s.setSlots l ((s.laneSlots l).filter (fun x => !goes x))).count
    (noteAbandoned ((s.laneSlots l).filter goes).length)) ⟨rfl, fun _ _ _ => rfl⟩ (returnBlocks_stock _ _)

theorem dropStaleHeads_stock (l : Lane) (k u : Nat) (s : State) : StockFrom s (dropStaleHeads l k u s) :=
  stockFrom_trans (t := (s.setQueue l ((s.queue l).dropWhile (fun q => unitBefore q k u))).count
    (noteDiscarded ((s.queue l).takeWhile (fun q => unitBefore q k u)).length)) ⟨rfl, fun _ _ _ => rfl⟩ (returnBlocks_stock _ _)

theorem unitDue_stock (l : Lane) (k u : Nat) (s : State) : StockFrom s (unitDue l k u s).2 := by
  have h := dropStaleHeads_stock l k u s
  rw [unitDue_eq]
  split
  · split
    · exact stockFrom_trans (stockFrom_trans h (setQueue_stock _ l _)) (returnBlocks_stock _ _)
    · exact h
  · exact h

/-- A picture or sound unit that joins goes to its lane's queue (R31). -/
theorem joinUnit_stock {l : Lane} (hl : ∀ i, l ≠ .txt i) (x : AsmSlot) (s : State) : StockFrom s (joinUnit l x s) := by
  cases l with
  | txt i => exact absurd rfl (hl i)
  | _ => exact ⟨rfl, fun _ _ _ => rfl⟩

theorem joinLane_stock {l : Lane} (hl : ∀ i, l ≠ .txt i) (s : State) : StockFrom s (joinLane l s) :=
  joinRun_induction (P := StockFrom) stockFrom_refl (fun s x _ _ h => stockFrom_trans (joinUnit_stock hl x s) h) _ s

theorem deadline_stock {l : Lane} (hl : ∀ i, l ≠ .txt i) (k u : Nat) (s : State) : StockFrom s (deadline l k u s) := by
  cases hb : s.base k l with
  | none => rw [deadline_of_no_base hb]; exact stockFrom_refl s
  | some b =>
    by_cases hu : u < b
    · rw [deadline_of_passed hb hu]; exact stockFrom_refl s
    · rw [deadline_of_base hb (Nat.not_lt.mp hu)]
      exact stockFrom_trans (stockFrom_trans (emptySlots_stock_discarded l (passedSlot k b u) s) (setWanted_stock _ _))
        (joinLane_stock hl _)

theorem joinTurns_stock (s : State) : StockFrom s (joinTurns s) :=
  stockFrom_foldl (fun s l => joinLane_stock (avToLane_not_text l) s) avLanes s

/-- Slots of a reel emptied on some lanes (R19). -/
theorem emptyReel_stock (k : Nat) (ls : List Lane) (s : State) :
    StockFrom s (ls.foldl (fun s l => emptySlots l (fun x => decide (x.reel = k)) noteAbandoned s) s) :=
  stockFrom_foldl (fun s l => emptySlots_stock_abandoned l _ s) ls s

theorem removeReel_stock (k : Nat) (s : State) : StockFrom s (removeReel k s) := by
  have h := stockFrom_trans (setWanted_stock s (s.wanted.filter (fun w => decide (w.index ≠ k)))) (emptyReel_stock k allLanes _)
  unfold removeReel
  generalize allLanes.foldl _ _ = t at h ⊢
  exact stockFrom_trans h (joinTurns_stock t)

theorem addReel_stock (k : Nat) (s : State) : StockFrom s (addReel k s) := by
  unfold addReel
  split
  · exact stockFrom_refl s
  · exact stockFrom_trans (setWanted_stock s _) (stockFrom_of_reports (queueReport_reports _ _) fun _ _ _ => rfl)

theorem noteFinished_stock (s : State) : StockFrom s (noteFinished s) := setWanted_stock s _

theorem sortWanted_stock : ∀ (n : Nat) (s : State), StockFrom s (sortWanted n s)
  | 0, s => stockFrom_refl s
  | n + 1, s => by
    cases hnext : (noteFinished s).nextWanted with
    | some k =>
      rw [sortWanted_of_next hnext]
      exact stockFrom_trans (stockFrom_trans (noteFinished_stock s) (addReel_stock k _)) (sortWanted_stock n _)
    | none =>
      cases htaken : (noteFinished s).wanted.find? (noteFinished s).instantsTaken with
      | some w =>
        rw [sortWanted_of_taken hnext htaken]
        exact stockFrom_trans (stockFrom_trans (noteFinished_stock s) (removeReel_stock _ _)) (sortWanted_stock n _)
      | none =>
        rw [sortWanted_of_settled hnext htaken]
        exact noteFinished_stock s

theorem updateWanted_stock (s : State) : StockFrom s (updateWanted s) := sortWanted_stock _ s

/-! ## With the Lead Monitor -/

/-- `t` is `u` but for what the lanes' operations may change: as for the Reel Buffer, and holds with their pace values kept. -/
structure LaneFrom (u t : State) : Prop where
  frame : t = { u with
    wanted := t.wanted, slots := t.slots, buffer := t.buffer, holds := t.holds, events := t.events,
    counters := { u.counters with
      assembled := t.counters.assembled, discarded := t.counters.discarded, abandoned := t.counters.abandoned,
      actionsDropped := t.counters.actionsDropped },
    actions := { u.actions with queue := t.actions.queue, line := t.actions.line, timer := t.actions.timer },
    link := { u.link with queue := t.link.queue } }
  events : ∀ k, k ≠ .bufferFull → k ≠ .actionOverflow → t.event k = u.event k
  pace : ∀ l, (t.hold l).pace = (u.hold l).pace

theorem laneFrom_trans {s t u : State} (h : LaneFrom s t) (h' : LaneFrom t u) : LaneFrom s u := by
  refine ⟨?_, fun k hk ho => (h'.events k hk ho).trans (h.events k hk ho), fun l => (h'.pace l).trans (h.pace l)⟩
  have hframe := h.frame
  have hframe' := h'.frame
  rw [hframe'] at *
  rw [hframe]

theorem laneFrom_of_stock {s t : State} (h : StockFrom s t) : LaneFrom s t := by
  obtain ⟨hholds, -⟩ := h.fields
  refine ⟨?_, h.events, fun l => by rw [hold_congr hholds]⟩
  rw [h.frame]

theorem laneFrom_of_holds {s t : State} (h : holdsFrom s t) (hpace : ∀ l, (t.hold l).pace = (s.hold l).pace) : LaneFrom s t := by
  obtain ⟨-, -, -, -, -, -, hevents, -⟩ := h.fields
  refine ⟨?_, fun k _ _ => event_congr hevents k, hpace⟩
  unfold holdsFrom at h
  rw [h]

theorem settleLeads_lane (before s : State) : LaneFrom s (settleLeads before s) :=
  laneFrom_of_holds (settleLeads_holdsFrom before s) (settleLeads_pace before s)

theorem closeInstant_lane (before s : State) : LaneFrom s (closeInstant before s) :=
  laneFrom_trans (laneFrom_trans (settleLeads_lane before s) (laneFrom_of_stock (updateWanted_stock _))) (settleLeads_lane _ _)

theorem contentFrom_of_lane {s t : State} (h : LaneFrom s t) : contentFrom s t := by
  unfold contentFrom
  rw [h.frame]

/-- What the lanes' operations leave alone, beside what the whole content path leaves alone. -/
theorem LaneFrom.fields {u t : State} (h : LaneFrom u t) :
    t.cues = u.cues ∧ t.counters.repeats = u.counters.repeats ∧ t.counters.silences = u.counters.silences ∧ t.draws = u.draws := by
  rw [h.frame]
  exact ⟨rfl, rfl, rfl, rfl⟩

end Sys2Proof.Machine

/-! PROOF. The Cue Engine: cue blocks and their records, the cue tables, the frames, and the caption messages they send (R111 to R125). -/

namespace Sys2Proof.Machine

/-! ## Cue tables -/

theorem cueTable_setCueTable (s : State) (i j : Fin 4) (t : List CueEntry) :
    (s.setCueTable i t).cueTable j = if j = i then t else s.cueTable j := by
  by_cases h : j = i
  · subst h; simp [State.cueTable, State.setCueTable]
  · have hval : i.val ≠ j.val := fun e => h (Fin.ext e.symm)
    simp [State.cueTable, State.setCueTable, h, hval]

theorem cueTable_congr {s t : State} (h : t.cues = s.cues) (i : Fin 4) : t.cueTable i = s.cueTable i := by
  rw [State.cueTable, h]; rfl

theorem textInUse_eq (t : List CueEntry) : textInUse t = (t.map (fun e => e.text.length)).sum := by
  rw [textInUse, List.sum_eq_foldl]

theorem textInUse_insert (before after : List CueEntry) (e : CueEntry) :
    textInUse (before ++ e :: after) = textInUse (before ++ after) + e.text.length := by
  simp only [textInUse_eq, List.map_append, List.map_cons, List.sum_append, List.sum_cons]
  omega

theorem cueBefore_iff (a b : CueEntry) : cueBefore a b = true ↔
    a.reel < b.reel ∨ a.reel = b.reel ∧ (a.tin < b.tin ∨ a.tin = b.tin ∧ a.number < b.number) := by
  simp [cueBefore]

/-! ## A converted cue -/

section

variable (i : Fin 4) (e : CueEntry) (s : State)

/-- The table holds a cue of the reel with the number (R114). -/
def State.cueHeld (s : State) : Bool := (s.cueTable i).any (fun x => decide (x.reel = e.reel) && decide (x.number = e.number))

theorem cueHeld_iff : s.cueHeld i e = true ↔ ∃ x ∈ s.cueTable i, x.reel = e.reel ∧ x.number = e.number := by
  simp [State.cueHeld]

theorem cueLate_iff : s.cueLate e = true ↔ e.reel ∈ s.cues.begun ∧ e.tin ≤ s.timeline.p := by
  simp [State.cueLate]

/-- The state with a cue in its place, counted (R114). -/
def State.cuePlaced (s : State) : State :=
  (s.setCueTable i (insertBy cueBefore e (s.cueTable i))).count (fun k => { k with cuesAccepted := bump32 1 k.cuesAccepted })

/-- A converted cue, test by test (R114, R115). -/
theorem acceptCue_eq : acceptCue i e s =
    if s.cueHeld i e then s.count (fun k => { k with duplicateCue := bump32 1 k.duplicateCue })
    else if s.cueLate e = true ∧ e.tout ≤ (s.timeline.p : Int) then dropLate s
    else if 384 ≤ (s.cueTable i).length ∨ 65536 < textInUse (s.cueTable i) + e.text.length then
      occur .cueOverflow (s.count (fun k => { k with overflow := bump32 1 k.overflow }))
    else if s.cueLate e then occur .cueLate (s.cuePlaced i e) else s.cuePlaced i e := rfl

theorem dropLate_facts : ((dropLate s).event .cueLate).count = min 65535 ((s.event .cueLate).count + 1) ∧
    reportsFrom { s with counters := { s.counters with late := min 4294967295 (s.counters.late + 1) } } (dropLate s) :=
  ⟨occur_count _ (by decide), occur_reports _ _⟩

theorem cuePlaced_table (j : Fin 4) : (s.cuePlaced i e).cueTable j = if j = i then insertBy cueBefore e (s.cueTable i) else s.cueTable j :=
  cueTable_setCueTable s i j _

/-- A converted cue leaves its table within its bounds (R114). -/
theorem acceptCue_bounded {i j : Fin 4} {e : CueEntry} {s : State} (hlen : (s.cueTable j).length ≤ 384)
    (htext : textInUse (s.cueTable j) ≤ 65536) :
    ((acceptCue i e s).cueTable j).length ≤ 384 ∧ textInUse ((acceptCue i e s).cueTable j) ≤ 65536 := by
  have hkept : ∀ t : State, t.cues = s.cues → (t.cueTable j).length ≤ 384 ∧ textInUse (t.cueTable j) ≤ 65536 := fun t ht => by
    rw [cueTable_congr ht]
    exact ⟨hlen, htext⟩
  have hplaced : ¬ (384 ≤ (s.cueTable i).length ∨ 65536 < textInUse (s.cueTable i) + e.text.length) →
      ((s.cuePlaced i e).cueTable j).length ≤ 384 ∧ textInUse ((s.cuePlaced i e).cueTable j) ≤ 65536 := fun hroom => by
    rw [cuePlaced_table]
    split
    next hj =>
      obtain ⟨before, after, htable, hinsert, -, -⟩ := insertBy_split cueBefore e (s.cueTable i)
      rw [length_insertBy, hinsert, textInUse_insert, ← htable]
      omega
    next => exact ⟨hlen, htext⟩
  rw [acceptCue_eq]
  split
  · exact hkept _ rfl
  split
  · exact hkept _ (occur_reports _ _).cues_eq
  split
  · exact hkept _ (occur_reports _ _).cues_eq
  next hroom =>
    split
    · rw [cueTable_congr (occur_reports _ _).cues_eq]
      exact hplaced hroom
    · exact hplaced hroom

end

/-! ## The records of a block -/

section

variable (i : Fin 4) (k : Nat) (row : ReelRow) (track : TextTrack) (c : RawCue) (s : State)

/-- A converted record against its reel's ends, and an ended reel (R113, R111). -/
theorem readCue_eq : readCue i k row track c s =
    if c.number = 0 ∨ 480 < c.text.length then s.count (fun n => { n with malformed := bump32 1 n.malformed })
    else if c.timeOut ≤ c.timeIn then s.count (fun n => { n with inverted := bump32 1 n.inverted })
    else if (convertCue k row track c).tout ≤ (row.start : Int) ∨ (row.endTick : Int) ≤ (convertCue k row track c).tin then
      s.count (fun n => { n with outsideReel := bump32 1 n.outsideReel })
    else if s.cues.ended.contains k then dropLate s
    else acceptCue i (convertCue k row track c) s := rfl

/-- The ticks of a record's times (R112). -/
theorem convertCue_eq : convertCue k row track c =
    { reel := k, opened := track.opened, number := c.number,
      tin := (row.start : Int) + c.timeIn * ((96000 / track.cueRate : Nat) : Int) - row.reel.entry * row.reel.ticks,
      tout := (row.start : Int) + c.timeOut * ((96000 / track.cueRate : Nat) : Int) - row.reel.entry * row.reel.ticks,
      fadeIn := c.fadeIn * (96000 / track.cueRate), fadeOut := c.fadeOut * (96000 / track.cueRate), region := min c.region 7,
      lines := max 1 (min c.lines 4), text := c.text, textSent := false, conflict := false, held := false, attempted := false } := by
  rfl

end

/-! ## What a frame leaves -/

/-- `t` is `u` but for the cue tables, the caption line, and the counts of cues and messages, and what reaches the Event Table, where only
the Cue Engine's own events and ACTION_OVERFLOW may change; each cue that stays was there with its reel and end. -/
structure TableFrom (u t : State) : Prop where
  frame : t = { u with
    cues := { u.cues with tables := t.cues.tables, queue := t.cues.queue, line := t.cues.line, timer := t.cues.timer },
    events := t.events,
    counters := { u.counters with
      cuesShown := t.counters.cuesShown, neverShown := t.counters.neverShown, captionsDropped := t.counters.captionsDropped,
      actionsDropped := t.counters.actionsDropped },
    actions := { u.actions with queue := t.actions.queue, line := t.actions.line, timer := t.actions.timer },
    link := { u.link with queue := t.link.queue } }
  events : ∀ k, k ≠ .cueOverflow → k ≠ .captionOverflow → k ≠ .regionConflict → k ≠ .actionOverflow → t.event k = u.event k
  kept : ∀ i, ∀ e ∈ t.cueTable i, ∃ x ∈ u.cueTable i, x.reel = e.reel ∧ x.tout = e.tout

theorem tableFrom_refl (s : State) : TableFrom s s := ⟨rfl, fun _ _ _ _ _ => rfl, fun _ e he => ⟨e, he, rfl, rfl⟩⟩

theorem tableFrom_trans {s t u : State} (h : TableFrom s t) (h' : TableFrom t u) : TableFrom s u := by
  refine ⟨?_, fun k h1 h2 h3 h4 => (h'.events k h1 h2 h3 h4).trans (h.events k h1 h2 h3 h4), fun i e he => ?_⟩
  · have hframe := h.frame
    have hframe' := h'.frame
    rw [hframe'] at *
    rw [hframe]
  · obtain ⟨x, hx, hreel, htout⟩ := h'.kept i e he
    obtain ⟨y, hy, hreel', htout'⟩ := h.kept i x hx
    exact ⟨y, hy, hreel'.trans hreel, htout'.trans htout⟩

theorem tableFrom_foldl {α : Type} {f : State → α → State} (h : ∀ s a, TableFrom s (f s a)) :
    ∀ (l : List α) (s : State), TableFrom s (l.foldl f s)
  | [], s => tableFrom_refl s
  | a :: l, s => tableFrom_trans (h s a) (tableFrom_foldl h l (f s a))

theorem tableFrom_ite {s t u : State} {p : Prop} [Decidable p] (h : TableFrom s t) (h' : TableFrom s u) :
    TableFrom s (if p then t else u) := by
  split <;> assumption

/-- Reports of the Cue Engine's own events leave the tables. -/
theorem tableFrom_of_reports {s t : State} (h : reportsFrom s t)
    (hevents : ∀ k, k ≠ .cueOverflow → k ≠ .captionOverflow → k ≠ .regionConflict → k ≠ .actionOverflow → t.event k = s.event k) :
    TableFrom s t := by
  refine ⟨?_, hevents, fun i e he => ⟨e, by rwa [cueTable_congr h.cues_eq] at he, rfl, rfl⟩⟩
  unfold reportsFrom at h
  rw [h]

/-- The Cue Engine's fields that a frame's own steps leave. -/
theorem TableFrom.cues_eq {u t : State} (h : TableFrom u t) : t.cues =
    { u.cues with tables := t.cues.tables, queue := t.cues.queue, line := t.cues.line, timer := t.cues.timer } := by
  rw [h.frame]

theorem TableFrom.repeats_eq {u t : State} (h : TableFrom u t) : t.counters.repeats = u.counters.repeats := by rw [h.frame]

theorem countShown_table (g : Nat → Nat) (s : State) : TableFrom s (s.count (fun c => { c with cuesShown := g c.cuesShown })) :=
  ⟨rfl, fun _ _ _ _ _ => rfl, fun _ e he => ⟨e, he, rfl, rfl⟩⟩

theorem occur_table {k : EventKind} (hk : k = .cueOverflow ∨ k = .regionConflict) (s : State) : TableFrom s (occur k s) := by
  refine tableFrom_of_reports (occur_reports k s) fun j h1 _ h3 h4 => event_occur_of_ne s ?_ h4
  obtain rfl | rfl := hk
  · exact h1
  · exact h3

theorem noteLeft_table (e : CueEntry) (s : State) : TableFrom s (noteLeft e s) := by
  have h : TableFrom s (s.count (fun c => { c with neverShown := bump32 1 c.neverShown })) := ⟨rfl, fun _ _ _ _ _ => rfl,
    fun _ e he => ⟨e, he, rfl, rfl⟩⟩
  exact tableFrom_ite (tableFrom_refl s) (tableFrom_ite (tableFrom_trans h (occur_table (.inl rfl) _)) h)

/-- A table whose cues keep their reel and end. -/
theorem setCueTable_table {s : State} {i : Fin 4} {t : List CueEntry} (h : ∀ e ∈ t, ∃ x ∈ s.cueTable i, x.reel = e.reel ∧ x.tout = e.tout) :
    TableFrom s (s.setCueTable i t) := by
  refine ⟨rfl, fun _ _ _ _ _ => rfl, fun j e he => ?_⟩
  rw [cueTable_setCueTable] at he
  split at he
  next hj => subst hj; exact h e he
  next => exact ⟨e, he, rfl, rfl⟩

theorem dropCues_table (i : Fin 4) (p : CueEntry → Bool) (s : State) : TableFrom s (dropCues i p s) :=
  tableFrom_trans (setCueTable_table fun e he => ⟨e, (List.mem_filter.mp he).1, rfl, rfl⟩)
    (tableFrom_foldl (fun s e => noteLeft_table e s) _ _)

theorem noteLeft_cues (e : CueEntry) (s : State) : (noteLeft e s).cues = s.cues := by
  unfold noteLeft
  dsimp only
  split
  · rfl
  split
  · exact (occur_reports _ _).cues_eq
  · rfl

theorem foldl_noteLeft_cues : ∀ (l : List CueEntry) (s : State), (l.foldl (fun s e => noteLeft e s) s).cues = s.cues
  | [], _ => rfl
  | e :: l, s => by rw [List.foldl_cons, foldl_noteLeft_cues l, noteLeft_cues]

theorem dropCues_cueTable (i j : Fin 4) (p : CueEntry → Bool) (s : State) :
    (dropCues i p s).cueTable j = if j = i then (s.cueTable i).filter (fun e => !p e) else s.cueTable j := by
  rw [dropCues, cueTable_congr (foldl_noteLeft_cues _ _), cueTable_setCueTable]

theorem offerCaption_table (m : CaptionMsg) (s : State) : TableFrom s (offerCaption m s).1 := by
  unfold offerCaption
  dsimp only
  split
  · have hoffer : (s.cues.offer m).1 = { s.cues with
        queue := (s.cues.offer m).1.queue, line := (s.cues.offer m).1.line, timer := (s.cues.offer m).1.timer } := by
      unfold CueEngine.offer
      split
      · rfl
      split <;> rfl
    refine ⟨?_, fun _ _ _ _ _ => rfl, fun i e he => ⟨e, ?_, rfl, rfl⟩⟩
    · dsimp only
      rw [hoffer]
    · rw [State.cueTable, hoffer] at he
      exact he
  · refine tableFrom_trans (t := s.count (fun k => { k with captionsDropped := bump32 1 k.captionsDropped }))
      ⟨rfl, fun _ _ _ _ _ => rfl, fun _ e he => ⟨e, he, rfl, rfl⟩⟩ (tableFrom_of_reports (assertEvent_reports _ _) fun j _ h2 _ h4 => ?_)
    exact event_assertEvent_of_ne _ h2 h4

theorem queueCaption_table (m : CaptionMsg) (s : State) : TableFrom s (queueCaption m s) := offerCaption_table m s

theorem queueClears_table (i : Fin 4) (l : List CueEntry) (s : State) : TableFrom s (queueClears i l s) := by
  unfold queueClears
  exact tableFrom_foldl (fun s (e : CueEntry) => queueCaption_table (.clear i e.number) s) _ s

theorem openFrame_table (i : Fin 4) (k f ticks : Nat) (s : State) : TableFrom s (openFrame i k f ticks s).1 := by
  unfold openFrame
  dsimp only
  refine tableFrom_trans (tableFrom_trans (setCueTable_table fun e he => ?_) (countShown_table _ _))
    (tableFrom_foldl (fun s _ => occur_table (.inr rfl) s) _ _)
  obtain ⟨x, hx, rfl⟩ := List.mem_map.mp he
  refine ⟨x, hx, ?_⟩
  split <;> exact ⟨rfl, rfl⟩

theorem offerShow_table (i : Fin 4) (s : State) (e : CueEntry) : TableFrom s (offerShow i s e) :=
  tableFrom_ite (tableFrom_trans (offerCaption_table _ s) (countShown_table _ _))
    (offerCaption_table _ s)

theorem closedFrame_table (i : Fin 4) (k f : Nat) (first : Bool) (t : TextTrack) (left : List CueEntry) (s : State) :
    TableFrom s (closedFrame i k f first t left s) := by
  refine tableFrom_trans (tableFrom_trans (tableFrom_trans (tableFrom_ite (queueCaption_table _ s) (tableFrom_refl s))
    (queueClears_table i left _)) (tableFrom_foldl (offerShow_table i) _ _)) (setCueTable_table fun e he => ?_)
  obtain ⟨x, hx, rfl⟩ := List.mem_map.mp he
  refine ⟨x, hx, ?_⟩
  split <;> exact ⟨rfl, rfl⟩

/-- The OPEN lanes' parts of a frame, one after another, and the entries they give. -/
def openFrames (k f ticks : Nat) (l : List (Fin 4)) (acc : State × List OverlayEntry) : State × List OverlayEntry :=
  l.foldl (fun (acc : State × List OverlayEntry) i =>
    ((openFrame i k f ticks acc.1).1, acc.2 ++ (openFrame i k f ticks acc.1).2)) acc

theorem openFrames_table (k f ticks : Nat) : ∀ (l : List (Fin 4)) (acc : State × List OverlayEntry),
    TableFrom acc.1 (openFrames k f ticks l acc).1
  | [], _ => tableFrom_refl _
  | i :: l, acc => tableFrom_trans (openFrame_table i k f ticks acc.1)
      (openFrames_table k f ticks l ((openFrame i k f ticks acc.1).1, acc.2 ++ (openFrame i k f ticks acc.1).2))

/-- Cues that meet a test dropped on some lanes (R116). -/
def dropOn (p : CueEntry → Bool) (ls : List (Fin 4)) (s : State) : State := ls.foldl (fun s i => dropCues i p s) s

theorem dropOn_table (p : CueEntry → Bool) (ls : List (Fin 4)) (s : State) : TableFrom s (dropOn p ls s) :=
  tableFrom_foldl (fun s i => dropCues_table i p s) ls s

/-- Cues dropped on some lanes are in none of those lanes' tables (R116). -/
theorem dropOn_gone (p : CueEntry → Bool) : ∀ (ls : List (Fin 4)) (s : State) (i : Fin 4),
    i ∈ ls ∨ (∀ e ∈ s.cueTable i, p e = false) → ∀ e ∈ (dropOn p ls s).cueTable i, p e = false
  | [], _, _, h => h.elim (fun hi => by cases hi) id
  | l :: ls, s, i, hi => by
    refine dropOn_gone p ls (dropCues l p s) i ?_
    by_cases hl : i = l
    · refine .inr fun e he => ?_
      rw [dropCues_cueTable, if_pos hl] at he
      simpa using (List.mem_filter.mp he).2
    · obtain hi | hi := hi
      · exact .inl ((List.mem_cons.mp hi).resolve_left hl)
      · refine .inr fun e he => hi e ?_
        rwa [dropCues_cueTable, if_neg hl] at he

theorem mem_fours (i : Fin 4) : i ∈ fours := by
  revert i
  decide

/-- The CLOSED lanes' parts of a frame, one after another (R123). -/
def closedFrames (k f : Nat) (row : ReelRow) (first : Bool) (left : List (List CueEntry)) (l : List (Fin 4)) (s : State) : State :=
  l.foldl (fun s i =>
    match row.reel.textOn i with
    | some t => if t.opened then s else closedFrame i k f first t (left.getD i.val []) s
    | none => s) s

theorem closedFrames_table (k f : Nat) (row : ReelRow) (first : Bool) (left : List (List CueEntry)) (l : List (Fin 4)) (s : State) :
    TableFrom s (closedFrames k f row first left l s) :=
  tableFrom_foldl (fun s i => by
    split
    · exact tableFrom_ite (tableFrom_refl s) (closedFrame_table i k f _ _ _ s)
    · exact tableFrom_refl s) l s

/-- A reel comes into view at a frame start, and is begun at its first (R110). -/
def startView (k f : Nat) (row : ReelRow) (s : State) : State :=
  { s with cues := { s.cues with
    inView := some k, begun := if decide (f = row.start) ∧ !s.cues.begun.contains k then s.cues.begun ++ [k] else s.cues.begun } }

theorem startView_begun {k f : Nat} {row : ReelRow} (h : f = row.start) (s : State) : k ∈ (startView k f row s).cues.begun := by
  by_cases hk : k ∈ s.cues.begun <;> simp [startView, h, hk]

/-- A cue of reel `k` whose end the frame start `f` has reached (R116). -/
def endedCue (k f : Nat) (e : CueEntry) : Bool := decide (e.reel = k) && decide (e.tout ≤ (f : Int))

/-- The lanes whose track in the reel is OPEN. -/
def openLanes (row : ReelRow) : List (Fin 4) := fours.filter (fun i => ((row.reel.textOn i).map TextTrack.opened).getD false)

/-- The OPEN lanes' parts of a frame, behind the cues that leave (R116 to R121). -/
def openPart (k f : Nat) (row : ReelRow) (s : State) : State × List OverlayEntry :=
  openFrames k f row.reel.ticks (openLanes row) (dropOn (endedCue k f) fours (startView k f row s), [])

/-- A frame of a reel (R117): the OPEN lanes' parts, the frame's overlay list, and the CLOSED lanes' parts. -/
theorem frameStart_eq {k : Nat} {s : State} {row : ReelRow} (f : Nat) (hrow : s.row k = some row) :
    frameStart k f s = closedFrames k f row (decide (f = row.start)) (fours.map (fun i => (s.cueTable i).filter (endedCue k f))) fours
      { (openPart k f row s).1 with cues := { (openPart k f row s).1.cues with overlay := some (openPart k f row s).2 } } := by
  unfold frameStart
  rw [hrow]
  unfold openPart openLanes dropOn endedCue startView openFrames closedFrames
  rfl

/-- The frame's parts: from the reel in view over the OPEN lanes, which leave no cue of it that has ended (R116, R117). -/
theorem openPart_table (k f : Nat) (row : ReelRow) (s : State) : TableFrom (startView k f row s) (openPart k f row s).1 ∧
    ∀ i, ∀ e ∈ (openPart k f row s).1.cueTable i, e.reel = k → (f : Int) < e.tout := by
  have hdrop := dropOn_table (endedCue k f) fours (startView k f row s)
  have hgone := fun i => dropOn_gone (endedCue k f) fours (startView k f row s) i (.inl (mem_fours i))
  unfold openPart
  generalize dropOn (endedCue k f) fours (startView k f row s) = v at *
  have hopen := openFrames_table k f row.reel.ticks (openLanes row) (v, [])
  refine ⟨tableFrom_trans hdrop hopen, fun i e he hk => ?_⟩
  obtain ⟨x, hx, hreel, htout⟩ := hopen.kept i e he
  have hnot := hgone i x hx
  rw [endedCue, hreel, htout, hk] at hnot
  simpa using hnot

theorem frameStart_facts {k : Nat} {s : State} {row : ReelRow} (f : Nat) (hrow : s.row k = some row) :
    ∃ w : State, TableFrom (startView k f row s) w ∧ (∀ i, ∀ e ∈ w.cueTable i, e.reel = k → (f : Int) < e.tout) ∧
      ∃ list, TableFrom { w with cues := { w.cues with overlay := some list } } (frameStart k f s) := by
  obtain ⟨hopen, hgone⟩ := openPart_table k f row s
  refine ⟨(openPart k f row s).1, hopen, hgone, (openPart k f row s).2, ?_⟩
  rw [frameStart_eq f hrow]
  exact closedFrames_table k f row _ _ fours _

/-- The Cue Engine behind a frame start (R110, R117). -/
theorem frameStart_cues {k f : Nat} {s : State} {row : ReelRow} (hrow : s.row k = some row) :
    (frameStart k f s).cues.inView = some k ∧ (f = row.start → k ∈ (frameStart k f s).cues.begun) ∧
    (frameStart k f s).cues.ended = s.cues.ended ∧ (frameStart k f s).cues.overlay ≠ none ∧
    ∀ i, ∀ e ∈ (frameStart k f s).cueTable i, e.reel = k → (f : Int) < e.tout := by
  obtain ⟨w, hview, htables, list, hrest⟩ := frameStart_facts f hrow
  rw [hrest.cues_eq]
  dsimp only
  rw [hview.cues_eq]
  refine ⟨rfl, fun hf => startView_begun hf s, rfl, nofun, fun i e he hk => ?_⟩
  obtain ⟨x, hx, hreel, htout⟩ := hrest.kept i e he
  have hnot := htables i x hx (hreel.trans hk)
  rwa [htout] at hnot

/-- A frame start leaves the count of repeated pictures, and the events that are not the Cue Engine's. -/
theorem frameStart_quiet (k f : Nat) (s : State) : (frameStart k f s).counters.repeats = s.counters.repeats ∧
    ∀ j, j ≠ .cueOverflow → j ≠ .captionOverflow → j ≠ .regionConflict → j ≠ .actionOverflow →
      (frameStart k f s).event j = s.event j := by
  cases hrow : s.row k with
  | none =>
    have h : frameStart k f s = s := by rw [frameStart, hrow]
    rw [h]
    exact ⟨rfl, fun _ _ _ _ _ => rfl⟩
  | some row =>
    obtain ⟨w, hview, -, list, hrest⟩ := frameStart_facts f hrow
    exact ⟨hrest.repeats_eq.trans hview.repeats_eq,
      fun j h1 h2 h3 h4 => (hrest.events j h1 h2 h3 h4).trans (hview.events j h1 h2 h3 h4)⟩

end Sys2Proof.Machine

/-! PROOF. Six cues a frame, and the caption messages of a CLOSED lane (R118, R119, R123). -/

namespace Sys2Proof.Machine

/-! ## The cues that a frame shows -/

theorem regionChoice_mem : ∀ (cues : List CueEntry) (b : Option CueEntry) {e : CueEntry},
    cues.foldl (fun best e =>
      match best with
      | none => some e
      | some b => if b.tin < e.tin ∨ (b.tin = e.tin ∧ b.number < e.number) then some e else some b) b = some e →
    e ∈ cues ∨ b = some e
  | [], _, _, h => .inr h
  | c :: cues, b, e, h => by
    rw [List.foldl_cons] at h
    obtain hmem | hb := regionChoice_mem cues _ h
    · exact .inl (List.mem_cons_of_mem _ hmem)
    · cases b with
      | none =>
        cases hb
        exact .inl (List.mem_cons_self ..)
      | some b =>
        dsimp only at hb
        split at hb
        · cases hb
          exact .inl (List.mem_cons_self ..)
        · exact .inr hb

/-- A cue chosen for a region is one of the lane's, in that region (R118). -/
theorem regionChoice_filter {cues : List CueEntry} {r : Nat} {e : CueEntry}
    (h : regionChoice (cues.filter (fun e => decide (e.region = r))) = some e) : e ∈ cues ∧ e.region = r := by
  obtain hmem | hb := regionChoice_mem _ none h
  · obtain ⟨hmem, hregion⟩ := List.mem_filter.mp hmem
    exact ⟨hmem, by simpa using hregion⟩
  · cases hb

/-- Where a map repeats no value, one value belongs to one member. -/
theorem eq_of_nodup_map {α β : Type} {f : α → β} : ∀ {l : List α}, (l.map f).Nodup → ∀ {x y : α}, x ∈ l → y ∈ l →
    f x = f y → x = y
  | [], _, _, _, hx, _, _ => by cases hx
  | a :: as, h, x, y, hx, hy, hxy => by
    obtain ⟨hfresh, hrest⟩ := List.nodup_cons.mp h
    obtain hxa | hxas := List.mem_cons.mp hx <;> obtain hya | hyas := List.mem_cons.mp hy
    · exact hxa.trans hya.symm
    · exact absurd (List.mem_map.mpr ⟨y, hyas, by rw [← hxy, hxa]⟩) hfresh
    · exact absurd (List.mem_map.mpr ⟨x, hxas, by rw [hxy, hya]⟩) hfresh
    · exact eq_of_nodup_map hrest hxas hyas hxy

theorem chosenCues_subset (cues : List CueEntry) : chosenCues cues ⊆ cues := fun e he => by
  obtain ⟨r, -, hr⟩ := List.mem_filterMap.mp he
  exact (regionChoice_filter hr).1

/-- The chosen cues of a lane have different numbers where its cues have (R118). -/
theorem chosenCues_nodup {cues : List CueEntry} (h : (cues.map CueEntry.number).Nodup) :
    ((chosenCues cues).map CueEntry.number).Nodup := by
  have hdistinct : (chosenCues cues).Nodup := by
    refine List.Pairwise.filterMap _ (fun r r' hne e hr e' hr' he => hne ?_) List.nodup_range
    subst he
    exact (regionChoice_filter hr).2.symm.trans (regionChoice_filter hr').2
  refine List.pairwise_map.mpr (hdistinct.imp_of_mem fun {x y} hx hy hne hxy => hne ?_)
  exact eq_of_nodup_map h (chosenCues_subset cues hx) (chosenCues_subset cues hy) hxy

theorem hasNumber_iff (cues : List CueEntry) (n : Nat) : hasNumber cues n = true ↔ n ∈ cues.map CueEntry.number := by
  simp [hasNumber]

/-- A frame shows six cues of an OPEN lane at most (R119). -/
theorem openFrame_entries {i : Fin 4} {k f ticks : Nat} {s : State}
    (h : (((s.cueTable i).filter (fun e => decide (e.reel = k))).map CueEntry.number).Nodup) : (openFrame i k f ticks s).2.length ≤ 6 := by
  have hable : (((s.cueTable i).filter (eligible k f)).map CueEntry.number).Nodup := by
    refine h.sublist (List.Sublist.map _ ?_)
    have hsub : (s.cueTable i).filter (eligible k f) =
        ((s.cueTable i).filter (fun e => decide (e.reel = k))).filter (eligible k f) := by
      rw [List.filter_filter]
      refine List.filter_congr fun e _ => ?_
      by_cases hk : e.reel = k <;> simp [eligible, hk]
    rw [hsub]
    exact List.filter_sublist
  have hchosen := chosenCues_nodup hable
  unfold openFrame
  dsimp only
  rw [List.length_map]
  let shown := (rankedCues ((s.cueTable i).filter (eligible k f))).take 6
  have hshown : shown = (rankedCues ((s.cueTable i).filter (eligible k f))).take 6 := rfl
  rw [← hshown]
  have hnodup : (((chosenCues ((s.cueTable i).filter (eligible k f))).filter (fun e => hasNumber shown e.number)).map
      CueEntry.number).Nodup := hchosen.sublist (List.Sublist.map _ List.filter_sublist)
  have hsub : ((chosenCues ((s.cueTable i).filter (eligible k f))).filter (fun e => hasNumber shown e.number)).map CueEntry.number ⊆
      shown.map CueEntry.number := fun n hn => by
    obtain ⟨e, he, rfl⟩ := List.mem_map.mp hn
    exact (hasNumber_iff shown e.number).mp (List.mem_filter.mp he).2
  have hlen := hnodup.length_le_of_subset hsub
  rw [List.length_map, List.length_map] at hlen
  exact Nat.le_trans hlen (List.length_take_le 6 _)

/-! ## The messages of a CLOSED lane -/

theorem CueEngine.offers_append (c : CueEngine) (ms ms' : List CaptionMsg) : c.offers (ms ++ ms') = (c.offers ms).offers ms' :=
  List.foldl_append

theorem CueEngine.offers_length : ∀ (ms : List CaptionMsg) (c : CueEngine), (c.offers ms).queue.length ≤ c.queue.length + ms.length
  | [], c => Nat.le_refl _
  | m :: ms, c => by
    have hrest := CueEngine.offers_length ms (c.offer m).1
    have hone : (c.offer m).1.queue.length ≤ c.queue.length + 1 := by
      by_cases hroom : c.queue.length < 32
      · exact (CueEngine.offer_of_room m hroom).2
      · have hfull : c.offer m = (c, false) := if_pos (Nat.not_lt.mp hroom)
        rw [hfull]
        exact Nat.le_succ _
    rw [List.length_cons]
    exact Nat.le_trans hrest (by omega)

/-- Messages offered to the line leave the tables (R124). -/
theorem CueEngine.offers_tables : ∀ (ms : List CaptionMsg) (c : CueEngine), (c.offers ms).tables = c.tables
  | [], _ => rfl
  | m :: ms, c => by
    have hone : (c.offer m).1.tables = c.tables := by
      unfold CueEngine.offer
      split
      · rfl
      split <;> rfl
    exact (CueEngine.offers_tables ms (c.offer m).1).trans hone

/-- SHOWs that find room go to the line and are counted (R123). -/
theorem foldl_offerShow (i : Fin 4) : ∀ (cues : List CueEntry) (s : State), s.cues.queue.length + cues.length ≤ 32 →
    ∃ n, cues.foldl (offerShow i) s = { s with
        cues := s.cues.offers (cues.map (fun e => .showCue i e.number e.text)), counters := { s.counters with cuesShown := n } } ∧
      (s.counters.cuesShown + cues.length ≤ 4294967295 → n = s.counters.cuesShown + cues.length)
  | [], s, _ => ⟨s.counters.cuesShown, rfl, fun _ => rfl⟩
  | e :: cues, s, h => by
    rw [List.length_cons] at h
    have hlen := (CueEngine.offer_of_room (c := s.cues) (.showCue i e.number e.text) (by omega)).2
    have hstep : offerShow i s e = { s with
        cues := (s.cues.offer (.showCue i e.number e.text)).1,
        counters := { s.counters with cuesShown := bump32 1 s.counters.cuesShown } } := by
      unfold offerShow
      rw [offerCaption_of_room (by omega)]
      rfl
    obtain ⟨n, hrest, hn⟩ := foldl_offerShow i cues { s with
        cues := (s.cues.offer (.showCue i e.number e.text)).1,
        counters := { s.counters with cuesShown := bump32 1 s.counters.cuesShown } } (by simp only; omega)
    refine ⟨n, ?_, fun hcount => ?_⟩
    · rw [List.foldl_cons, hstep, hrest]
      rfl
    · rw [List.length_cons] at hcount ⊢
      have hbump : bump32 1 s.counters.cuesShown = s.counters.cuesShown + 1 := by rw [bump32_eq]; omega
      rw [hn (by simp only [hbump]; omega)]
      simp only [hbump]
      omega

end Sys2Proof.Machine

/-! PROOF. The tests of a converted cue and of a record, the caption messages of a frame, and the obligation on the Cue Engine (R111 to R124). -/

namespace Sys2Proof.Machine

/-! ## The caption messages of a CLOSED lane's frame -/

/-- The messages of a CLOSED lane's frame: TRACK on the first, a CLEAR for each cue that left, a SHOW for each one announced (R123). -/
def frameMessages (i : Fin 4) (first : Bool) (t : TextTrack) (left shows : List CueEntry) : List CaptionMsg :=
  (if first then [.track i t.language] else []) ++
    (left.filter (fun e => !e.opened && e.attempted)).map (fun e => .clear i e.number) ++
    shows.map (fun e => .showCue i e.number e.text)

/-- A cue announced on a frame has been attempted. -/
def attemptedOn (k f lead : Nat) (e : CueEntry) : CueEntry := if announced k f lead e then { e with attempted := true } else e

/-- A CLOSED lane's frame whose messages find room (R123). -/
theorem closedFrame_of_room {i : Fin 4} {k f : Nat} {first : Bool} {t : TextTrack} {left : List CueEntry} {s : State}
    (hroom : s.cues.queue.length +
      (frameMessages i first t left ((s.cueTable i).filter (announced k f s.mgmt.limits.captionLead))).length ≤ 32) :
    ∃ n, closedFrame i k f first t left s = ({ s with
        cues := s.cues.offers (frameMessages i first t left ((s.cueTable i).filter (announced k f s.mgmt.limits.captionLead))),
        counters := { s.counters with cuesShown := n } }).setCueTable i
          ((s.cueTable i).map (attemptedOn k f s.mgmt.limits.captionLead)) ∧
      (s.counters.cuesShown + ((s.cueTable i).filter (announced k f s.mgmt.limits.captionLead)).length ≤ 4294967295 →
        n = s.counters.cuesShown + ((s.cueTable i).filter (announced k f s.mgmt.limits.captionLead)).length) := by
  let shows := (s.cueTable i).filter (announced k f s.mgmt.limits.captionLead)
  have hshows : shows = (s.cueTable i).filter (announced k f s.mgmt.limits.captionLead) := rfl
  rw [← hshows] at hroom ⊢
  let track : List CaptionMsg := if first then [.track i t.language] else []
  have htrack : track = if first then [.track i t.language] else [] := rfl
  let clears : List CaptionMsg := (left.filter (fun e => !e.opened && e.attempted)).map (fun e => .clear i e.number)
  have hclears : clears = (left.filter (fun e => !e.opened && e.attempted)).map (fun e => .clear i e.number) := rfl
  have hms : frameMessages i first t left shows = track ++ clears ++ shows.map (fun e => .showCue i e.number e.text) := rfl
  have hlen := congrArg List.length hms
  simp only [List.length_append, List.length_map] at hlen
  have h1 : (if first then queueCaption (.track i t.language) s else s) = { s with cues := s.cues.offers track } := by
    cases first
    · rfl
    · exact foldl_queueCaption [.track i t.language] s (by simp only [htrack, if_true, List.length_cons, List.length_nil] at hlen ⊢; omega)
  have hq1 := CueEngine.offers_length track s.cues
  have h2 : queueClears i left { s with cues := s.cues.offers track } = { s with cues := s.cues.offers (track ++ clears) } := by
    rw [CueEngine.offers_append, queueClears, ← foldl_queueCaption clears { s with cues := s.cues.offers track } (by dsimp only; omega),
      hclears, List.foldl_map]
  have hq2 := CueEngine.offers_length (track ++ clears) s.cues
  rw [List.length_append] at hq2
  have htable : ∀ ms : List CaptionMsg, State.cueTable { s with cues := s.cues.offers ms } i = s.cueTable i := fun ms => by
    simp only [State.cueTable, CueEngine.offers_tables]
  obtain ⟨n, h3, hn⟩ := foldl_offerShow i shows { s with cues := s.cues.offers (track ++ clears) } (by dsimp only; omega)
  refine ⟨n, ?_, hn⟩
  unfold closedFrame
  dsimp only
  rw [h1, h2, htable, ← hshows, h3, hms, CueEngine.offers_append s.cues (track ++ clears)]
  simp only [State.cueTable, CueEngine.offers_tables]
  rfl

/-! ## The tests of a cue -/

section

variable {i : Fin 4} {e : CueEntry} {s : State}

/-- Another cue of its reel has the number (R114). -/
theorem acceptCue_of_held (h : s.cueHeld i e = true) :
    acceptCue i e s = { s with counters := { s.counters with duplicateCue := min 4294967295 (s.counters.duplicateCue + 1) } } := by
  rw [acceptCue_eq, if_pos h]
  rfl

/-- A late cue whose end has passed (R115). -/
theorem acceptCue_of_passed (h : ¬ s.cueHeld i e = true) (hlate : s.cueLate e = true) (hpassed : e.tout ≤ s.timeline.p) :
    acceptCue i e s = dropLate s := by
  rw [acceptCue_eq, if_neg h, if_pos ⟨hlate, hpassed⟩]

/-- A cue whose table or text store has no room (R114). -/
theorem acceptCue_of_full (h : ¬ s.cueHeld i e = true) (hpassed : ¬ (s.cueLate e = true ∧ e.tout ≤ s.timeline.p))
    (hfull : 384 ≤ (s.cueTable i).length ∨ 65536 < textInUse (s.cueTable i) + e.text.length) :
    acceptCue i e s = occur .cueOverflow (s.count (fun k => { k with overflow := bump32 1 k.overflow })) := by
  rw [acceptCue_eq, if_neg h, if_neg hpassed, if_pos hfull]

/-- A cue that passes the tests takes its place, with CUE_LATE where it is late (R114, R115). -/
theorem acceptCue_of_room (h : ¬ s.cueHeld i e = true) (hpassed : ¬ (s.cueLate e = true ∧ e.tout ≤ s.timeline.p))
    (hroom : ¬ (384 ≤ (s.cueTable i).length ∨ 65536 < textInUse (s.cueTable i) + e.text.length)) :
    acceptCue i e s = if s.cueLate e then occur .cueLate (s.cuePlaced i e) else s.cuePlaced i e := by
  rw [acceptCue_eq, if_neg h, if_neg hpassed, if_neg hroom]

/-- What a cue in its place leaves (R114, R115). -/
theorem acceptCue_placed (h : ¬ s.cueHeld i e = true) (hpassed : ¬ (s.cueLate e = true ∧ e.tout ≤ s.timeline.p))
    (hroom : ¬ (384 ≤ (s.cueTable i).length ∨ 65536 < textInUse (s.cueTable i) + e.text.length)) :
    (acceptCue i e s).cues = (s.cuePlaced i e).cues ∧
    (s.cueLate e = true → ((acceptCue i e s).event .cueLate).count = min 65535 ((s.event .cueLate).count + 1)) ∧
    (¬ s.cueLate e = true → (acceptCue i e s).events = s.events ∧ (acceptCue i e s).link = s.link) ∧
    reportsFrom (s.cuePlaced i e) (acceptCue i e s) := by
  rw [acceptCue_of_room h hpassed hroom]
  split
  next hlate => exact ⟨(occur_reports _ _).cues_eq, fun _ => occur_count _ (by decide), fun hnot => absurd hlate hnot, occur_reports _ _⟩
  next hlate => exact ⟨rfl, fun hl => absurd hl hlate, fun _ => ⟨rfl, rfl⟩, reportsFrom_refl _⟩

end

/-! ## The obligation -/

/-- Settles O56, by the tests of a record and of a cue one by one, and the parts of a frame. -/
theorem cueTablesBounded : Obligations.CueTablesBounded := by
  unfold Obligations.CueTablesBounded
  refine ⟨fun i j e s => acceptCue_bounded, fun i e s => ?_, cueBefore_iff, fun i k row track c s => ?_,
    fun i u row track n bs s => ⟨fun h => ?_, fun h hrow ht hb => ?_, rfl, fun hb => ?_, fun c rest hb => ?_⟩,
    fun i k f ticks s h => openFrame_entries h, fun k f row s hrow => frameStart_cues hrow,
    fun i k f first t left s => ?_⟩
  · dsimp only
    rw [← cueHeld_iff, ← cueLate_iff]
    refine ⟨acceptCue_of_held, fun hheld hpassed => ?_, fun hheld hpassed hfull => ?_, fun hheld hpassed hroom => ?_⟩
    · rw [acceptCue_of_passed hheld hpassed.1 hpassed.2]
      exact dropLate_facts s
    · rw [acceptCue_of_full hheld hpassed hfull]
      exact ⟨occur_count _ (by decide), occur_reports _ _⟩
    · obtain ⟨hcues, hlate, hnot, hreports⟩ := acceptCue_placed hheld hpassed hroom
      obtain ⟨before, after, htable, hinsert, hbefore, hafter⟩ := insertBy_split cueBefore e (s.cueTable i)
      refine ⟨before, after, htable, ?_, hbefore, hafter, fun j hj => ?_, hlate, hnot, ?_⟩
      · rw [cueTable_congr hcues, cuePlaced_table, if_pos rfl, hinsert]
      · rw [cueTable_congr hcues, cuePlaced_table, if_neg hj]
      · rw [hcues]
        exact hreports
  · dsimp only
    have hconv := convertCue_eq k row track c
    have hin := congrArg CueEntry.tin hconv
    have hout := congrArg CueEntry.tout hconv
    rw [readCue_eq]
    rw [← hconv, hin, hout]
    refine ⟨fun h => if_pos h, fun h h' => ?_, fun h h' ho => ?_, fun h h' ho he => ?_, fun h h' ho he => ?_⟩
    · rw [if_neg h, if_pos h']
      rfl
    · rw [if_neg h, if_neg (by omega), if_pos ho]
      rfl
    · rw [if_neg h, if_neg (by omega), if_neg ho, if_pos (by simpa using he)]
      exact dropLate_facts s
    · rw [if_neg h, if_neg (by omega), if_neg ho, if_neg (by simpa using he)]
  · rw [takeCueBlock, if_pos h]
    rfl
  · rw [takeCueBlock, h, hrow]
    dsimp only
    rw [ht, hb]
    rfl
  · rw [readCues, hb]
    rfl
  · rw [readCues, hb]
  · intro due shows ms u hroom hidle
    obtain ⟨n, hframe, hn⟩ := closedFrame_of_room (i := i) (k := k) (f := f) (first := first) (t := t) (left := left) (s := s) hroom
    obtain ⟨hline, -⟩ := CueEngine.offers_of_room ms s.cues hroom hidle
    have hu : u = _ := hframe
    rw [hu]
    refine ⟨hline, ?_, hn, rfl, rfl⟩
    rw [cueTable_setCueTable, if_pos rfl]
    rfl

end Sys2Proof.Machine

/-! PROOF. The picture decided at a release instant: the units of the picture lanes, the release that goes out or is missing, and the pace
values that follow (R75 to R79, R45). -/

namespace Sys2Proof.Machine

/-! ## What keeps a lane's hold and tags -/

/-- The wanted reels, and each lane's lead and HELD mark, are kept. -/
structure HoldsKept (s t : State) : Prop where
  keys : t.wanted.map Wanted.key = s.wanted.map Wanted.key
  held : ∀ a, (t.hold a).held = (s.hold a).held
  lead : ∀ a, (t.hold a).lead = (s.hold a).lead

theorem holdsKept_refl (s : State) : HoldsKept s s := ⟨rfl, fun _ => rfl, fun _ => rfl⟩

theorem holdsKept_trans {s t u : State} (h : HoldsKept s t) (h' : HoldsKept t u) : HoldsKept s u :=
  ⟨h'.keys.trans h.keys, fun a => (h'.held a).trans (h.held a), fun a => (h'.lead a).trans (h.lead a)⟩

theorem holdsKept_ite {s t u : State} {p : Prop} [Decidable p] (h : HoldsKept s t) (h' : HoldsKept s u) :
    HoldsKept s (if p then t else u) := by
  split <;> assumption

theorem holdsKept_foldl {α : Type} {f : State → α → State} (h : ∀ s a, HoldsKept s (f s a)) :
    ∀ (l : List α) (s : State), HoldsKept s (l.foldl f s)
  | [], s => holdsKept_refl s
  | a :: l, s => holdsKept_trans (h s a) (holdsKept_foldl h l (f s a))

theorem holdsKept_of_holds {s t : State} (hkeys : t.wanted.map Wanted.key = s.wanted.map Wanted.key) (h : t.holds = s.holds) :
    HoldsKept s t :=
  ⟨hkeys, fun a => by rw [hold_congr h], fun a => by rw [hold_congr h]⟩

theorem holdsKept_of_eq {s t : State} (hw : t.wanted = s.wanted) (h : t.holds = s.holds) : HoldsKept s t :=
  holdsKept_of_holds (by rw [hw]) h

/-- The tags of a lane's HOLDs are those of the wanted reels (R43). -/
theorem HoldsKept.tags {s t : State} (h : HoldsKept s t) (a : AvLane) : t.holdTags a = s.holdTags a := by
  have htags : ∀ w : List Wanted, w.filterMap (fun w => w.reel.tagOn a) = (w.map Wanted.key).filterMap (fun x => x.2.2.tagOn a) := fun w => by
    rw [List.filterMap_map]
    rfl
  unfold State.holdTags
  rw [htags, htags, h.keys]

theorem paceOutcome_holdsKept (l : AvLane) (b : Bool) (s : State) : HoldsKept s (paceOutcome l b s) := by
  have hpace : ∀ a, (paceOutcome l b s).hold a =
      if a = l then { s.hold l with pace := if b then 31 else (s.hold l).pace - 1 } else s.hold a := fun a => hold_setHold s l a _
  refine ⟨rfl, fun a => ?_, fun a => ?_⟩ <;> rw [hpace] <;> split <;> next h => simp [h]

theorem unitDue_wanted (l : Lane) (k u : Nat) (s : State) : (unitDue l k u s).2.wanted = s.wanted := by
  have hstale : (dropStaleHeads l k u s).wanted = s.wanted := (returnBlocks_reports _ _).wanted_eq
  rw [unitDue_eq]
  split
  · split
    · exact (returnBlocks_reports _ _).wanted_eq.trans hstale
    · exact hstale
  · exact hstale

theorem deadline_keys (l : Lane) (k u : Nat) (s : State) : (deadline l k u s).wanted.map Wanted.key = s.wanted.map Wanted.key := by
  cases hb : s.base k l with
  | none => rw [deadline_of_no_base hb]
  | some b =>
    by_cases hu : u < b
    · rw [deadline_of_passed hb hu]
    · have hslots : (emptySlots l (passedSlot k b u) noteDiscarded s).wanted = s.wanted := (emptySlots_reports l _ _ s).wanted_eq
      rw [deadline_of_base hb (Nat.not_lt.mp hu), joinLane_keys, passDeadline, editWanted_wanted, hslots, List.map_map]
      refine List.map_congr_left fun w _ => ?_
      rw [Function.comp_apply]
      split <;> rfl

theorem deadline_holdsKept {l : Lane} (hl : ∀ i, l ≠ .txt i) (k u : Nat) (s : State) : HoldsKept s (deadline l k u s) := by
  obtain ⟨hholds, -⟩ := (deadline_stock hl k u s).fields
  exact holdsKept_of_holds (deadline_keys l k u s) hholds

theorem unitDue_holdsKept (l : Lane) (k u : Nat) (s : State) : HoldsKept s (unitDue l k u s).2 := by
  obtain ⟨hholds, -⟩ := (unitDue_stock l k u s).fields
  exact holdsKept_of_eq (unitDue_wanted l k u s) hholds

/-! ## The units of the picture lanes -/

section

variable (k u : Nat) (s : State)

theorem pictureDue_stock (i : Fin 2) : StockFrom s (pictureDue i k u s).2 :=
  stockFrom_trans (deadline_stock (avToLane_not_text (.pic i)) k u s) (unitDue_stock _ k u _)

theorem pictureDue_holdsKept (i : Fin 2) : HoldsKept s (pictureDue i k u s).2 :=
  holdsKept_trans (deadline_holdsKept (avToLane_not_text (.pic i)) k u s) (unitDue_holdsKept _ k u _)

/-- The unit handed over for the left, or only, eye. -/
def leftUnit : Option UnitRec := (pictureDue 0 k u s).1

/-- The unit handed over for the right eye, asked for after the left. -/
def rightUnit : Option UnitRec := (pictureDue 1 k u (pictureDue 0 k u s).2).1

/-- The state behind the answers of a reel's picture lanes. -/
def picturesAsked (stereo : Bool) : State :=
  if stereo then (pictureDue 1 k u (pictureDue 0 k u s).2).2 else (pictureDue 0 k u s).2

theorem picturesAsked_stock (stereo : Bool) : StockFrom s (picturesAsked k u s stereo) := by
  have hleft := pictureDue_stock k u s 0
  unfold picturesAsked
  split
  · exact stockFrom_trans hleft (pictureDue_stock k u _ 1)
  · exact hleft

theorem picturesAsked_holdsKept (stereo : Bool) : HoldsKept s (picturesAsked k u s stereo) := by
  have hleft := pictureDue_holdsKept k u s 0
  unfold picturesAsked
  split
  · exact holdsKept_trans hleft (pictureDue_holdsKept k u _ 1)
  · exact hleft

theorem passes_congr {t : State} (h : t.mgmt = s.mgmt) (q : Option UnitRec) : t.passes q = s.passes q := by
  cases q <;> simp [State.passes, h]

/-- The picture goes out: each picture lane of the reel hands over a unit that the policy lets pass (R76 to R78). -/
def State.goesOut (stereo : Bool) : Bool := s.passes (leftUnit k u s) && (!stereo || s.passes (rightUnit k u s))

theorem goesOut_iff (stereo : Bool) : s.goesOut k u stereo = true ↔
    s.passes (leftUnit k u s) = true ∧ (stereo = true → s.passes (rightUnit k u s) = true) := by
  cases stereo <;> simp [State.goesOut]

theorem not_goesOut_iff (stereo : Bool) : s.goesOut k u stereo = false ↔
    s.passes (leftUnit k u s) = false ∨ stereo = true ∧ s.passes (rightUnit k u s) = false := by
  cases stereo <;> simp [State.goesOut]
  cases s.passes (leftUnit k u s) <;> simp

end

/-! ## The release -/

/-- The release goes out: the clean run grows and PICTURE_REPEAT may end (R79). -/
theorem goodRelease_facts (s : State) :
    reportsFrom { s with timeline := { s.timeline with cleanRun := min 96 (s.timeline.cleanRun + 1), missing := 0 } } (goodRelease s) ∧
    ∀ j, j ≠ .pictureRepeat → j ≠ .actionOverflow → (goodRelease s).event j = s.event j := by
  unfold goodRelease
  dsimp only
  split
  · exact ⟨deassertEvent_reports _ _, fun _ hj ho => event_deassertEvent_of_ne _ hj ho⟩
  · exact ⟨reportsFrom_refl _, fun _ _ _ => rfl⟩

/-- The release is missing: it is counted, and PICTURE_REPEAT is asserted (R79). -/
theorem missRelease_facts (s : State) :
    reportsFrom { s with
      timeline := { s.timeline with
        repeated := min 4294967295 (s.timeline.repeated + 1), cleanRun := 0, missing := min 12 (s.timeline.missing + 1) },
      counters := { s.counters with repeats := min 4294967295 (s.counters.repeats + 1) } } (missRelease s) ∧
    ∀ j, j ≠ .pictureRepeat → j ≠ .actionOverflow → (missRelease s).event j = s.event j :=
  ⟨assertEvent_reports _ _, fun _ hj ho => event_assertEvent_of_ne _ hj ho⟩

/-- `t` is `u` but for wanted set, slots, buffer, pace values, the runs of releases, the last released picture and what is shown, the
counts of units and of repeats, and what reaches the Event Table, where three level events alone may change. -/
structure PictureFrom (u t : State) : Prop where
  frame : t = { u with
    wanted := t.wanted, slots := t.slots, buffer := t.buffer, holds := t.holds, events := t.events,
    timeline := { u.timeline with missing := t.timeline.missing, cleanRun := t.timeline.cleanRun, repeated := t.timeline.repeated },
    picture := { u.picture with last := t.picture.last, shown := t.picture.shown },
    counters := { u.counters with
      assembled := t.counters.assembled, discarded := t.counters.discarded, abandoned := t.counters.abandoned,
      actionsDropped := t.counters.actionsDropped, repeats := t.counters.repeats },
    actions := { u.actions with queue := t.actions.queue, line := t.actions.line, timer := t.actions.timer },
    link := { u.link with queue := t.link.queue } }
  events : ∀ k, k ≠ .bufferFull → k ≠ .pictureRepeat → k ≠ .actionOverflow → t.event k = u.event k

theorem pictureFrom_trans {s t u : State} (h : PictureFrom s t) (h' : PictureFrom t u) : PictureFrom s u := by
  refine ⟨?_, fun k hk hp ho => (h'.events k hk hp ho).trans (h.events k hk hp ho)⟩
  have hframe := h.frame
  have hframe' := h'.frame
  rw [hframe'] at *
  rw [hframe]

theorem pictureFrom_of_stock {s t : State} (h : StockFrom s t) : PictureFrom s t := by
  refine ⟨?_, fun k hk _ ho => h.events k hk ho⟩
  rw [h.frame]

theorem goodRelease_from (s : State) : PictureFrom s (goodRelease s) := by
  obtain ⟨hfrom, hevents⟩ := goodRelease_facts s
  refine ⟨?_, fun k _ hp ho => hevents k hp ho⟩
  unfold reportsFrom at hfrom
  rw [hfrom]

theorem missRelease_from (s : State) : PictureFrom s (missRelease s) := by
  obtain ⟨hfrom, hevents⟩ := missRelease_facts s
  refine ⟨?_, fun k _ hp ho => hevents k hp ho⟩
  unfold reportsFrom at hfrom
  rw [hfrom]

/-- The pace values that a reel's picture lanes take (R45). -/
def pacedPictures (left right stereo : Bool) (s : State) : State :=
  if stereo then paceOutcome (.pic 1) (!right) (paceOutcome (.pic 0) (!left) s) else paceOutcome (.pic 0) (!left) s

theorem pacedPictures_from (left right stereo : Bool) (s : State) : PictureFrom s (pacedPictures left right stereo s) := by
  unfold pacedPictures
  split <;> exact ⟨rfl, fun _ _ _ _ => rfl⟩

theorem pacedPictures_holdsKept (left right stereo : Bool) (s : State) : HoldsKept s (pacedPictures left right stereo s) :=
  holdsKept_ite (holdsKept_trans (paceOutcome_holdsKept _ _ s) (paceOutcome_holdsKept _ _ _)) (paceOutcome_holdsKept _ _ s)

theorem pacedPictures_pace (left right stereo : Bool) (s : State) :
    ((pacedPictures left right stereo s).hold (.pic 0)).pace = (if left then (s.hold (.pic 0)).pace - 1 else 31) ∧
    ((pacedPictures left right stereo s).hold (.pic 1)).pace =
      (if stereo then (if right then (s.hold (.pic 1)).pace - 1 else 31) else (s.hold (.pic 1)).pace) := by
  cases stereo <;> cases left <;> cases right <;> simp [pacedPictures, paceOutcome, hold_setHold]

/-- The picture handed over becomes the last released one (R76). -/
def putPicture (k u : Nat) (q : UnitRec) (right : Option UnitRec) (s : State) : State :=
  s.mapPicture (fun p => { p with last := some { reel := k, unit := u, left := q.content, right := right.map UnitRec.content } })

/-- The last released picture is shown. -/
def showLast (s : State) : State := s.mapPicture (fun p => { p with shown := p.last })

section

variable {k u : Nat} {s : State} {stereo : Bool}

theorem decidePicture_of_out (h : s.goesOut k u stereo = true) {q : UnitRec} (hq : leftUnit k u s = some q) :
    decidePicture k u stereo s = (false, pacedPictures true (s.passes (rightUnit k u s)) stereo
      (showLast (goodRelease (putPicture k u q (if stereo then rightUnit k u s else none) (picturesAsked k u s stereo))))) := by
  obtain ⟨hleft, hright⟩ := (goesOut_iff k u s stereo).mp h
  have hpasses : ∀ q, (picturesAsked k u s stereo).passes q = s.passes q := by
    obtain ⟨-, -, -, -, -, -, -, -, -, -, -, -, hm, -⟩ := (contentFrom_of_stock (picturesAsked_stock k u s stereo)).fields
    exact passes_congr s hm
  rw [hq] at hleft
  unfold leftUnit at hq
  unfold decidePicture
  cases stereo with
  | false =>
    unfold picturesAsked at hpasses ⊢
    dsimp only at hpasses ⊢
    simp only [Bool.false_eq_true, if_false] at hpasses ⊢
    simp only [hpasses, hq, hleft, Bool.not_false, Bool.true_or, Bool.and_self]
    rfl
  | true =>
    have hr := hright rfl
    unfold rightUnit at hr ⊢
    unfold picturesAsked at hpasses ⊢
    simp only [if_true] at hpasses ⊢
    simp only [hpasses, hq, hleft, hr, Bool.not_true, Bool.false_or, Bool.and_self]
    rfl

theorem decidePicture_of_missing (h : s.goesOut k u stereo = false) :
    decidePicture k u stereo s = (true, pacedPictures (s.passes (leftUnit k u s)) (s.passes (rightUnit k u s)) stereo
      (showLast (missRelease (picturesAsked k u s stereo)))) := by
  have hpasses : ∀ q, (picturesAsked k u s stereo).passes q = s.passes q := by
    obtain ⟨-, -, -, -, -, -, -, -, -, -, -, -, hm, -⟩ := (contentFrom_of_stock (picturesAsked_stock k u s stereo)).fields
    exact passes_congr s hm
  unfold State.goesOut at h
  unfold leftUnit rightUnit at h ⊢
  unfold decidePicture
  cases stereo with
  | false =>
    unfold picturesAsked at hpasses ⊢
    simp only [Bool.false_eq_true, if_false, Bool.not_false, Bool.true_or, Bool.and_true] at h hpasses ⊢
    simp only [hpasses, h]
    rfl
  | true =>
    unfold picturesAsked at hpasses ⊢
    simp only [if_true] at hpasses ⊢
    simp only [hpasses, h]
    rfl

end

end Sys2Proof.Machine

/-! PROOF. The release instant of a picture unit, part by part: the decision, the frame of the Cue Engine, marks and POSITION entries, the
charge, the cursor, and the lanes (R75 to R79, R92, R110, R106, R152, R133, R108). -/

namespace Sys2Proof.Machine

section

variable (k u : Nat) (row : ReelRow) (s : State)

/-! ## The decision -/

/-- The picture decided at an instant, whether or not it goes out (R76 to R79, R45). -/
theorem decidePicture_cases (stereo : Bool) : ∃ r : State,
    decidePicture k u stereo s = (!s.goesOut k u stereo,
      pacedPictures (s.passes (leftUnit k u s)) (s.passes (rightUnit k u s)) stereo (showLast r)) ∧
    PictureFrom s r ∧ r.holds = s.holds ∧ HoldsKept s r ∧
    (s.goesOut k u stereo = true → ∀ q, leftUnit k u s = some q →
      r.picture.last = some {
        reel := k, unit := u, left := q.content,
        right := if stereo then (rightUnit k u s).map UnitRec.content else none } ∧
      r.timeline.missing = 0 ∧ r.timeline.cleanRun = min 96 (s.timeline.cleanRun + 1) ∧
      r.timeline.repeated = s.timeline.repeated ∧ r.counters.repeats = s.counters.repeats) ∧
    (s.goesOut k u stereo = false →
      r.picture.last = s.picture.last ∧ r.timeline.missing = min 12 (s.timeline.missing + 1) ∧ r.timeline.cleanRun = 0 ∧
      r.timeline.repeated = min 4294967295 (s.timeline.repeated + 1) ∧
      r.counters.repeats = min 4294967295 (s.counters.repeats + 1)) := by
  have hstock := picturesAsked_stock k u s stereo
  have hkept := picturesAsked_holdsKept k u s stereo
  obtain ⟨hholds, -, hrepeats, -⟩ := hstock.fields
  obtain ⟨-, -, -, -, -, -, htl, hpic, -⟩ := (contentFrom_of_stock hstock).fields
  cases hout : s.goesOut k u stereo with
  | true =>
    obtain ⟨hleft, -⟩ := (goesOut_iff k u s stereo).mp hout
    obtain ⟨q, hq⟩ : ∃ q, leftUnit k u s = some q := by
      cases hq : leftUnit k u s with
      | none => rw [hq] at hleft; cases hleft
      | some q => exact ⟨q, rfl⟩
    let v := picturesAsked k u s stereo
    obtain ⟨hgood, hevents⟩ := goodRelease_facts (putPicture k u q (if stereo then rightUnit k u s else none) v)
    have hput : PictureFrom v (putPicture k u q (if stereo then rightUnit k u s else none) v) := ⟨rfl, fun _ _ _ _ => rfl⟩
    refine ⟨goodRelease (putPicture k u q (if stereo then rightUnit k u s else none) v), ?_,
      pictureFrom_trans (pictureFrom_of_stock hstock) (pictureFrom_trans hput (goodRelease_from _)), hgood.holds_eq.trans hholds,
      holdsKept_trans hkept (holdsKept_of_eq hgood.wanted_eq hgood.holds_eq), fun _ q' hq' => ?_, nofun⟩
    · rw [decidePicture_of_out hout hq, hleft]
      rfl
    · rw [hq] at hq'
      cases hq'
      unfold reportsFrom at hgood
      rw [hgood]
      dsimp only [putPicture, State.mapPicture]
      rw [htl, hrepeats]
      refine ⟨?_, rfl, rfl, rfl, rfl⟩
      cases stereo <;> rfl
  | false =>
    let v := picturesAsked k u s stereo
    obtain ⟨hmiss, hevents⟩ := missRelease_facts v
    refine ⟨missRelease v, decidePicture_of_missing hout, pictureFrom_trans (pictureFrom_of_stock hstock) (missRelease_from v),
      hmiss.holds_eq.trans hholds, holdsKept_trans hkept (holdsKept_of_eq hmiss.wanted_eq hmiss.holds_eq), nofun, fun _ => ?_⟩
    unfold reportsFrom at hmiss
    rw [hmiss]
    dsimp only
    rw [htl, hrepeats, hpic]
    exact ⟨rfl, rfl, rfl, rfl, rfl⟩

theorem showLast_from : PictureFrom s (showLast s) := ⟨rfl, fun _ _ _ _ => rfl⟩

theorem decidePicture_from (stereo : Bool) : PictureFrom s (decidePicture k u stereo s).2 := by
  obtain ⟨r, hr, hfrom, -⟩ := decidePicture_cases k u s stereo
  rw [hr]
  exact pictureFrom_trans (pictureFrom_trans hfrom (showLast_from r)) (pacedPictures_from _ _ _ _)

theorem decidePicture_holdsKept (stereo : Bool) : HoldsKept s (decidePicture k u stereo s).2 := by
  obtain ⟨r, hr, -, -, hkept, -⟩ := decidePicture_cases k u s stereo
  rw [hr]
  exact holdsKept_trans (holdsKept_trans hkept (holdsKept_of_eq (t := showLast r) rfl rfl)) (pacedPictures_holdsKept _ _ _ _)

/-! ## The parts of an instant -/

/-- The picture decided, with its frame's cues (R76, R117). -/
def pictureShown : State :=
  let t := frameStart k (row.instant u) (decidePicture k u row.reel.stereo s).2
  t.mapPicture (fun p => { p with overlay := t.cues.overlay })

/-- The mark recorded and the POSITION entries fired (R106, R152). -/
def pictureMarked : State :=
  firePositions (fun t => decide (t ≤ row.instant u)) (markRelease k u (!s.goesOut k u row.reel.stereo) (pictureShown k u row s))

/-- A presented feature unit counted (R92, R133). -/
def pictureCounted : State :=
  if row.reel.isFeature = true ∧ s.goesOut k u row.reel.stereo = true then countFeature (pictureMarked k u row s)
  else pictureMarked k u row s

/-- The cursor and the interval follow, and FRAME with them (R75, R108). -/
def pictureMoved : State :=
  followCursor row.reel ((pictureCounted k u row s).mapTimeline (fun t => { t with
    interval := some { reel := k, unit := u }, cursor := ((pictureCounted k u row s).unitAfter k u).map UnitRef.cursor }))

theorem releaseUnit_eq : releaseUnit k u row s = closeInstant s (pictureMoved k u row s) := by
  obtain ⟨r, hr, -⟩ := decidePicture_cases k u s row.reel.stereo
  have hflag : (decidePicture k u row.reel.stereo s).1 = !s.goesOut k u row.reel.stereo := by rw [hr]
  unfold releaseUnit
  simp only [hflag, Bool.not_eq_false']
  rfl

/-! ## From the decision to the count -/

/-- `t` is `u` but for cues, the overlay of the picture, pair records and their channels, actions, counters, and what reaches the Event
Table, where only the Cue Engine's own events and ACTION_OVERFLOW may change. -/
structure SceneFrom (u t : State) : Prop where
  frame : t = { u with
    cues := t.cues, counters := t.counters, events := t.events, actions := t.actions,
    picture := { u.picture with overlay := t.picture.overlay },
    sync := { u.sync with pairs := t.sync.pairs, light := t.sync.light, echo := t.sync.echo },
    link := { u.link with queue := t.link.queue } }
  events : ∀ k, k ≠ .cueOverflow → k ≠ .captionOverflow → k ≠ .regionConflict → k ≠ .actionOverflow → t.event k = u.event k
  repeats : t.counters.repeats = u.counters.repeats

theorem sceneFrom_trans {s t u : State} (h : SceneFrom s t) (h' : SceneFrom t u) : SceneFrom s u := by
  refine ⟨?_, fun k h1 h2 h3 h4 => (h'.events k h1 h2 h3 h4).trans (h.events k h1 h2 h3 h4), h'.repeats.trans h.repeats⟩
  have hframe := h.frame
  have hframe' := h'.frame
  rw [hframe'] at *
  rw [hframe]

theorem sceneFrom_of_cues {s t : State} (h : cuesFrom s t)
    (hevents : ∀ k, k ≠ .cueOverflow → k ≠ .captionOverflow → k ≠ .regionConflict → k ≠ .actionOverflow → t.event k = s.event k)
    (hrepeats : t.counters.repeats = s.counters.repeats) : SceneFrom s t := by
  refine ⟨?_, hevents, hrepeats⟩
  unfold cuesFrom at h
  rw [h]

theorem markRelease_scene (missing : Bool) (s : State) : SceneFrom s (markRelease k u missing s) := by
  by_cases h : s.marksHere k u
  · rw [markRelease_of_mark h]
    exact ⟨rfl, fun _ _ _ _ _ => rfl, rfl⟩
  · rw [markRelease_of_not_mark h]
    exact ⟨rfl, fun _ _ _ _ _ => rfl, rfl⟩

/-- POSITION entries that fire change the actions, and what their messages reach (R152). -/
theorem firePositions_facts (reached : Nat → Bool) (s : State) :
    reportsFrom { s with actions := { s.actions with
      table := mapVec (fun e => { e with fired := e.fired || e.ready reached }) s.actions.table } } (firePositions reached s) ∧
    ∀ j, j ≠ .actionOverflow → (firePositions reached s).event j = s.event j :=
  ⟨fireMessages_reports _ _, fun _ hj => event_fireMessages _ _ _ hj⟩

theorem firePositions_scene (reached : Nat → Bool) (s : State) : SceneFrom s (firePositions reached s) := by
  obtain ⟨hfrom, hevents⟩ := firePositions_facts reached s
  refine ⟨?_, fun j _ _ _ h4 => hevents j h4, ?_⟩
  · unfold reportsFrom at hfrom
    rw [hfrom]
  · rw [hfrom.counters_eq]

theorem pictureMarked_scene : SceneFrom (decidePicture k u row.reel.stereo s).2 (pictureMarked k u row s) := by
  have hquiet := frameStart_quiet k (row.instant u) (decidePicture k u row.reel.stereo s).2
  have hstart := sceneFrom_of_cues (frameStart_cuesFrom k (row.instant u) (decidePicture k u row.reel.stereo s).2) hquiet.2 hquiet.1
  have hshown : SceneFrom (frameStart k (row.instant u) (decidePicture k u row.reel.stereo s).2) (pictureShown k u row s) :=
    ⟨rfl, fun _ _ _ _ _ => rfl, rfl⟩
  exact sceneFrom_trans (sceneFrom_trans (sceneFrom_trans hstart hshown) (markRelease_scene k u _ _)) (firePositions_scene _ _)

/-- The cues of an instant are those of its frame, and the overlay of the picture is the frame's (R117, R121). -/
theorem pictureMarked_cues : (pictureMarked k u row s).cues = (frameStart k (row.instant u) (decidePicture k u row.reel.stereo s).2).cues ∧
    (pictureMarked k u row s).picture.overlay = (pictureMarked k u row s).cues.overlay := by
  have hmark : (markRelease k u (!s.goesOut k u row.reel.stereo) (pictureShown k u row s)).cues = (pictureShown k u row s).cues ∧
      (markRelease k u (!s.goesOut k u row.reel.stereo) (pictureShown k u row s)).picture = (pictureShown k u row s).picture := by
    unfold markRelease
    dsimp only
    split <;> exact ⟨rfl, rfl⟩
  obtain ⟨hfire, -⟩ := firePositions_facts (fun t => decide (t ≤ row.instant u))
    (markRelease k u (!s.goesOut k u row.reel.stereo) (pictureShown k u row s))
  have hcues : (pictureMarked k u row s).cues = (pictureShown k u row s).cues := hfire.cues_eq.trans hmark.1
  have hpic : (pictureMarked k u row s).picture = (pictureShown k u row s).picture := hfire.picture_eq.trans hmark.2
  exact ⟨hcues, by rw [hcues, hpic]; rfl⟩

/-- The entries behind an instant: those whose tick is reached have fired (R152). -/
theorem pictureMarked_table (j : Nat) (h : j < 64) : (pictureMarked k u row s).actions.table[j] = { s.actions.table[j] with
    fired := s.actions.table[j].fired || (s.actions.table[j].enabled &&
      (s.actions.table[j].resolved.map (fun n => decide (n ≤ row.instant u))).getD false) } := by
  have hdecided : (decidePicture k u row.reel.stereo s).2.actions.table = s.actions.table := by
    rw [(decidePicture_from k u s row.reel.stereo).frame]
  have hframe : (pictureShown k u row s).actions.table = (decidePicture k u row.reel.stereo s).2.actions.table := by
    have hcues := frameStart_cuesFrom k (row.instant u) (decidePicture k u row.reel.stereo s).2
    unfold cuesFrom at hcues
    unfold pictureShown
    dsimp only [State.mapPicture]
    rw [hcues]
  have hmark : (markRelease k u (!s.goesOut k u row.reel.stereo) (pictureShown k u row s)).actions = (pictureShown k u row s).actions := by
    unfold markRelease
    dsimp only
    split <;> rfl
  have htable : (pictureMarked k u row s).actions.table =
      mapVec (fun e => { e with fired := e.fired || e.ready (fun t => decide (t ≤ row.instant u)) }) s.actions.table := by
    rw [pictureMarked, firePositions, fireMessages_table, hmark, hframe, hdecided]
  simp only [htable, getElem_mapVec, ActionEntry.ready]
  cases s.actions.table[j].fired <;> simp

/-! ## The count -/

/-- A presented feature unit, and the charge that it takes at the count point (R92, R133). -/
theorem countFeature_facts (s : State) :
    reportsFrom { s with
      timeline := { s.timeline with presented := s.timeline.presented + 1 }, counting := (countFeature s).counting } (countFeature s) ∧
    (∀ i a, s.counting.bound = some i → s.counting.charged = false → s.counting.point = some (s.timeline.presented + 1) →
      (s.place i).record = some a →
      (countFeature s).counting.charged = true ∧ ((countFeature s).place i).record = some { a with used := min 65535 (a.used + 1) } ∧
      ((countFeature s).event .showingCounted).count = min 65535 ((s.event .showingCounted).count + 1)) ∧
    (s.counting.bound = none ∨ s.counting.charged = true ∨ s.counting.point ≠ some (s.timeline.presented + 1) →
      (countFeature s).counting = s.counting) := by
  by_cases h : ∃ i, s.counting.bound = some i ∧ s.counting.charged = false ∧ s.counting.point = some (s.timeline.presented + 1)
  · obtain ⟨i, hbound, hcharged, hpoint⟩ := h
    have heq : countFeature s = takeCharge i { s with timeline := { s.timeline with presented := s.timeline.presented + 1 } } := by
      unfold countFeature
      dsimp only
      rw [hbound]
      exact if_pos ⟨hcharged, hpoint⟩
    have hreports := takeCharge_reports i { s with timeline := { s.timeline with presented := s.timeline.presented + 1 } }
    refine ⟨?_, fun j a hj _ _ ha => ?_, fun hnot => ?_⟩
    · rw [heq, hreports.counting_eq]
      exact hreports
    · rw [hbound] at hj
      cases hj
      rw [heq]
      refine ⟨by rw [hreports.counting_eq]; rfl, ?_, takeCharge_count i _⟩
      rw [takeCharge_place, if_pos rfl]
      have hrec : (State.place { s with timeline := { s.timeline with presented := s.timeline.presented + 1 } } i).record = some a := ha
      simp only [Place.charge, hrec]
      rfl
    · obtain hb | hc | hp := hnot
      · rw [hbound] at hb; cases hb
      · rw [hcharged] at hc; cases hc
      · exact absurd hpoint hp
  · have heq : countFeature s = { s with timeline := { s.timeline with presented := s.timeline.presented + 1 } } := by
      unfold countFeature
      dsimp only
      split
      next i hbound => exact if_neg (fun hc => h ⟨i, hbound, hc.1, hc.2⟩)
      next => rfl
    rw [heq]
    exact ⟨reportsFrom_refl _, fun i _ hb hc hp _ => absurd ⟨i, hb, hc, hp⟩ h, fun _ => rfl⟩

end

end Sys2Proof.Machine

/-! PROOF. What a picture release instant leaves, and the obligations that it settles (R75 to R79, R45, R42). -/

namespace Sys2Proof.Machine

section

variable (k u : Nat) (row : ReelRow) (s : State)

/-- A feature unit is presented at the instant. -/
def State.presents : Bool := row.reel.isFeature && s.goesOut k u row.reel.stereo

theorem pictureCounted_of_presents (h : s.presents k u row = true) : pictureCounted k u row s = countFeature (pictureMarked k u row s) := by
  rw [State.presents, Bool.and_eq_true] at h
  exact if_pos h

theorem pictureCounted_of_not_presents (h : s.presents k u row = false) : pictureCounted k u row s = pictureMarked k u row s := by
  refine if_neg fun hboth => ?_
  rw [State.presents, hboth.1, hboth.2] at h
  cases h

/-- The count changes the count of presented units and the counting alone, beside what reaches the Event Table. -/
theorem pictureCounted_reports : reportsFrom { pictureMarked k u row s with
    timeline := { (pictureMarked k u row s).timeline with
      presented := (pictureMarked k u row s).timeline.presented + (if s.presents k u row then 1 else 0) },
    counting := (pictureCounted k u row s).counting } (pictureCounted k u row s) := by
  cases h : s.presents k u row with
  | true =>
    rw [pictureCounted_of_presents k u row s h, if_pos rfl]
    exact (countFeature_facts (pictureMarked k u row s)).1
  | false =>
    rw [pictureCounted_of_not_presents k u row s h, if_neg nofun]
    generalize pictureMarked k u row s = v
    exact reportsFrom_refl v

theorem pictureMarked_timeline : (pictureMarked k u row s).timeline = (decidePicture k u row.reel.stereo s).2.timeline := by
  rw [(pictureMarked_scene k u row s).frame]

theorem pictureMarked_counting : (pictureMarked k u row s).counting = s.counting := by
  rw [(pictureMarked_scene k u row s).frame, (decidePicture_from k u s row.reel.stereo).frame]

theorem pictureMarked_holdsKept : HoldsKept s (pictureMarked k u row s) := by
  refine holdsKept_trans (decidePicture_holdsKept k u s row.reel.stereo) (holdsKept_of_eq ?_ ?_)
  · rw [(pictureMarked_scene k u row s).frame]
  · rw [(pictureMarked_scene k u row s).frame]

/-- The timeline behind the count. -/
theorem pictureCounted_timeline : (pictureCounted k u row s).timeline = { s.timeline with
    missing := (decidePicture k u row.reel.stereo s).2.timeline.missing,
    cleanRun := (decidePicture k u row.reel.stereo s).2.timeline.cleanRun,
    repeated := (decidePicture k u row.reel.stereo s).2.timeline.repeated,
    presented := s.timeline.presented + (if s.presents k u row then 1 else 0) } := by
  have h := congrArg State.timeline (pictureCounted_reports k u row s)
  dsimp only at h
  rw [h, pictureMarked_timeline, (decidePicture_from k u s row.reel.stereo).frame]

theorem unitAfter_congr {s t : State} (h : t.timeline.table = s.timeline.table) (k u : Nat) : t.unitAfter k u = s.unitAfter k u := by
  unfold State.unitAfter State.row
  rw [h]

/-- The timeline behind the instant (R75). -/
theorem pictureMoved_timeline : (pictureMoved k u row s).timeline = { (pictureCounted k u row s).timeline with
    interval := some { reel := k, unit := u }, cursor := (s.unitAfter k u).map UnitRef.cursor } := by
  have hafter : (pictureCounted k u row s).unitAfter k u = s.unitAfter k u :=
    unitAfter_congr (by rw [pictureCounted_timeline]) k u
  unfold pictureMoved followCursor
  split
  · rw [hafter]; rfl
  · rw [hafter]; rfl

/-- The cursor moves, and FRAME alone with it (R108). -/
theorem pictureMoved_eq : pictureMoved k u row s = { pictureCounted k u row s with
    timeline := (pictureMoved k u row s).timeline,
    sync := { (pictureCounted k u row s).sync with frame := (pictureMoved k u row s).sync.frame } } := by
  unfold pictureMoved followCursor
  split <;> rfl

theorem pictureMoved_holdsKept : HoldsKept s (pictureMoved k u row s) := by
  have hcounted := holdsKept_trans (pictureMarked_holdsKept k u row s)
    (holdsKept_of_eq (pictureCounted_reports k u row s).wanted_eq (pictureCounted_reports k u row s).holds_eq)
  refine holdsKept_trans hcounted (holdsKept_of_eq ?_ ?_)
  · rw [pictureMoved_eq]
  · rw [pictureMoved_eq]

theorem pictureCounted_frame : (pictureCounted k u row s).sync.frame = s.sync.frame := by
  have h := (pictureCounted_reports k u row s).sync_eq
  dsimp only at h
  rw [h, (pictureMarked_scene k u row s).frame, (decidePicture_from k u s row.reel.stereo).frame]

/-- FRAME waits for a fresh first edge where the expected period changes, in PLAYING (R108). -/
theorem pictureMoved_frame (h : s.timeline.state = .playing) : (pictureMoved k u row s).sync.frame =
    if (pictureMoved k u row s).expectedPeriod = row.reel.framePeriod then s.sync.frame
    else { mode := .period, state := .waitFirst, count := .ticks 0, judged := false } := by
  let w := (pictureCounted k u row s).mapTimeline (fun t => { t with
    interval := some { reel := k, unit := u }, cursor := ((pictureCounted k u row s).unitAfter k u).map UnitRef.cursor })
  have hw : w = (pictureCounted k u row s).mapTimeline (fun t => { t with
    interval := some { reel := k, unit := u }, cursor := ((pictureCounted k u row s).unitAfter k u).map UnitRef.cursor }) := rfl
  have hmode : w.frameMode = .period := by
    have hstate : w.timeline.state = .playing := by
      have hcounted : w.timeline.state = (pictureCounted k u row s).timeline.state := rfl
      rw [hcounted, pictureCounted_timeline]
      exact h
    have hgap : w.inGap = false := by
      rw [hw, State.inGap]
      cases hn : (pictureCounted k u row s).unitAfter k u <;> simp [State.mapTimeline, UnitRef.cursor]
    rw [State.frameMode, hstate]
    simp only [hgap]
    rfl
  have hperiod : (pictureMoved k u row s).expectedPeriod = w.expectedPeriod := by
    refine expectedPeriod_congr ?_
    unfold pictureMoved followCursor
    split <;> rfl
  rw [hperiod]
  unfold pictureMoved followCursor
  rw [← hw]
  split
  · exact pictureCounted_frame k u row s
  · rw [restartFrame, hmode]
    rfl

/-! ## Behind the instant -/

theorem releaseUnit_lane : LaneFrom (pictureMoved k u row s) (releaseUnit k u row s) := by
  rw [releaseUnit_eq]
  exact closeInstant_lane s _

/-- What an instant leaves alone. -/
theorem releaseUnit_kept : (releaseUnit k u row s).comps = s.comps ∧ (releaseUnit k u row s).clock = s.clock ∧
    (releaseUnit k u row s).store = s.store ∧ (releaseUnit k u row s).mgmt = s.mgmt ∧ (releaseUnit k u row s).sound = s.sound ∧
    (releaseUnit k u row s).schedule = s.schedule := by
  have hcounted : ∃ c y t p q e a ct l w sl b h, pictureCounted k u row s = { s with
      wanted := w, slots := sl, buffer := b, holds := h, cues := c, sync := y, timeline := t, picture := p, counting := q, events := e,
      actions := a, counters := ct, link := l } := by
    have hreports := pictureCounted_reports k u row s
    unfold reportsFrom at hreports
    rw [hreports, (pictureMarked_scene k u row s).frame, (decidePicture_from k u s row.reel.stereo).frame]
    exact ⟨_, _, _, _, _, _, _, _, _, _, _, _, _, rfl⟩
  obtain ⟨c, y, t, p, q, e, a, ct, l, w, sl, b, h, hcounted⟩ := hcounted
  rw [(releaseUnit_lane k u row s).frame, pictureMoved_eq, hcounted]
  exact ⟨rfl, rfl, rfl, rfl, rfl, rfl⟩

/-- The timeline behind an instant (R75, R79, R92). -/
theorem releaseUnit_timeline : (releaseUnit k u row s).timeline = { s.timeline with
    interval := some { reel := k, unit := u }, cursor := (s.unitAfter k u).map UnitRef.cursor,
    missing := (decidePicture k u row.reel.stereo s).2.timeline.missing,
    cleanRun := (decidePicture k u row.reel.stereo s).2.timeline.cleanRun,
    repeated := (decidePicture k u row.reel.stereo s).2.timeline.repeated,
    presented := s.timeline.presented + (if s.presents k u row then 1 else 0) } := by
  have h : (releaseUnit k u row s).timeline = (pictureMoved k u row s).timeline := by rw [(releaseUnit_lane k u row s).frame]
  rw [h, pictureMoved_timeline, pictureCounted_timeline]

/-- FRAME behind an instant in PLAYING (R108). -/
theorem releaseUnit_frame (h : s.timeline.state = .playing) : (releaseUnit k u row s).sync.frame =
    if (releaseUnit k u row s).expectedPeriod = row.reel.framePeriod then s.sync.frame
    else { mode := .period, state := .waitFirst, count := .ticks 0, judged := false } := by
  have hsync : (releaseUnit k u row s).sync = (pictureMoved k u row s).sync := by rw [(releaseUnit_lane k u row s).frame]
  have htl : (releaseUnit k u row s).timeline = (pictureMoved k u row s).timeline := by rw [(releaseUnit_lane k u row s).frame]
  rw [hsync, expectedPeriod_congr htl]
  exact pictureMoved_frame k u row s h

/-- Picture Output behind an instant: the decided picture with the frame's overlay list (R76, R121). -/
theorem releaseUnit_picture : (releaseUnit k u row s).picture.shown = (releaseUnit k u row s).picture.last ∧
    (releaseUnit k u row s).picture.last = (decidePicture k u row.reel.stereo s).2.picture.last ∧
    (releaseUnit k u row s).picture.overlay = (releaseUnit k u row s).cues.overlay := by
  have hpic : (releaseUnit k u row s).picture = (pictureMarked k u row s).picture := by
    rw [(releaseUnit_lane k u row s).frame, pictureMoved_eq]
    exact (pictureCounted_reports k u row s).picture_eq
  have hcues : (releaseUnit k u row s).cues = (pictureMarked k u row s).cues := by
    rw [(releaseUnit_lane k u row s).frame, pictureMoved_eq]
    exact (pictureCounted_reports k u row s).cues_eq
  have hmarked : (pictureMarked k u row s).picture.shown = (decidePicture k u row.reel.stereo s).2.picture.shown ∧
      (pictureMarked k u row s).picture.last = (decidePicture k u row.reel.stereo s).2.picture.last := by
    rw [(pictureMarked_scene k u row s).frame]
    exact ⟨rfl, rfl⟩
  have hshown : (decidePicture k u row.reel.stereo s).2.picture.shown = (decidePicture k u row.reel.stereo s).2.picture.last := by
    obtain ⟨r, hr, -⟩ := decidePicture_cases k u s row.reel.stereo
    have hpaced : ∀ left right, (pacedPictures left right row.reel.stereo (showLast r)).picture = (showLast r).picture := fun left right => by
      unfold pacedPictures
      split <;> rfl
    rw [hr, hpaced]
    rfl
  rw [hpic, hcues]
  exact ⟨hmarked.1.trans (hshown.trans hmarked.2.symm), hmarked.2, (pictureMarked_cues k u row s).2⟩

/-- The Cue Engine behind an instant is that behind its frame (R117). -/
theorem releaseUnit_cues : (releaseUnit k u row s).cues = (frameStart k (row.instant u) (decidePicture k u row.reel.stereo s).2).cues := by
  rw [← (pictureMarked_cues k u row s).1, (releaseUnit_lane k u row s).frame, pictureMoved_eq]
  exact (pictureCounted_reports k u row s).cues_eq

theorem releaseUnit_repeats : (releaseUnit k u row s).counters.repeats = (decidePicture k u row.reel.stereo s).2.counters.repeats := by
  rw [← (pictureMarked_scene k u row s).repeats, (releaseUnit_lane k u row s).frame, pictureMoved_eq]
  rw [(pictureCounted_reports k u row s).counters_eq]

theorem releaseUnit_table : (releaseUnit k u row s).actions.table = (pictureMarked k u row s).actions.table := by
  have h := pictureCounted_reports k u row s
  unfold reportsFrom at h
  rw [(releaseUnit_lane k u row s).frame, pictureMoved_eq, h]

theorem releaseUnit_counting : (releaseUnit k u row s).counting = (pictureCounted k u row s).counting := by
  rw [(releaseUnit_lane k u row s).frame, pictureMoved_eq]

/-- The pace values of the picture lanes behind an instant (R45). -/
theorem releaseUnit_pace (l : AvLane) :
    ((releaseUnit k u row s).hold l).pace = ((decidePicture k u row.reel.stereo s).2.hold l).pace := by
  have hmarked : (pictureMarked k u row s).holds = (decidePicture k u row.reel.stereo s).2.holds := by
    rw [(pictureMarked_scene k u row s).frame]
  have hmoved : (pictureMoved k u row s).holds = (decidePicture k u row.reel.stereo s).2.holds := by
    rw [pictureMoved_eq]
    exact (pictureCounted_reports k u row s).holds_eq.trans hmarked
  rw [(releaseUnit_lane k u row s).pace, hold_congr hmoved]

/-- Events that neither the decision, the frame, the lanes nor the charge speak of. -/
theorem releaseUnit_event {j : EventKind} (h1 : j ≠ .bufferFull) (h2 : j ≠ .pictureRepeat) (h3 : j ≠ .actionOverflow)
    (h4 : j ≠ .cueOverflow) (h5 : j ≠ .captionOverflow) (h6 : j ≠ .regionConflict) :
    (releaseUnit k u row s).event j = (pictureCounted k u row s).event j ∧ (pictureMarked k u row s).event j = s.event j := by
  have hmoved : (pictureMoved k u row s).event j = (pictureCounted k u row s).event j := event_congr (by rw [pictureMoved_eq]) j
  exact ⟨((releaseUnit_lane k u row s).events j h1 h3).trans hmoved,
    ((pictureMarked_scene k u row s).events j h4 h5 h6 h3).trans ((decidePicture_from k u s row.reel.stereo).events j h1 h2 h3)⟩

end

end Sys2Proof.Machine

/-! PROOF. The picture release instant as a command, and pace values and holds about the instants (R42, R45, R75 to R79). -/

namespace Sys2Proof.Machine

section

variable {s : State} {c : Cursor} {row : ReelRow}

theorem takeInstant_of_row (hc : s.timeline.cursor = some c) (hrow : s.row c.reel = some row) :
    takeInstant s = releaseUnit c.reel c.unit row s := by
  simp only [takeInstant, hc, hrow]

theorem row_congr {s t : State} (h : t.timeline.table = s.timeline.table) (k : Nat) : t.row k = s.row k := by
  rw [State.row, h]
  rfl

/-- P reaches an instant ahead: what that leaves (R40, R42). -/
theorem reachTick_facts {p : Nat} (h : s.timeline.p ≤ p) : (reachTick p s).timeline = { s.timeline with p := p } ∧
    contentFrom { s with timeline := { s.timeline with p := p } } (reachTick p s) ∧
    (∀ l, ((reachTick p s).hold l).pace = (s.hold l).pace) ∧ (reachTick p s).events = s.events ∧
    (reachTick p s).counters = s.counters := by
  have hfrom := reachTick_holdsFrom_of_le h
  have hpace := reachTick_pace p s
  unfold holdsFrom at hfrom
  refine ⟨by rw [hfrom], ?_, hpace, by rw [hfrom], by rw [hfrom]⟩
  unfold contentFrom
  rw [hfrom]

/-- A picture instant in PLAYING, no interval running (R75). -/
theorem reachInstant_of_row (hstate : s.timeline.state = .playing) (hc : s.timeline.cursor = some c) (hgap : c.inGap = false)
    (hrow : s.row c.reel = some row) (hint : s.timeline.interval = none) (hp : s.timeline.p ≤ row.instant c.unit) :
    reachInstant s = releaseUnit c.reel c.unit row (reachTick (row.instant c.unit) s) := by
  obtain ⟨htl, -⟩ := reachTick_facts hp
  have hend : endInterval s = s := by rw [endInterval, hint]
  have hnot : ¬ s.timeline.state ≠ .playing := fun h => h hstate
  unfold reachInstant
  rw [if_neg hnot, hend]
  simp only [hc, hrow, hstate, hgap, and_self, if_true]
  exact takeInstant_of_row (by rw [htl]; exact hc) ((row_congr (by rw [htl]) _).trans hrow)

end

/-! ## The obligation on the picture instant -/

section

variable (k u : Nat) (row : ReelRow) (s : State)

/-- The charge of an instant that presents the unit at the count point (R133). -/
theorem releaseUnit_charge (h : s.presents k u row = true) {i : Fin 32} {a : Allowance} (hbound : s.counting.bound = some i)
    (hcharged : s.counting.charged = false) (hpoint : s.counting.point = some (s.timeline.presented + 1))
    (ha : (s.place i).record = some a) :
    (releaseUnit k u row s).counting.charged = true ∧
    ((releaseUnit k u row s).place i).record = some { a with used := min 65535 (a.used + 1) } ∧
    ((releaseUnit k u row s).event .showingCounted).count = min 65535 ((s.event .showingCounted).count + 1) := by
  have hmarked := pictureMarked_counting k u row s
  have hpresented : (pictureMarked k u row s).timeline.presented = s.timeline.presented := by
    rw [pictureMarked_timeline, (decidePicture_from k u s row.reel.stereo).frame]
  obtain ⟨-, hcount, -⟩ := countFeature_facts (pictureMarked k u row s)
  obtain ⟨hevent, hbefore⟩ := releaseUnit_event k u row s (j := .showingCounted) (by decide) (by decide) (by decide) (by decide)
    (by decide) (by decide)
  have hplace : (pictureMarked k u row s).place i = s.place i := by rw [State.place, hmarked]; rfl
  obtain ⟨hc, hp, he⟩ := hcount i a (by rw [hmarked]; exact hbound) (by rw [hmarked]; exact hcharged)
    (by rw [hmarked, hpresented]; exact hpoint) (by rw [hplace]; exact ha)
  rw [← pictureCounted_of_presents k u row s h] at hc hp he
  refine ⟨by rw [releaseUnit_counting]; exact hc, ?_, by rw [hevent, he, hbefore]⟩
  rw [State.place, releaseUnit_counting]
  exact hp

/-- An instant that takes no charge leaves the counting (R133). -/
theorem releaseUnit_uncharged (h : s.presents k u row = false ∨ s.counting.bound = none ∨ s.counting.charged = true ∨
    s.counting.point ≠ some (s.timeline.presented + 1)) : (releaseUnit k u row s).counting = s.counting := by
  have hmarked := pictureMarked_counting k u row s
  have hpresented : (pictureMarked k u row s).timeline.presented = s.timeline.presented := by
    rw [pictureMarked_timeline, (decidePicture_from k u s row.reel.stereo).frame]
  obtain ⟨-, -, hnot⟩ := countFeature_facts (pictureMarked k u row s)
  rw [hmarked, hpresented] at hnot
  rw [releaseUnit_counting]
  cases hp : s.presents k u row with
  | true =>
    rw [pictureCounted_of_presents k u row s hp]
    exact hnot (h.resolve_left (by simp [hp]))
  | false =>
    rw [pictureCounted_of_not_presents k u row s hp]
    exact hmarked

/-- The runs, the picture and the counts of an instant whose picture goes out (R76 to R79). -/
theorem decidePicture_out {stereo : Bool} (h : s.goesOut k u stereo = true) {q : UnitRec} (hq : leftUnit k u s = some q) :
    (decidePicture k u stereo s).2.picture.last = some {
      reel := k, unit := u, left := q.content,
      right := if stereo then (rightUnit k u s).map UnitRec.content else none } ∧
    (decidePicture k u stereo s).2.timeline.missing = 0 ∧
    (decidePicture k u stereo s).2.timeline.cleanRun = min 96 (s.timeline.cleanRun + 1) ∧
    (decidePicture k u stereo s).2.timeline.repeated = s.timeline.repeated ∧
    (decidePicture k u stereo s).2.counters.repeats = s.counters.repeats := by
  obtain ⟨r, hr, -, -, -, hvalues, -⟩ := decidePicture_cases k u s stereo
  have hpaced : ∀ left right, (pacedPictures left right stereo (showLast r)).picture.last = r.picture.last ∧
      (pacedPictures left right stereo (showLast r)).timeline = r.timeline ∧
      (pacedPictures left right stereo (showLast r)).counters = r.counters := fun left right => by
    unfold pacedPictures
    split <;> exact ⟨rfl, rfl, rfl⟩
  obtain ⟨hpic, htl, hct⟩ := hpaced (s.passes (leftUnit k u s)) (s.passes (rightUnit k u s))
  rw [hr]
  dsimp only
  rw [hpic, htl, hct]
  exact hvalues h q hq

/-- The runs, the picture and the counts of an instant whose release is missing (R79). -/
theorem decidePicture_missing {stereo : Bool} (h : s.goesOut k u stereo = false) :
    (decidePicture k u stereo s).2.picture.last = s.picture.last ∧
    (decidePicture k u stereo s).2.timeline.missing = min 12 (s.timeline.missing + 1) ∧
    (decidePicture k u stereo s).2.timeline.cleanRun = 0 ∧
    (decidePicture k u stereo s).2.timeline.repeated = min 4294967295 (s.timeline.repeated + 1) ∧
    (decidePicture k u stereo s).2.counters.repeats = min 4294967295 (s.counters.repeats + 1) := by
  obtain ⟨r, hr, -, -, -, -, hvalues⟩ := decidePicture_cases k u s stereo
  have hpaced : ∀ left right, (pacedPictures left right stereo (showLast r)).picture.last = r.picture.last ∧
      (pacedPictures left right stereo (showLast r)).timeline = r.timeline ∧
      (pacedPictures left right stereo (showLast r)).counters = r.counters := fun left right => by
    unfold pacedPictures
    split <;> exact ⟨rfl, rfl, rfl⟩
  obtain ⟨hpic, htl, hct⟩ := hpaced (s.passes (leftUnit k u s)) (s.passes (rightUnit k u s))
  rw [hr]
  dsimp only
  rw [hpic, htl, hct]
  exact hvalues h

/-- The pace values of the picture lanes behind the decision (R45). -/
theorem decidePicture_pace (stereo : Bool) :
    ((decidePicture k u stereo s).2.hold (.pic 0)).pace =
      (if s.passes (leftUnit k u s) then (s.hold (.pic 0)).pace - 1 else 31) ∧
    ((decidePicture k u stereo s).2.hold (.pic 1)).pace = (if stereo then (if s.passes (rightUnit k u s) then (s.hold (.pic 1)).pace - 1
      else 31) else (s.hold (.pic 1)).pace) := by
  obtain ⟨r, hr, -, hholds, -⟩ := decidePicture_cases k u s stereo
  have hpace := pacedPictures_pace (s.passes (leftUnit k u s)) (s.passes (rightUnit k u s)) stereo (showLast r)
  have hshow : ∀ l, (showLast r).hold l = s.hold l := fun l => hold_congr hholds l
  rw [hshow, hshow] at hpace
  rw [hr]
  exact hpace

end

/-- Settles O44, by the parts of the instant that P has reached. -/
theorem pictureInstantDecides : Obligations.PictureInstantDecides := by
  intro s c row hrun hstate hcursor hgap hrow hint hp s' left right
  obtain ⟨htl, hcontent, hpace, hevents, hcounters⟩ := reachTick_facts hp
  obtain ⟨-, -, -, hcomps, hclock, hsched, -, hpic, hsound, hsync, hcounting, hstore, hmgmt, -, htable, -⟩ := hcontent.fields
  have hpasses : ∀ q, s'.passes q = s.passes q := passes_congr s hmgmt
  have hleft : s'.passes (leftUnit c.reel c.unit s') = s.passes left := hpasses _
  have hright : s'.passes (rightUnit c.reel c.unit s') = s.passes right := hpasses _
  have hrow' : s'.row c.reel = some row := (row_congr (by rw [htl]) _).trans hrow
  have hafter : s'.unitAfter c.reel c.unit = s.unitAfter c.reel c.unit := unitAfter_congr (by rw [htl]) _ _
  have hstate' : s'.timeline.state = .playing := by rw [htl]; exact hstate
  have hout := goesOut_iff c.reel c.unit s' row.reel.stereo
  have hmiss := not_goesOut_iff c.reel c.unit s' row.reel.stereo
  rw [hleft, hright] at hout hmiss
  have hfeature : row.reel.isFeature = true ↔ row.reel.kind = .feature := decide_eq_true_iff
  have hrelease := releaseUnit_timeline c.reel c.unit row s'
  obtain ⟨hkc, hkk, hks, hkm, hkd, hkh⟩ := releaseUnit_kept c.reel c.unit row s'
  obtain ⟨hshown, hlast, hoverlay⟩ := releaseUnit_picture c.reel c.unit row s'
  have hcues := releaseUnit_cues c.reel c.unit row s'
  have hrowd : (decidePicture c.reel c.unit row.reel.stereo s').2.row c.reel = some row :=
    (row_congr (by rw [(decidePicture_from c.reel c.unit s' row.reel.stereo).frame]) _).trans hrow'
  obtain ⟨hview, -, -, hnone, hended⟩ := frameStart_cues (f := row.instant c.unit) hrowd
  have hdpace := decidePicture_pace c.reel c.unit s' row.reel.stereo
  rw [hleft, hright, hpace, hpace] at hdpace
  refine ⟨releaseUnit c.reel c.unit row s', ?_, ?_⟩
  · refine (next_running hrun reachInstant).trans ?_
    rw [reachInstant_of_row hstate hcursor hgap hrow hint hp]
  refine ⟨by rw [hrelease]; exact hstate', by rw [hrelease, htl], by rw [hrelease], by rw [hrelease, hafter], hshown,
    by rw [hrelease, htl], hoverlay, by rw [hcues]; exact hnone, ?frame, hkc.trans hcomps, hkk.trans hclock, hks.trans hstore,
    hkm.trans hmgmt, hkd.trans hsound, hkh.trans hsched, fun q hq hgood hr => ?out, fun hm => ?missing, ?pace0, ?pace1,
    fun i a hl hr hkind hbound hcharged hpoint ha => ?charge, fun hno => ?uncharged, by rw [hcues]; exact hview, ?cues, fun j hj => ?table⟩
  case frame =>
    rw [releaseUnit_frame c.reel c.unit row s' hstate', hsync]
  case out =>
    have hgoes : s'.goesOut c.reel c.unit row.reel.stereo = true := by
      refine hout.mpr ⟨?_, fun hs => hr.resolve_left (by simp [hs])⟩
      rw [hq]
      obtain hd | hpol := hgood
      · simp [State.passes, hd]
      · simp [State.passes, hpol]
    obtain ⟨h1, h2, h3, h4, h5⟩ := decidePicture_out c.reel c.unit s' hgoes hq
    refine ⟨hlast.trans h1, by rw [hrelease]; exact h2, by rw [hrelease]; exact h3.trans (by rw [htl]),
      by rw [hrelease]; exact h4.trans (by rw [htl]), ?_, ?_⟩
    · rw [releaseUnit_repeats, h5, hcounters]
    · rw [hrelease, State.presents, hgoes, Bool.and_true, htl]
      simp only [hfeature]
  case missing =>
    have hnot := hmiss.mpr hm
    obtain ⟨h1, h2, h3, h4, h5⟩ := decidePicture_missing c.reel c.unit s' hnot
    refine ⟨hlast.trans (h1.trans (by rw [hpic])), by rw [hrelease]; exact h2.trans (by rw [htl]), by rw [hrelease]; exact h3,
      by rw [hrelease]; exact h4.trans (by rw [htl]), ?_, ?_⟩
    · rw [releaseUnit_repeats, h5, hcounters]
    · rw [hrelease, State.presents, hnot, Bool.and_false, htl]
      rfl
  case pace0 => rw [releaseUnit_pace]; exact hdpace.1
  case pace1 => rw [releaseUnit_pace]; exact hdpace.2
  case charge =>
    have hpresents : s'.presents c.reel c.unit row = true := by
      rw [State.presents, hfeature.mpr hkind, hout.mpr ⟨hl, hr⟩]
      rfl
    have hevent : s'.event .showingCounted = s.event .showingCounted := event_congr hevents _
    have hplace : s'.place i = s.place i := by rw [State.place, hcounting]; rfl
    rw [← hevent]
    exact releaseUnit_charge c.reel c.unit row s' hpresents (by rw [hcounting]; exact hbound) (by rw [hcounting]; exact hcharged)
      (by rw [hcounting, htl]; exact hpoint) (by rw [hplace]; exact ha)
  case uncharged =>
    have hnot : s'.presents c.reel c.unit row = false ∨ s'.counting.bound = none ∨ s'.counting.charged = true ∨
        s'.counting.point ≠ some (s'.timeline.presented + 1) := by
      rw [hcounting, htl]
      obtain hm | hk | hrest := hno
      · exact .inl (by rw [State.presents, hmiss.mpr hm, Bool.and_false])
      · exact .inl (by rw [State.presents, Reel.isFeature, decide_eq_false hk, Bool.false_and])
      · exact .inr hrest
    exact (releaseUnit_uncharged c.reel c.unit row s' hnot).trans hcounting
  case cues =>
    intro i e he
    rw [cueTable_congr hcues] at he
    exact hended i e he
  case table =>
    have h := pictureMarked_table c.reel c.unit row s' j hj
    have hbefore : s'.actions.table = s.actions.table := htable
    simp only [releaseUnit_table, h, hbefore]

end Sys2Proof.Machine

/-! PROOF. A sound lane's part of a sound instant, and the instant on every lane of a reel (R93 to R98). -/

namespace Sys2Proof.Machine

/-! ## A lane's outcome -/

/-- A silence: it is counted, the clean run ends, and SOUND_SILENCE is asserted (R95). -/
theorem noteSound_silent (s : State) :
    reportsFrom { s with
      sound := { s.sound with cleanRun := 0 },
      counters := { s.counters with silences := min 4294967295 (s.counters.silences + 1) } } (noteSound true s) ∧
    (noteSound true s).isAsserted .soundSilence = true :=
  ⟨assertEvent_reports _ _, isAsserted_assertEvent _ _⟩

/-- A unit that sounds: the clean run grows, and ends SOUND_SILENCE at 96 (R95). -/
theorem noteSound_sounding (s : State) :
    reportsFrom { s with sound := { s.sound with cleanRun := min 96 (s.sound.cleanRun + 1) } } (noteSound false s) ∧
    (95 ≤ s.sound.cleanRun → (noteSound false s).isAsserted .soundSilence = false) := by
  have heq : noteSound false s = if min 96 (s.sound.cleanRun + 1) = 96
      then deassertEvent .soundSilence { s with sound := { s.sound with cleanRun := min 96 (s.sound.cleanRun + 1) } }
      else { s with sound := { s.sound with cleanRun := min 96 (s.sound.cleanRun + 1) } } := rfl
  rw [heq]
  split
  · exact ⟨deassertEvent_reports _ _, fun _ => isAsserted_deassertEvent _ _ (by decide)⟩
  · exact ⟨reportsFrom_refl _, fun h => absurd (by omega) ‹¬ min 96 (s.sound.cleanRun + 1) = 96›⟩

/-- `t` is `u` but for wanted set, slots, buffer, holds, what plays and the clean run, the counts of units and of silences, and what
reaches the Event Table. -/
def soundFrom (u t : State) : Prop :=
  t = { u with
    wanted := t.wanted, slots := t.slots, buffer := t.buffer, holds := t.holds, events := t.events,
    sound := { u.sound with plays := t.sound.plays, cleanRun := t.sound.cleanRun },
    counters := { u.counters with
      assembled := t.counters.assembled, discarded := t.counters.discarded, abandoned := t.counters.abandoned,
      actionsDropped := t.counters.actionsDropped, silences := t.counters.silences },
    actions := { u.actions with queue := t.actions.queue, line := t.actions.line, timer := t.actions.timer },
    link := { u.link with queue := t.link.queue } }

theorem soundFrom_refl (s : State) : soundFrom s s := rfl

theorem soundFrom_trans {s t u : State} (h : soundFrom s t) (h' : soundFrom t u) : soundFrom s u := by
  unfold soundFrom at *
  rw [h'] at *
  rw [h]

theorem soundFrom_of_stock {s t : State} (h : StockFrom s t) : soundFrom s t := by
  unfold soundFrom
  rw [h.frame]

theorem noteSound_from (missing : Bool) (s : State) : soundFrom s (noteSound missing s) := by
  have h : ∀ {u t : State}, reportsFrom u t → soundFrom s u → soundFrom s t := fun h hu => by
    refine soundFrom_trans hu ?_
    unfold soundFrom
    unfold reportsFrom at h
    rw [h]
  cases missing with
  | true => exact h (noteSound_silent s).1 rfl
  | false => exact h (noteSound_sounding s).1 rfl

/-- The outcome of a lane leaves what it plays, its queue and its hold. -/
theorem noteSound_reads (missing : Bool) (s : State) : (noteSound missing s).buffer = s.buffer ∧
    (noteSound missing s).sound.plays = s.sound.plays ∧ (noteSound missing s).holds = s.holds ∧
    (noteSound missing s).wanted = s.wanted ∧ (noteSound missing s).slots = s.slots := by
  have h : ∀ {u t : State}, reportsFrom u t → t.buffer = u.buffer ∧ t.sound = u.sound ∧ t.holds = u.holds ∧ t.wanted = u.wanted ∧
      t.slots = u.slots := fun h => by
    unfold reportsFrom at h
    rw [h]
    exact ⟨rfl, rfl, rfl, rfl, rfl⟩
  cases missing with
  | true =>
    obtain ⟨hb, hs, hh, hw, hl⟩ := h (noteSound_silent s).1
    exact ⟨hb, by rw [hs], hh, hw, hl⟩
  | false =>
    obtain ⟨hb, hs, hh, hw, hl⟩ := h (noteSound_sounding s).1
    exact ⟨hb, by rw [hs], hh, hw, hl⟩

/-! ## A lane of the reel -/

section

variable (k u : Nat) (r : Reel) (s : State) {g : SoundGroup} {i : Fin 4}

theorem groupLane_eq_some : groupLane g = some i ↔ g.lane = .snd i := by
  unfold groupLane
  split
  next j h =>
    rw [h]
    constructor
    · intro h'; cases h'; rfl
    · intro h'; cases h'; rfl
  next h =>
    constructor
    · nofun
    · intro h'; exact absurd h' (h i)

/-- The answer of a sound lane and the state behind it. -/
def soundAsked (i : Fin 4) : Option UnitRec × State := unitDue (.snd i) k u (deadline (.snd i) k u s)

/-- The state whose lane plays what was handed over, with its pace value, before the outcome is noted (R94, R95). -/
def soundPlayed (g : SoundGroup) (i : Fin 4) : State :=
  paceOutcome (.snd i) (soundPlay (soundAsked k u s i).2 r k u g (soundAsked k u s i).1).silent
    ((soundAsked k u s i).2.mapSound (fun d =>
      { d with plays := d.plays.set i (some (soundPlay (soundAsked k u s i).2 r k u g (soundAsked k u s i).1)) }))

theorem takeGroup_of_lane (h : g.lane = .snd i) : takeGroup k u r s g =
    noteSound (soundPlay (soundAsked k u s i).2 r k u g (soundAsked k u s i).1).silent (soundPlayed k u r s g i) := by
  unfold takeGroup
  rw [groupLane_eq_some.mpr h]
  rfl

theorem soundAsked_stock (i : Fin 4) : StockFrom s (soundAsked k u s i).2 :=
  stockFrom_trans (deadline_stock (avToLane_not_text (.snd i)) k u s) (unitDue_stock _ k u _)

theorem soundAsked_holdsKept (i : Fin 4) : HoldsKept s (soundAsked k u s i).2 :=
  holdsKept_trans (deadline_holdsKept (avToLane_not_text (.snd i)) k u s) (unitDue_holdsKept _ k u _)

/-- A lane's answer leaves the other lanes' queues and slots. -/
theorem soundAsked_other (i : Fin 4) {m : Lane} (h : m ≠ .snd i) :
    (soundAsked k u s i).2.queue m = s.queue m ∧ (soundAsked k u s i).2.laneSlots m = s.laneSlots m := by
  obtain ⟨hq, hs⟩ := unitDue_frame (.snd i) k u (deadline (.snd i) k u s)
  have hdead : (deadline (.snd i) k u s).queue m = s.queue m ∧ (deadline (.snd i) k u s).laneSlots m = s.laneSlots m := by
    cases hb : s.base k (.snd i) with
    | none => rw [deadline_of_no_base hb]; exact ⟨rfl, rfl⟩
    | some b =>
      by_cases hu : u < b
      · rw [deadline_of_passed hb hu]; exact ⟨rfl, rfl⟩
      · rw [deadline_of_base hb (Nat.not_lt.mp hu)]
        obtain ⟨hjq, hjs, -⟩ := joinLane_other (l := .snd i) (passDeadline (.snd i) k b u s) h
        rw [hjq, hjs]
        exact ⟨emptySlots_queue _ _ _ _ _, (emptySlots_laneSlots _ _ _ _ _).trans (if_neg h)⟩
  exact ⟨(hq m h).trans hdead.1, (laneSlots_congr hs m).trans hdead.2⟩

theorem soundPlayed_from (g : SoundGroup) (i : Fin 4) : soundFrom s (soundPlayed k u r s g i) :=
  soundFrom_trans (soundFrom_of_stock (soundAsked_stock k u s i)) rfl

theorem takeGroup_from (g : SoundGroup) : soundFrom s (takeGroup k u r s g) := by
  cases h : groupLane g with
  | none =>
    have heq : takeGroup k u r s g = s := by rw [takeGroup, h]
    rw [heq]
    exact soundFrom_refl s
  | some i =>
    rw [takeGroup_of_lane k u r s (groupLane_eq_some.mp h)]
    exact soundFrom_trans (soundPlayed_from k u r s g i) (noteSound_from _ _)

theorem takeGroup_holdsKept (g : SoundGroup) : HoldsKept s (takeGroup k u r s g) := by
  cases h : groupLane g with
  | none =>
    have heq : takeGroup k u r s g = s := by rw [takeGroup, h]
    rw [heq]
    exact holdsKept_refl s
  | some i =>
    obtain ⟨-, -, hholds, hwanted, -⟩ := noteSound_reads (soundPlay (soundAsked k u s i).2 r k u g (soundAsked k u s i).1).silent
      (soundPlayed k u r s g i)
    rw [takeGroup_of_lane k u r s (groupLane_eq_some.mp h)]
    exact holdsKept_trans (holdsKept_trans (holdsKept_trans (soundAsked_holdsKept k u s i) (holdsKept_of_eq rfl rfl))
      (paceOutcome_holdsKept _ _ _)) (holdsKept_of_eq hwanted hholds)

theorem soundPlayed_reads (g : SoundGroup) (i : Fin 4) :
    (soundPlayed k u r s g i).buffer = (soundAsked k u s i).2.buffer ∧ (soundPlayed k u r s g i).slots = (soundAsked k u s i).2.slots ∧
    (soundPlayed k u r s g i).sound.plays = (soundAsked k u s i).2.sound.plays.set i
      (some (soundPlay (soundAsked k u s i).2 r k u g (soundAsked k u s i).1)) := by
  unfold soundPlayed
  generalize soundAsked k u s i = asked
  exact ⟨rfl, rfl, rfl⟩

/-- What a lane of the reel reads after its instant. -/
theorem takeGroup_reads (h : g.lane = .snd i) :
    (∀ m, (takeGroup k u r s g).queue m = (soundAsked k u s i).2.queue m) ∧
    (∀ m, (takeGroup k u r s g).laneSlots m = (soundAsked k u s i).2.laneSlots m) ∧
    (takeGroup k u r s g).sound.plays = s.sound.plays.set i (some (soundPlay (soundAsked k u s i).2 r k u g (soundAsked k u s i).1)) := by
  obtain ⟨hbuffer, hplays, -, -, hslots⟩ := noteSound_reads (soundPlay (soundAsked k u s i).2 r k u g (soundAsked k u s i).1).silent
    (soundPlayed k u r s g i)
  obtain ⟨-, -, -, -, -, -, -, -, hsound, -⟩ := (contentFrom_of_stock (soundAsked_stock k u s i)).fields
  rw [takeGroup_of_lane k u r s h]
  obtain ⟨hpb, hps, hpp⟩ := soundPlayed_reads k u r s g i
  refine ⟨fun m => queue_congr (by rw [hbuffer, hpb]) m, fun m => laneSlots_congr (hslots.trans hps) m, ?_⟩
  rw [hplays, hpp, hsound]

/-- A lane plays the unit handed over, and is silent where that does not sound (R95). -/
theorem soundPlay_facts (k u : Nat) (r : Reel) (s : State) (g : SoundGroup) (answer : Option UnitRec) :
    (soundPlay s r k u g answer).reel = k ∧ (soundPlay s r k u g answer).unit = u ∧ (soundPlay s r k u g answer).channels = g.channels ∧
    ((soundPlay s r k u g answer).silent = false ↔
      ∃ q, answer = some q ∧ (q.damaged = false ∧ q.size = groupBytes r g ∨ s.mgmt.limits.soundPolicy = 1)) ∧
    ∀ q, answer = some q → (soundPlay s r k u g answer).size = q.size ∧ (soundPlay s r k u g answer).content = q.content := by
  cases answer with
  | none => exact ⟨rfl, rfl, rfl, ⟨fun h => (nomatch h), fun ⟨q, hq, _⟩ => (nomatch hq)⟩, fun q hq => (nomatch hq)⟩
  | some q =>
    refine ⟨rfl, rfl, rfl, ?_, fun q' hq => by cases hq; exact ⟨rfl, rfl⟩⟩
    cases hd : q.damaged <;> by_cases hs : q.size = groupBytes r g <;> simp [soundPlay, soundsOut, hd, hs]

/-- A lane that sounds: its run grows and its pace value falls (R45, R95). -/
theorem takeGroup_sounding (h : g.lane = .snd i)
    (hsilent : (soundPlay (soundAsked k u s i).2 r k u g (soundAsked k u s i).1).silent = false) :
    (takeGroup k u r s g).counters.silences = s.counters.silences ∧
    (takeGroup k u r s g).sound.cleanRun = min 96 (s.sound.cleanRun + 1) ∧
    ((takeGroup k u r s g).hold (.snd i)).pace = (s.hold (.snd i)).pace - 1 ∧
    (95 ≤ s.sound.cleanRun → (takeGroup k u r s g).isAsserted .soundSilence = false) := by
  obtain ⟨hreports, hclear⟩ := noteSound_sounding (soundPlayed k u r s g i)
  obtain ⟨hholds, -, -, hsilences, -⟩ := (soundAsked_stock k u s i).fields
  obtain ⟨-, -, -, -, -, -, -, -, hsound, -⟩ := (contentFrom_of_stock (soundAsked_stock k u s i)).fields
  have hrun : (soundPlayed k u r s g i).sound.cleanRun = s.sound.cleanRun := by
    change (soundAsked k u s i).2.sound.cleanRun = _
    rw [hsound]
  have hcount : (soundPlayed k u r s g i).counters.silences = s.counters.silences := hsilences
  have hpace : ((soundPlayed k u r s g i).hold (.snd i)).pace = (s.hold (.snd i)).pace - 1 := by
    unfold soundPlayed paceOutcome
    rw [hold_setHold, if_pos rfl, hsilent, ← hold_congr hholds]
    rfl
  rw [takeGroup_of_lane k u r s h, hsilent]
  refine ⟨?_, ?_, ?_, fun h95 => hclear (by rw [hrun]; exact h95)⟩
  · rw [hreports.counters_eq]
    exact hcount
  · rw [hreports.sound_eq]
    dsimp only
    rw [hrun]
  · rw [hold_congr hreports.holds_eq]
    exact hpace

/-- A lane that is silent: it is counted, its run ends and its pace value is full (R45, R95). -/
theorem takeGroup_silent (h : g.lane = .snd i)
    (hsilent : (soundPlay (soundAsked k u s i).2 r k u g (soundAsked k u s i).1).silent = true) :
    (takeGroup k u r s g).counters.silences = min 4294967295 (s.counters.silences + 1) ∧
    (takeGroup k u r s g).sound.cleanRun = 0 ∧ ((takeGroup k u r s g).hold (.snd i)).pace = 31 ∧
    (takeGroup k u r s g).isAsserted .soundSilence = true := by
  obtain ⟨hreports, hasserted⟩ := noteSound_silent (soundPlayed k u r s g i)
  obtain ⟨-, -, -, hsilences, -⟩ := (soundAsked_stock k u s i).fields
  have hcount : (soundPlayed k u r s g i).counters.silences = s.counters.silences := hsilences
  have hpace : ((soundPlayed k u r s g i).hold (.snd i)).pace = 31 := by
    unfold soundPlayed paceOutcome
    rw [hold_setHold, if_pos rfl, hsilent]
    rfl
  rw [takeGroup_of_lane k u r s h, hsilent]
  refine ⟨?_, ?_, ?_, hasserted⟩
  · rw [hreports.counters_eq]
    dsimp only
    rw [hcount]
  · rw [hreports.sound_eq]
  · rw [hold_congr hreports.holds_eq]
    exact hpace

end

/-! ## The lanes of a reel -/

section

variable (k u : Nat) (r : Reel)

/-- The groups of a reel take the instant one after another (R94). -/
def groupsTaken (gs : List SoundGroup) (s : State) : State := gs.foldl (takeGroup k u r) s

theorem groupsTaken_from : ∀ (gs : List SoundGroup) (s : State), soundFrom s (groupsTaken k u r gs s)
  | [], s => soundFrom_refl s
  | g :: gs, s => soundFrom_trans (takeGroup_from k u r s g) (groupsTaken_from gs _)

theorem groupsTaken_holdsKept (gs : List SoundGroup) (s : State) : HoldsKept s (groupsTaken k u r gs s) :=
  holdsKept_foldl (takeGroup_holdsKept k u r) gs s

/-- A group of another lane leaves a lane's play, queue and slots. -/
theorem takeGroup_other {g : SoundGroup} {i : Fin 4} (h : g.lane ≠ .snd i) (s : State) :
    (takeGroup k u r s g).sound.plays[i] = s.sound.plays[i] ∧ (takeGroup k u r s g).queue (.snd i) = s.queue (.snd i) ∧
    (takeGroup k u r s g).laneSlots (.snd i) = s.laneSlots (.snd i) := by
  cases hg : groupLane g with
  | none =>
    have heq : takeGroup k u r s g = s := by rw [takeGroup, hg]
    rw [heq]
    exact ⟨rfl, rfl, rfl⟩
  | some j =>
    have hj := groupLane_eq_some.mp hg
    have hne : (Lane.snd i) ≠ .snd j := fun h' => h (hj.trans h'.symm)
    obtain ⟨hq, hs, hplays⟩ := takeGroup_reads k u r s hj
    obtain ⟨hqo, hso⟩ := soundAsked_other k u s j hne
    refine ⟨?_, (hq _).trans hqo, (hs _).trans hso⟩
    have hval : j.val ≠ i.val := fun e => hne (by rw [Fin.ext e])
    rw [hplays]
    simp [hval]

/-- A lane that no group names keeps what it plays, its queue and its slots. -/
theorem groupsTaken_other {i : Fin 4} : ∀ (gs : List SoundGroup) (s : State), (∀ g ∈ gs, g.lane ≠ .snd i) →
    (groupsTaken k u r gs s).sound.plays[i] = s.sound.plays[i] ∧ (groupsTaken k u r gs s).queue (.snd i) = s.queue (.snd i) ∧
    (groupsTaken k u r gs s).laneSlots (.snd i) = s.laneSlots (.snd i)
  | [], _, _ => ⟨rfl, rfl, rfl⟩
  | g :: gs, s, h => by
    obtain ⟨hp, hq, hs⟩ := takeGroup_other k u r (h g (List.mem_cons_self ..)) s
    obtain ⟨hp', hq', hs'⟩ := groupsTaken_other gs (takeGroup k u r s g) fun g' hg' => h g' (List.mem_cons_of_mem _ hg')
    exact ⟨hp'.trans hp, hq'.trans hq, hs'.trans hs⟩

/-- The lane of each group plays the instant's unit. -/
theorem groupsTaken_plays {i : Fin 4} : ∀ (gs : List SoundGroup) (s : State), (gs.map SoundGroup.lane).Nodup →
    ∀ g ∈ gs, g.lane = .snd i →
      ∃ p, (groupsTaken k u r gs s).sound.plays[i] = some p ∧ p.reel = k ∧ p.unit = u ∧ p.channels = g.channels
  | [], _, _, _, hg, _ => by cases hg
  | g' :: gs, s, hnodup, g, hg, hlane => by
    rw [List.map_cons, List.nodup_cons] at hnodup
    obtain rfl | hmem := List.mem_cons.mp hg
    · have hothers : ∀ x ∈ gs, x.lane ≠ .snd i := fun x hx hx' =>
        hnodup.1 (List.mem_map.mpr ⟨x, hx, hx'.trans hlane.symm⟩)
      obtain ⟨hp, -, -⟩ := groupsTaken_other k u r gs (takeGroup k u r s g) hothers
      obtain ⟨-, -, hplays⟩ := takeGroup_reads k u r s hlane
      obtain ⟨hr, hu, hc, -⟩ := soundPlay_facts k u r (soundAsked k u s i).2 g (soundAsked k u s i).1
      refine ⟨_, hp.trans ?_, hr, hu, hc⟩
      rw [hplays]
      simp
    · exact groupsTaken_plays gs (takeGroup k u r s g') hnodup.2 g hmem hlane

end

end Sys2Proof.Machine

/-! PROOF. The sound instant: the reel in play, the lanes, the cursor, and what joins as a reel leaves (R93 to R98, R19). -/

namespace Sys2Proof.Machine

/-! ## The reel in play -/

section

variable (k u : Nat) (row : ReelRow) (s : State)

/-- The routings that a reel's groups name come into force (R98). -/
def routedBy (maps : Vector (List Route) 8) (gs : List SoundGroup) (v : Vector (Option (List Route)) 4) : Vector (Option (List Route)) 4 :=
  gs.foldl (fun v g =>
    match groupLane g with
    | some i => v.set i (maps[g.map]?)
    | none => v) v

theorem enterSoundReel_of_kept {r : Reel} (h : s.sound.reel = some k ∨ r.sounds = []) : enterSoundReel k r s = s := by
  refine if_pos (h.imp_right fun h' => ?_)
  rw [h']
  rfl

theorem enterSoundReel_of_new {r : Reel} (h : ¬ (s.sound.reel = some k ∨ r.sounds = [])) : enterSoundReel k r s = { s with
    sound := { s.sound with
      reel := some k, hiRate := r.hi, offset := appliedOffset s.sound.live r.sampleTicks,
      routing := routedBy s.sound.maps r.sounds s.sound.routing } } := by
  refine if_neg fun h' => h (h'.imp_right fun hempty => List.isEmpty_iff.mp hempty)

theorem routedBy_other {maps : Vector (List Route) 8} {i : Fin 4} : ∀ (gs : List SoundGroup) (v : Vector (Option (List Route)) 4),
    (∀ g ∈ gs, g.lane ≠ .snd i) → (routedBy maps gs v)[i] = v[i]
  | [], _, _ => rfl
  | g :: gs, v, h => by
    have hrest := fun w => routedBy_other (maps := maps) (i := i) gs w fun g' hg' => h g' (List.mem_cons_of_mem _ hg')
    have hcons : routedBy maps (g :: gs) v = routedBy maps gs (match groupLane g with | some i => v.set i (maps[g.map]?) | none => v) := rfl
    rw [hcons, hrest]
    cases hg : groupLane g with
    | none => rfl
    | some j =>
      have hval : j.val ≠ i.val := fun e => h g (List.mem_cons_self ..) (by rw [groupLane_eq_some.mp hg, Fin.ext e])
      simp [hval]

/-- Each lane takes the routing that its group names (R98). -/
theorem routedBy_group {maps : Vector (List Route) 8} {i : Fin 4} : ∀ (gs : List SoundGroup) (v : Vector (Option (List Route)) 4),
    (gs.map SoundGroup.lane).Nodup → ∀ g ∈ gs, g.lane = .snd i → (routedBy maps gs v)[i] = maps[g.map]?
  | [], _, _, _, hg, _ => by cases hg
  | g' :: gs, v, hnodup, g, hg, hlane => by
    rw [List.map_cons, List.nodup_cons] at hnodup
    have hcons : routedBy maps (g' :: gs) v = routedBy maps gs (match groupLane g' with | some i => v.set i (maps[g'.map]?) | none => v) := rfl
    rw [hcons]
    obtain rfl | hmem := List.mem_cons.mp hg
    · have hothers : ∀ x ∈ gs, x.lane ≠ .snd i := fun x hx hx' => hnodup.1 (List.mem_map.mpr ⟨x, hx, hx'.trans hlane.symm⟩)
      rw [routedBy_other gs _ hothers, groupLane_eq_some.mpr hlane]
      simp
    · exact routedBy_group gs _ hnodup.2 g hmem hlane

/-! ## The instant -/

/-- The reel in play with its lanes silenced, before they take the instant. -/
def soundEntered : State := silenceLanes (enterSoundReel k row.reel s)

/-- The instant taken on every lane, the cursor past the unit. -/
def soundMoved : State := passSoundCursor k u (groupsTaken k u row.reel row.reel.sounds (soundEntered k row s))

theorem soundInstant_of_row (h : s.row k = some row) : soundInstant k u s = closeInstant s (soundMoved k u row s) := by
  unfold soundInstant
  rw [h]
  rfl

theorem enterSoundReel_eq (r : Reel) : enterSoundReel k r s = { s with sound := (enterSoundReel k r s).sound } := by
  unfold enterSoundReel
  split <;> rfl

theorem soundEntered_eq : soundEntered k row s = { s with sound := (soundEntered k row s).sound } := by
  unfold soundEntered silenceLanes
  rw [enterSoundReel_eq]
  rfl

theorem soundMoved_sound : (soundMoved k u row s).sound = { (enterSoundReel k row.reel s).sound with
    plays := (soundMoved k u row s).sound.plays, cleanRun := (soundMoved k u row s).sound.cleanRun, cursor := s.unitAfter k u } := by
  have hfrom := groupsTaken_from k u row.reel row.reel.sounds (soundEntered k row s)
  have hafter : (groupsTaken k u row.reel row.reel.sounds (soundEntered k row s)).unitAfter k u = s.unitAfter k u := by
    refine unitAfter_congr ?_ k u
    unfold soundFrom at hfrom
    rw [hfrom, soundEntered_eq]
  unfold soundMoved passSoundCursor State.mapSound
  dsimp only
  rw [hafter]
  unfold soundFrom at hfrom
  rw [hfrom]
  rfl

/-- What the instant leaves before the lanes are settled. -/
theorem soundMoved_kept : (soundMoved k u row s).timeline = s.timeline ∧ (soundMoved k u row s).picture = s.picture ∧
    (soundMoved k u row s).mgmt = s.mgmt ∧ (soundMoved k u row s).store = s.store := by
  have hfrom := groupsTaken_from k u row.reel row.reel.sounds (soundEntered k row s)
  unfold soundFrom at hfrom
  unfold soundMoved passSoundCursor State.mapSound
  dsimp only
  rw [hfrom, soundEntered_eq]
  exact ⟨rfl, rfl, rfl, rfl⟩

theorem soundMoved_holdsKept : HoldsKept s (soundMoved k u row s) := by
  have hentered : HoldsKept s (soundEntered k row s) := by
    rw [soundEntered_eq]
    exact holdsKept_of_eq rfl rfl
  exact holdsKept_trans (holdsKept_trans hentered (groupsTaken_holdsKept k u row.reel _ _)) (holdsKept_of_eq rfl rfl)

/-- A lane that no group of the reel names is silent, and its queue and slots stand. -/
theorem soundMoved_other {i : Fin 4} (h : ∀ g ∈ row.reel.sounds, g.lane ≠ .snd i) :
    (soundMoved k u row s).sound.plays[i] = none ∧ (soundMoved k u row s).queue (.snd i) = s.queue (.snd i) ∧
    (soundMoved k u row s).laneSlots (.snd i) = s.laneSlots (.snd i) := by
  obtain ⟨hp, hq, hs⟩ := groupsTaken_other k u row.reel row.reel.sounds (soundEntered k row s) h
  have hentered : (soundEntered k row s).queue (.snd i) = s.queue (.snd i) ∧
      (soundEntered k row s).laneSlots (.snd i) = s.laneSlots (.snd i) := by
    rw [soundEntered_eq]
    exact ⟨rfl, rfl⟩
  refine ⟨hp.trans ?_, hq.trans hentered.1, hs.trans hentered.2⟩
  simp [soundEntered, silenceLanes, State.mapSound]

theorem soundMoved_plays {i : Fin 4} (hnodup : (row.reel.sounds.map SoundGroup.lane).Nodup) {g : SoundGroup} (hg : g ∈ row.reel.sounds)
    (hlane : g.lane = .snd i) :
    ∃ p, (soundMoved k u row s).sound.plays[i] = some p ∧ p.reel = k ∧ p.unit = u ∧ p.channels = g.channels :=
  groupsTaken_plays k u row.reel row.reel.sounds (soundEntered k row s) hnodup g hg hlane

end

/-! ## What joins as a reel leaves -/

/-- A lane gains complete units of its slots at its queue's tail, and nothing else. -/
def joinsOnly (l : Lane) (s t : State) : Prop :=
  (∃ joined : List AsmSlot, t.queue l = s.queue l ++ joined.map AsmSlot.record ∧ ∀ x ∈ joined, x ∈ s.laneSlots l ∧ x.complete = true) ∧
  ∀ x ∈ t.laneSlots l, x ∈ s.laneSlots l

theorem joinsOnly_of_eq {l : Lane} {s t : State} (hq : t.queue l = s.queue l) (hs : t.laneSlots l = s.laneSlots l) : joinsOnly l s t :=
  ⟨⟨[], by rw [hq, List.map_nil, List.append_nil], nofun⟩, fun x hx => by rwa [hs] at hx⟩

theorem joinsOnly_trans {l : Lane} {s t u : State} (h : joinsOnly l s t) (h' : joinsOnly l t u) : joinsOnly l s u := by
  obtain ⟨⟨joined, hq, hj⟩, hs⟩ := h
  obtain ⟨⟨joined', hq', hj'⟩, hs'⟩ := h'
  refine ⟨⟨joined ++ joined', ?_, fun x hx => ?_⟩, fun x hx => hs x (hs' x hx)⟩
  · rw [hq', hq, List.append_assoc, List.map_append]
  · obtain hx | hx := List.mem_append.mp hx
    · exact hj x hx
    · exact ⟨hs x (hj' x hx).1, (hj' x hx).2⟩

theorem removeReel_joinsOnly (k : Nat) (a : AvLane) (s : State) : joinsOnly (avToLane a) s (removeReel k s) := by
  obtain ⟨-, joined, hq, hj, hs⟩ := removeReel_lane k a s
  refine ⟨⟨joined, hq, fun x hx => ⟨(hj x hx).1, (hj x hx).2.1⟩⟩, fun x hx => ?_⟩
  rw [hs] at hx
  exact (List.mem_filter.mp (List.mem_filter.mp hx).1).1

theorem addReel_joinsOnly (k : Nat) (l : Lane) (s : State) : joinsOnly l s (addReel k s) := by
  unfold addReel
  split
  · exact joinsOnly_of_eq rfl rfl
  · exact joinsOnly_of_eq (queue_congr (by rw [(queueReport_reports _ _).buffer_eq]) l)
      (laneSlots_congr (queueReport_reports _ _).slots_eq l)

theorem sortWanted_joinsOnly (a : AvLane) : ∀ (n : Nat) (s : State), joinsOnly (avToLane a) s (sortWanted n s)
  | 0, s => joinsOnly_of_eq rfl rfl
  | n + 1, s => by
    have hnoted : joinsOnly (avToLane a) s (noteFinished s) := joinsOnly_of_eq rfl rfl
    cases hnext : (noteFinished s).nextWanted with
    | some k =>
      rw [sortWanted_of_next hnext]
      exact joinsOnly_trans (joinsOnly_trans hnoted (addReel_joinsOnly k _ _)) (sortWanted_joinsOnly a n _)
    | none =>
      cases htaken : (noteFinished s).wanted.find? (noteFinished s).instantsTaken with
      | some w =>
        rw [sortWanted_of_taken hnext htaken]
        exact joinsOnly_trans (joinsOnly_trans hnoted (removeReel_joinsOnly _ a _)) (sortWanted_joinsOnly a n _)
      | none =>
        rw [sortWanted_of_settled hnext htaken]
        exact hnoted

theorem settleLeads_joinsOnly (l : Lane) (before s : State) : joinsOnly l s (settleLeads before s) := by
  obtain ⟨-, hs, hb, -⟩ := (settleLeads_holdsFrom before s).fields
  exact joinsOnly_of_eq (queue_congr (by rw [hb]) l) (laneSlots_congr hs l)

theorem closeInstant_joinsOnly (a : AvLane) (before s : State) : joinsOnly (avToLane a) s (closeInstant before s) :=
  joinsOnly_trans (joinsOnly_trans (settleLeads_joinsOnly _ before s) (sortWanted_joinsOnly a _ _)) (settleLeads_joinsOnly _ _ _)

end Sys2Proof.Machine

/-! PROOF. Pace values, settled leads, and the sound instant as a command: the staged delay, the units that it passes, and the samples on
the outputs (R42, R45, R93 to R103). -/

namespace Sys2Proof.Machine

/-! ## Pace and leads -/

theorem paceOutcome_hold (l m : AvLane) (missing : Bool) (s : State) : (paceOutcome l missing s).hold m =
    if m = l then { s.hold l with pace := if missing then 31 else (s.hold l).pace - 1 } else s.hold m := hold_setHold s l m _

theorem effLow_eq (s : State) (l : AvLane) : s.effLow l = if (s.hold l).pace = 0 then s.lowMark l else 2 * s.lowMark l := rfl

theorem marksDiffer_iff (before s : State) (l : AvLane) : before.marksDiffer s l = true ↔
    before.lowMark l ≠ s.lowMark l ∨ before.highMark l ≠ s.highMark l := by
  simp [State.marksDiffer]

/-- Settled leads, lane by lane (R42). -/
theorem settleLeads_outcome (before s : State) (l : AvLane) :
    (settleLeads before s).wanted = s.wanted ∧ (settleLeads before s).buffer = s.buffer ∧ (settleLeads before s).timeline = s.timeline ∧
    (leadRises before l s → (settleLeads before s).hold l = { s.hold l with
        lead := s.leadNow l, held := true, refresh := some (s.mgmt.limits.holdMs * 48) } ∧
      (s.link.state = .up → s.link.queue.length ≤ 58 →
        .hold l (s.holdTags l) s.mgmt.limits.holdMs ∈ (settleLeads before s).link.queue)) ∧
    (leadFalls l s → (settleLeads before s).hold l = { s.hold l with lead := s.leadNow l, held := false, refresh := none } ∧
      (s.link.state = .up → s.link.queue.length ≤ 58 → .hold l (s.holdTags l) 0 ∈ (settleLeads before s).link.queue)) ∧
    (¬ leadRises before l s → ¬ leadFalls l s → (settleLeads before s).hold l = { s.hold l with lead := s.leadNow l }) := by
  have hfrom := settleLeads_holdsFrom before s
  obtain ⟨hw, -, hb, -⟩ := hfrom.fields
  have htl : (settleLeads before s).timeline = s.timeline := by
    unfold holdsFrom at hfrom
    rw [hfrom]
  rw [settleLeads_hold, settledHold]
  refine ⟨hw, hb, htl, fun hr => ⟨if_pos hr, settleLeads_held_mem before l s hr⟩, fun hf => ?_, fun hr hf => ?_⟩
  · have hr : ¬ leadRises before l s := fun hr => not_falls_of_rises before l s hr hf
    exact ⟨(if_neg hr).trans (if_pos hf), settleLeads_opened_mem before l s hr hf⟩
  · exact (if_neg hr).trans (if_neg hf)

/-- Settles O19: pace values and settled leads read off their definitions, and the instants off their parts. -/
theorem paceFollowsOutcome : Obligations.PaceFollowsOutcome := by
  intro s l
  have hmissing : ((paceOutcome l true s).hold l).pace = 31 := by rw [paceOutcome_hold, if_pos rfl]; rfl
  have hgood : ((paceOutcome l false s).hold l).pace = (s.hold l).pace - 1 := by rw [paceOutcome_hold, if_pos rfl]; rfl
  refine ⟨hmissing, hgood, fun m hm b => (paceOutcome_hold l m b s).trans (if_neg hm), ?_, fun hpace => ?_, fun before => ?_,
    fun k u row hrow => ⟨⟨soundMoved k u row s, ?_, ?_, (soundMoved_holdsKept k u row s).tags,
      fun a => ⟨(soundMoved_holdsKept k u row s).held a, (soundMoved_holdsKept k u row s).lead a⟩⟩,
      ⟨pictureMoved k u row s, releaseUnit_eq k u row s, ?_, (pictureMoved_holdsKept k u row s).tags,
        fun a => ⟨(pictureMoved_holdsKept k u row s).held a, (pictureMoved_holdsKept k u row s).lead a⟩⟩⟩⟩
  · rw [effLow_eq, hmissing, if_neg (by decide)]
    rfl
  · rw [effLow_eq, hgood, if_pos (by omega)]
    rfl
  · dsimp only
    rw [← marksDiffer_iff]
    exact settleLeads_outcome before s l
  · exact soundInstant_of_row k u row s hrow
  · rw [soundMoved_sound]
  · rw [pictureMoved_timeline]

end Sys2Proof.Machine

/-! PROOF. A sound boundary with a staged delay, the units that a jump of X passes, and the sound instant as a command (R96, R101 to R103). -/

namespace Sys2Proof.Machine

/-! ## The instant's sound -/

section

variable {k u : Nat} {row : ReelRow} {s : State}

theorem soundInstant_lane (h : s.row k = some row) : LaneFrom (soundMoved k u row s) (soundInstant k u s) := by
  rw [soundInstant_of_row k u row s h]
  exact closeInstant_lane s _

/-- The Sound Router behind an instant (R94). -/
theorem soundInstant_sound (h : s.row k = some row) : (soundInstant k u s).sound = (soundMoved k u row s).sound := by
  rw [(soundInstant_lane h).frame]

/-- What an instant leaves alone. -/
theorem soundInstant_kept (h : s.row k = some row) : (soundInstant k u s).timeline = s.timeline ∧ (soundInstant k u s).picture = s.picture ∧
    (soundInstant k u s).mgmt = s.mgmt ∧ (soundInstant k u s).store = s.store := by
  obtain ⟨-, -, -, -, -, -, htl, hpic, -, -, -, hstore, hmgmt, -⟩ := (contentFrom_of_lane (soundInstant_lane (u := u) h)).fields
  obtain ⟨htl', hpic', hmgmt', hstore'⟩ := soundMoved_kept k u row s
  exact ⟨htl.trans htl', hpic.trans hpic', hmgmt.trans hmgmt', hstore.trans hstore'⟩

end

/-! ## What keeps the delays -/

/-- The timeline and the delays are kept. -/
structure DelaysKept (s t : State) : Prop where
  timeline : t.timeline = s.timeline
  live : t.sound.live = s.sound.live
  staged : t.sound.staged = s.sound.staged
  pending : t.sound.pending = s.sound.pending

theorem delaysKept_refl (s : State) : DelaysKept s s := ⟨rfl, rfl, rfl, rfl⟩

theorem delaysKept_trans {s t u : State} (h : DelaysKept s t) (h' : DelaysKept t u) : DelaysKept s u :=
  ⟨h'.timeline.trans h.timeline, h'.live.trans h.live, h'.staged.trans h.staged, h'.pending.trans h.pending⟩

theorem enterSoundReel_delays (k : Nat) (r : Reel) (s : State) : DelaysKept s (enterSoundReel k r s) := by
  by_cases h : s.sound.reel = some k ∨ r.sounds = []
  · rw [enterSoundReel_of_kept k s h]; exact delaysKept_refl s
  · rw [enterSoundReel_of_new k s h]; exact ⟨rfl, rfl, rfl, rfl⟩

theorem soundInstant_delays (k u : Nat) (s : State) : DelaysKept s (soundInstant k u s) := by
  cases hrow : s.row k with
  | none =>
    have heq : soundInstant k u s = s := by rw [soundInstant, hrow]
    rw [heq]
    exact delaysKept_refl s
  | some row =>
    have hentered := enterSoundReel_delays k row.reel s
    refine ⟨(soundInstant_kept hrow).1, ?_, ?_, ?_⟩
    · rw [soundInstant_sound hrow, soundMoved_sound]; exact hentered.live
    · rw [soundInstant_sound hrow, soundMoved_sound]; exact hentered.staged
    · rw [soundInstant_sound hrow, soundMoved_sound]; exact hentered.pending

/-! ## Passing units -/

section

variable (s : State)

theorem passLane_stock (passed : List UnitRef) (i : Fin 4) : StockFrom s (passLane passed s i) := by
  unfold passLane
  split
  · exact stockFrom_refl s
  · exact stockFrom_trans (deadline_stock (avToLane_not_text (.snd i)) _ _ s) (dropStaleHeads_stock _ _ _ _)

/-- The units before a position pass, and the cursor stands behind them (R96, R103). -/
theorem passSound_facts (x : Int) : (passSound x s).timeline = s.timeline ∧
    (passSound x s).sound = { s.sound with cursor := (s.passedBefore x skipFuel s.sound.cursor).2 } := by
  let v := fours.foldl (passLane (s.passedBefore x skipFuel s.sound.cursor).1) s
  have hpass : StockFrom s v := stockFrom_foldl (fun t i => passLane_stock t _ i) fours s
  have hlast : passSound x s = updateWanted (v.mapSound (fun d => { d with cursor := (s.passedBefore x skipFuel s.sound.cursor).2 })) := rfl
  obtain ⟨-, -, -, -, -, -, htl, -, hsnd, -⟩ := (contentFrom_of_stock hpass).fields
  obtain ⟨-, -, -, -, -, -, htl', -, hsnd', -⟩ := (contentFrom_of_stock (updateWanted_stock
    (v.mapSound (fun d => { d with cursor := (s.passedBefore x skipFuel s.sound.cursor).2 })))).fields
  rw [hlast]
  refine ⟨htl'.trans htl, hsnd'.trans ?_⟩
  change { v.sound with cursor := (s.passedBefore x skipFuel s.sound.cursor).2 } = _
  rw [hsnd]

theorem passSound_delays (x : Int) : DelaysKept s (passSound x s) := by
  obtain ⟨htl, hs⟩ := passSound_facts s x
  exact ⟨htl, by rw [hs], by rw [hs], by rw [hs]⟩

theorem silenceLanes_delays : DelaysKept s (silenceLanes s) := ⟨rfl, rfl, rfl, rfl⟩

theorem skipSound_delays (x : Int) : DelaysKept s (skipSound x s) := by
  refine delaysKept_trans (passSound_delays s x) ?_
  unfold skipSound
  dsimp only
  split
  · split
    · exact soundInstant_delays _ _ _
    · exact silenceLanes_delays _
  · exact silenceLanes_delays _

/-- The unit that contains the new position begins (R96, R103). -/
theorem skipSound_of_cursor {x : Int} {c : UnitRef} {row : ReelRow} (hc : (s.passedBefore x skipFuel s.sound.cursor).2 = some c)
    (hrow : s.row c.reel = some row) (hx : (row.instant c.unit : Int) ≤ x) :
    skipSound x s = soundInstant c.reel c.unit (passSound x s) := by
  obtain ⟨htl, hs⟩ := passSound_facts s x
  have hcursor : (passSound x s).sound.cursor = some c := by rw [hs]; exact hc
  have hrow' : (passSound x s).row c.reel = some row := (row_congr (by rw [htl]) _).trans hrow
  unfold skipSound
  simp only [hcursor, Option.bind_some, hrow', Option.map_some]
  exact if_pos hx

end

/-! ## The units of one reel -/

section

variable {s : State} {k : Nat} {row : ReelRow}

theorem instant_succ {v : Nat} (h : row.reel.entry ≤ v) : row.instant (v + 1) = row.instant v + row.reel.ticks := by
  unfold ReelRow.instant
  have hsub : v + 1 - row.reel.entry = (v - row.reel.entry) + 1 := by omega
  rw [hsub, Nat.add_mul, Nat.one_mul, Nat.add_assoc]

theorem instant_le {v n : Nat} (h : row.reel.entry ≤ v) : row.instant v ≤ row.instant (v + n) := by
  unfold ReelRow.instant
  exact Nat.add_le_add_left (Nat.mul_le_mul_right _ (by omega)) _

theorem unitAfter_inside (hrow : s.row k = some row) {v : Nat} (h : v + 1 < row.reel.dur) :
    s.unitAfter k v = some { reel := k, unit := v + 1 } := by
  simp only [State.unitAfter, hrow, if_pos h]

/-- The cursor behind the units of one reel that lie before a position (R103). -/
theorem passedBefore_inside (hrow : s.row k = some row) {x : Int} : ∀ (n v fuel : Nat), n < fuel → row.reel.entry ≤ v →
    v + n < row.reel.dur → (row.instant (v + n) : Int) ≤ x → x < (row.instant (v + n) : Int) + row.reel.ticks →
    (s.passedBefore x fuel (some { reel := k, unit := v })).2 = some { reel := k, unit := v + n }
  | 0, v, fuel + 1, _, _, _, _, hlast => by
    have hnot : ¬ ((row.instant v + row.reel.ticks : Nat) : Int) ≤ x := by
      rw [Nat.add_zero] at hlast
      push_cast
      omega
    simp only [State.passedBefore, hrow, if_neg hnot, Nat.add_zero]
  | n + 1, v, fuel + 1, hfuel, hentry, hdur, hfirst, hlast => by
    have hshift : v + (n + 1) = v + 1 + n := by omega
    rw [hshift] at hdur hfirst hlast ⊢
    have hpast : ((row.instant v + row.reel.ticks : Nat) : Int) ≤ x := by
      have hmono := instant_le (row := row) (v := v + 1) (n := n) (by omega)
      rw [← instant_succ hentry]
      omega
    have hrest := passedBefore_inside hrow n (v + 1) fuel (by omega) (by omega) hdur hfirst hlast
    simp only [State.passedBefore, hrow, if_pos hpast, unitAfter_inside hrow (v := v) (by omega)]
    exact hrest

end

/-! ## A staged delay at a boundary -/

section

variable (s : State)

/-- The staged delay live, with the offset moved (R101, R102). -/
def shiftedLive (shift : Int) (s : State) : State := (makeLive s).mapSound (fun d => { d with offset := d.offset + shift })

theorem makeLive_eq : makeLive s = { s with
    sound := { s.sound with live := s.sound.staged, pending := false }, sync := (makeLive s).sync } := by
  unfold makeLive staleRecords
  dsimp only
  split
  · split <;> rfl
  · rfl

theorem shiftedLive_eq (shift : Int) : shiftedLive shift s = { s with
    sound := { s.sound with live := s.sound.staged, pending := false, offset := s.sound.offset + shift }, sync := (makeLive s).sync } := by
  unfold shiftedLive
  rw [makeLive_eq]
  rfl

/-- The shift in samples at a boundary of reel `k` (R102). -/
def State.shiftDelta (k : Nat) : Int := shiftSamples s.sound.staged (s.sampleTicksAt k) - shiftSamples s.sound.live (s.sampleTicksAt k)

theorem shiftSound_eq (k u : Nat) (row : ReelRow) : shiftSound k u row s =
    if 0 < s.shiftDelta k then silenceLanes (shiftedLive (s.shiftDelta k * s.sampleTicksAt k) s)
    else if s.shiftDelta k < 0 then
      skipSound ((row.instant u : Nat) - s.shiftDelta k * s.sampleTicksAt k) (shiftedLive (s.shiftDelta k * s.sampleTicksAt k) s)
    else soundInstant k u (shiftedLive (s.shiftDelta k * s.sampleTicksAt k) s) := rfl

/-- At a boundary the staged delay becomes live, and P stays (R101). -/
theorem shiftSound_delays (k u : Nat) (row : ReelRow) : DelaysKept (shiftedLive (s.shiftDelta k * s.sampleTicksAt k) s) (shiftSound k u row s) := by
  rw [shiftSound_eq]
  split
  · exact silenceLanes_delays _
  split
  · exact skipSound_delays _ _
  · exact soundInstant_delays _ _ _

end

end Sys2Proof.Machine

/-! PROOF. The samples on the sound outputs, and the obligation on sound instants (R93 to R103). -/

namespace Sys2Proof.Machine

/-! ## Samples -/

section

variable {s : State} {i : Fin 4} {output : Nat}

theorem soundOutput_of_silent (h : s.timeline.state ≠ .playing ∨ s.inGap = true) : s.soundOutput output = 0 := by
  refine if_neg fun h' => ?_
  obtain hs | hg := h
  · exact hs h'.1
  · rw [hg] at h'; cases h'.2

/-- In PLAYING outside a gap an output carries the saturated sum of the four lanes (R96, R99). -/
theorem soundOutput_of_playing (hstate : s.timeline.state = .playing) (hgap : s.inGap = false) :
    s.soundOutput output = max (-8388608) (min 8388607 (s.laneFeed 0 output + s.laneFeed 1 output + s.laneFeed 2 output + s.laneFeed 3 output)) := by
  rw [State.soundOutput, if_pos ⟨hstate, hgap⟩, saturate24]
  simp [fours, Int.add_assoc]

theorem laneFeed_of_none (h : s.sound.plays[i] = none ∨ s.sound.routing[i] = none) : s.laneFeed i output = 0 := by
  unfold State.laneFeed
  obtain h | h := h
  · simp only [h]
  · cases hp : s.sound.plays[i] <;> simp only [h]

theorem foldl_add_zero : ∀ (l : List Int), (∀ x ∈ l, x = 0) → l.foldl (· + ·) 0 = 0
  | [], _ => rfl
  | x :: l, h => by
    rw [List.foldl_cons, h x (List.mem_cons_self ..)]
    exact foldl_add_zero l fun y hy => h y (List.mem_cons_of_mem _ hy)

theorem laneFeed_of_silent {p : SoundPlay} (hp : s.sound.plays[i] = some p) (h : p.silent = true) : s.laneFeed i output = 0 := by
  unfold State.laneFeed
  cases hr : s.sound.routing[i] with
  | none => simp only [hp]
  | some routes =>
    simp only [hp]
    split
    · rfl
    split
    · rfl
    · refine foldl_add_zero _ fun x hx => ?_
      obtain ⟨r, -, rfl⟩ := List.mem_map.mp hx
      exact if_pos (.inl h)

/-- A lane with one route carries its channel's sample (R98). -/
theorem laneFeed_of_route {p : SoundPlay} {row : ReelRow} {channel : Nat} (hp : s.sound.plays[i] = some p) (hrow : s.row p.reel = some row)
    (hr : s.sound.routing[i] = some [{ lane := i, channel := channel, output := output }]) (hc : channel < p.channels)
    (h0 : 0 ≤ (s.timeline.p : Int) - s.sound.offset - (row.instant p.unit : Int))
    (h1 : (s.timeline.p : Int) - s.sound.offset - (row.instant p.unit : Int) < row.reel.ticks)
    (hcut : s.lastCut row p.unit ((s.timeline.p : Int) - s.sound.offset - (row.instant p.unit : Int)) = false) :
    s.laneFeed i output =
      p.sample (((s.timeline.p : Int) - s.sound.offset - (row.instant p.unit : Int)).toNat / row.reel.sampleTicks) channel := by
  have hinside : ¬ (s.soundPos - (row.instant p.unit : Nat) < 0 ∨ (row.reel.ticks : Int) ≤ s.soundPos - (row.instant p.unit : Nat) ∨
      s.lastCut row p.unit (s.soundPos - (row.instant p.unit : Nat)) = true) := by
    unfold State.soundPos
    rintro (h | h | h)
    · omega
    · omega
    · rw [hcut] at h; cases h
  unfold State.laneFeed
  simp only [hp, hr, hrow, if_neg hinside]
  simp [hc, State.soundPos]

end

/-! ## Passed units -/

/-- The unit that a lane asks a deadline for: the last of the passed whose reel names the lane (R103). -/
theorem lastOn_some {s : State} {i : Fin 4} {passed : List UnitRef} {u : UnitRef} (h : s.lastOn i passed = some u) :
    ∃ before after row, passed = before ++ u :: after ∧ s.row u.reel = some row ∧ .snd i ∈ row.reel.lanes ∧
      ∀ v ∈ after, ∀ r, s.row v.reel = some r → .snd i ∉ r.reel.lanes := by
  unfold State.lastOn at h
  rw [List.find?_eq_some_iff_append] at h
  obtain ⟨hu, as, bs, hsplit, has⟩ := h
  cases hrow : s.row u.reel with
  | none => rw [hrow] at hu; cases hu
  | some row =>
    rw [hrow] at hu
    refine ⟨bs.reverse, as.reverse, row, ?_, rfl, by simpa using hu, fun v hv r hr => ?_⟩
    · have hrev := congrArg List.reverse hsplit
      rw [List.reverse_reverse] at hrev
      rw [hrev]
      simp
    · have hnot := has v (List.mem_reverse.mp hv)
      rw [hr] at hnot
      simpa using hnot

/-! ## The command -/

section

variable {s : State} {c : UnitRef} {row : ReelRow}

/-- The offset at the instants of a reel (R93). -/
theorem offsetFor_eq (hrow : s.row c.reel = some row) : s.offsetFor c.reel =
    if s.sound.reel = some c.reel ∨ row.reel.sounds = [] then s.sound.offset
    else shiftSamples s.sound.live row.reel.sampleTicks * row.reel.sampleTicks := by
  simp only [State.offsetFor, hrow, List.isEmpty_iff]
  rfl

theorem enterSoundReel_offset (hrow : s.row c.reel = some row) : (enterSoundReel c.reel row.reel s).sound.offset = s.offsetFor c.reel := by
  rw [offsetFor_eq hrow]
  by_cases h : s.sound.reel = some c.reel ∨ row.reel.sounds = []
  · rw [enterSoundReel_of_kept _ s h, if_pos h]
  · rw [enterSoundReel_of_new _ s h, if_neg h]
    rfl

/-- X reaches the next sound instant (R94, R101). -/
theorem reachSound_of_row (hstate : s.timeline.state = .playing) (hc : s.sound.cursor = some c) (hrow : s.row c.reel = some row) :
    ∃ s1, s1 = reachTick ((row.instant c.unit : Int) + s.offsetFor c.reel).toNat s ∧
      reachSound s = settleLeads (takeSound c row s1) (takeSound c row s1) := by
  refine ⟨_, rfl, ?_⟩
  have htick : s.soundTick = some ((row.instant c.unit : Int) + s.offsetFor c.reel) := by
    simp only [State.soundTick, hc, Option.bind_some, hrow, Option.map_some]
  unfold reachSound
  simp only [hstate, hc, hrow, htick]
  rfl

end

end Sys2Proof.Machine

/-! PROOF. The obligation on sound instants (R93 to R103). -/

namespace Sys2Proof.Machine

section

variable {s : State} {c : UnitRef} {row : ReelRow}

/-- P at a tick that may have passed: what that leaves (R40, R42). -/
theorem reachTick_leaves (p : Nat) (s : State) : (reachTick p s).timeline = { s.timeline with p := max s.timeline.p p } ∧
    (reachTick p s).sound = s.sound ∧ (reachTick p s).picture = s.picture ∧ (reachTick p s).mgmt = s.mgmt ∧
    (reachTick p s).store = s.store ∧ (reachTick p s).slots = s.slots ∧ (reachTick p s).buffer = s.buffer ∧
    (reachTick p s).comps = s.comps ∧ (reachTick p s).clock = s.clock := by
  have h := reachTick_holdsFrom p s
  unfold holdsFrom at h
  rw [h]
  exact ⟨rfl, rfl, rfl, rfl, rfl, rfl, rfl, rfl, rfl⟩

theorem settleLeads_leaves (before s : State) : (settleLeads before s).timeline = s.timeline ∧ (settleLeads before s).sound = s.sound ∧
    (settleLeads before s).picture = s.picture ∧ (settleLeads before s).mgmt = s.mgmt ∧ (settleLeads before s).store = s.store := by
  have h := settleLeads_holdsFrom before s
  unfold holdsFrom at h
  rw [h]
  exact ⟨rfl, rfl, rfl, rfl, rfl⟩

/-- The Sound Router behind the command, no delay becoming live (R94, R96, R98). -/
theorem soundInstant_outcome (hrow : s.row c.reel = some row) :
    (soundInstant c.reel c.unit s).sound.cursor = s.unitAfter c.reel c.unit ∧
    (soundInstant c.reel c.unit s).sound.offset = s.offsetFor c.reel ∧
    (row.reel.sounds ≠ [] → (soundInstant c.reel c.unit s).sound.reel = some c.reel) ∧
    (∀ i, (∀ g ∈ row.reel.sounds, g.lane ≠ .snd i) → (soundInstant c.reel c.unit s).sound.plays[i] = none ∧
      joinsOnly (.snd i) s (soundInstant c.reel c.unit s)) ∧
    (s.sound.reel = some c.reel → (soundInstant c.reel c.unit s).sound.routing = s.sound.routing) ∧
    ((row.reel.sounds.map SoundGroup.lane).Nodup → ∀ g ∈ row.reel.sounds, ∀ i, g.lane = .snd i →
      (∃ p, (soundInstant c.reel c.unit s).sound.plays[i] = some p ∧ p.reel = c.reel ∧ p.unit = c.unit ∧ p.channels = g.channels) ∧
      (s.sound.reel ≠ some c.reel → (soundInstant c.reel c.unit s).sound.routing[i] = s.sound.maps[g.map]? ∧
        (soundInstant c.reel c.unit s).sound.hiRate = row.reel.hi)) := by
  have hsound := soundInstant_sound (u := c.unit) hrow
  have hmoved := soundMoved_sound c.reel c.unit row s
  have hcursor := congrArg Sound.cursor hmoved
  have hoffset := congrArg Sound.offset hmoved
  have hreel := congrArg Sound.reel hmoved
  have hrouting := congrArg Sound.routing hmoved
  have hrate := congrArg Sound.hiRate hmoved
  dsimp only at hcursor hoffset hreel hrouting hrate
  rw [hsound]
  refine ⟨hcursor, hoffset.trans (enterSoundReel_offset hrow), fun hne => ?_, fun i hi => ?_, fun hkept => ?_, fun hnodup g hg i hlane =>
    ⟨soundMoved_plays c.reel c.unit row s hnodup hg hlane, fun hnew => ?_⟩⟩
  · rw [hreel]
    by_cases h : s.sound.reel = some c.reel ∨ row.reel.sounds = []
    · rw [enterSoundReel_of_kept _ s h]
      exact h.resolve_right hne
    · rw [enterSoundReel_of_new _ s h]
  · obtain ⟨hplays, hqueue, hslots⟩ := soundMoved_other c.reel c.unit row s hi
    refine ⟨hplays, ?_⟩
    rw [soundInstant_of_row c.reel c.unit row s hrow]
    exact joinsOnly_trans (joinsOnly_of_eq hqueue hslots) (closeInstant_joinsOnly (.snd i) s _)
  · rw [hrouting, enterSoundReel_of_kept _ s (.inl hkept)]
  · have hnot : ¬ (s.sound.reel = some c.reel ∨ row.reel.sounds = []) := by
      rintro (h | h)
      · exact hnew h
      · rw [h] at hg; cases hg
    rw [hrouting, hrate, enterSoundReel_of_new _ s hnot]
    exact ⟨routedBy_group _ _ hnodup g hg hlane, rfl⟩

/-- What reading a later state finds of the sound at P's tick. -/
theorem offsetFor_congr {t : State} (ht : t.timeline.table = s.timeline.table) (hs : t.sound = s.sound) (k : Nat) :
    t.offsetFor k = s.offsetFor k := by
  rw [State.offsetFor, row_congr ht, hs]
  rfl

theorem sampleTicksAt_congr {t : State} (ht : t.timeline.table = s.timeline.table) (hs : t.sound.reel = s.sound.reel) (k : Nat) :
    t.sampleTicksAt k = s.sampleTicksAt k := by
  rw [State.sampleTicksAt, row_congr ht, hs]
  rfl

/-- A staged delay at a boundary: forward, nothing, or back (R101 to R103). -/
theorem shiftSound_outcome (hrow : s.row c.reel = some row) (hc : s.sound.cursor = some c) :
    (0 < s.shiftDelta c.reel → (shiftSound c.reel c.unit row s).sound.cursor = some c ∧
      (shiftSound c.reel c.unit row s).sound.offset = s.sound.offset + s.shiftDelta c.reel * s.sampleTicksAt c.reel ∧
      (shiftSound c.reel c.unit row s).sound.plays = Vector.replicate 4 none) ∧
    (s.shiftDelta c.reel = 0 → (shiftSound c.reel c.unit row s).sound.cursor = s.unitAfter c.reel c.unit) ∧
    (∀ n : Nat, s.shiftDelta c.reel < 0 → n < 64 → row.reel.entry ≤ c.unit → c.unit + n < row.reel.dur → s.sound.reel = some c.reel →
      (row.instant (c.unit + n) : Int) ≤ (row.instant c.unit : Int) - s.shiftDelta c.reel * s.sampleTicksAt c.reel →
      (row.instant c.unit : Int) - s.shiftDelta c.reel * s.sampleTicksAt c.reel <
        (row.instant (c.unit + n) : Int) + row.reel.ticks →
      (shiftSound c.reel c.unit row s).sound.cursor = s.unitAfter c.reel (c.unit + n) ∧
      (shiftSound c.reel c.unit row s).sound.offset = s.sound.offset + s.shiftDelta c.reel * s.sampleTicksAt c.reel) := by
  have hlive := shiftedLive_eq s (s.shiftDelta c.reel * s.sampleTicksAt c.reel)
  generalize hw : shiftedLive (s.shiftDelta c.reel * s.sampleTicksAt c.reel) s = w at hlive
  have htable : w.timeline = s.timeline := by rw [hlive]
  have hwsound : w.sound = { s.sound with
      live := s.sound.staged, pending := false, offset := s.sound.offset + s.shiftDelta c.reel * s.sampleTicksAt c.reel } := by
    rw [hlive]
  have hwrow : w.row c.reel = some row := (row_congr (by rw [htable]) _).trans hrow
  have hwafter : ∀ v, w.unitAfter c.reel v = s.unitAfter c.reel v := fun v => unitAfter_congr (by rw [htable]) _ _
  rw [shiftSound_eq, hw]
  refine ⟨fun hpos => ?_, fun hzero => ?_, fun n hneg hn hentry hdur hplaying hfirst hlast => ?_⟩
  · rw [if_pos hpos]
    refine ⟨?_, ?_, rfl⟩
    · change w.sound.cursor = _
      rw [hwsound]
      exact hc
    · change w.sound.offset = _
      rw [hwsound]
  · rw [if_neg (by omega), if_neg (by omega), (soundInstant_outcome hwrow).1, hwafter]
  · rw [if_neg (by omega), if_pos hneg]
    have hcursor : (w.passedBefore ((row.instant c.unit : Nat) - s.shiftDelta c.reel * s.sampleTicksAt c.reel) skipFuel w.sound.cursor).2 =
        some { reel := c.reel, unit := c.unit + n } := by
      have hcw : w.sound.cursor = some c := by rw [hwsound]; exact hc
      rw [hcw]
      exact passedBefore_inside hwrow n c.unit skipFuel hn hentry hdur hfirst hlast
    rw [skipSound_of_cursor w hcursor hwrow hfirst]
    obtain ⟨hptl, hpsound⟩ := passSound_facts w ((row.instant c.unit : Nat) - s.shiftDelta c.reel * s.sampleTicksAt c.reel)
    have hprow : (passSound ((row.instant c.unit : Nat) - s.shiftDelta c.reel * s.sampleTicksAt c.reel) w).row c.reel = some row :=
      (row_congr (by rw [hptl]) _).trans hwrow
    obtain ⟨h1, h2, -⟩ := soundInstant_outcome (c := { reel := c.reel, unit := c.unit + n }) hprow
    refine ⟨h1.trans ((unitAfter_congr (by rw [hptl]) _ _).trans (hwafter _)), h2.trans ?_⟩
    rw [offsetFor_eq hprow, if_pos (.inl (by rw [hpsound, hwsound]; exact hplaying)), hpsound, hwsound]

end

/-- Settles O48, by what follows the tick that P reaches: the instant, or the boundary with its staged delay. -/
theorem soundInstantTaken : Obligations.SoundInstantTaken := by
  refine ⟨fun s c row hrun hstate hc hrow => ?command, fun s i passed => ⟨fun h => ?_, fun u hu => ⟨?_, lastOn_some hu⟩⟩,
    fun k u r s g i hlane => ?group, fun s output => ⟨soundOutput_of_silent, soundOutput_of_playing, fun h => ?silent,
      fun i => laneFeed_of_none, fun i p row channel hp hrow hr hch h0 h1 hcut => laneFeed_of_route hp hrow hr hch h0 h1 hcut⟩⟩
  case command =>
    intro A tick
    obtain ⟨s1, hs1, hreach⟩ := reachSound_of_row hstate hc hrow
    have hA : s.offsetFor c.reel = A := offsetFor_eq hrow
    rw [hA] at hs1
    obtain ⟨htl, hsound, hpic, hmgmt, hstore, hslots, hbuffer, -⟩ := reachTick_leaves tick s
    rw [← hs1] at htl hsound hpic hmgmt hstore hslots hbuffer
    have hexec : exec .soundReleaseInstant s = .next (settleLeads (takeSound c row s1) (takeSound c row s1)) :=
      (next_running hrun reachSound).trans (congrArg Host.Outcome.next hreach)
    have hrow1 : s1.row c.reel = some row := (row_congr (by rw [htl]) _).trans hrow
    have hafter : ∀ v, s1.unitAfter c.reel v = s.unitAfter c.reel v := fun v => unitAfter_congr (by rw [htl]) _ _
    have hgap : s1.inGap = s.inGap := by rw [State.inGap, htl]; rfl
    have hoffset : s1.offsetFor c.reel = A := (offsetFor_congr (by rw [htl]) hsound _).trans hA
    refine ⟨fun hplain => ?plain, fun hpending hnotgap => ?shift⟩
    case plain =>
      have htake : takeSound c row s1 = soundInstant c.reel c.unit s1 := by
        refine if_neg fun h => ?_
        rw [hsound, hgap] at h
        obtain hp | hg := hplain
        · rw [hp] at h; cases h.1
        · rw [hg] at h; cases h.2
      rw [htake] at hexec
      obtain ⟨hltl, hlsound, hlpic, hlmgmt, hlstore⟩ := settleLeads_leaves (soundInstant c.reel c.unit s1) (soundInstant c.reel c.unit s1)
      obtain ⟨hktl, hkpic, hkmgmt, hkstore⟩ := soundInstant_kept (u := c.unit) hrow1
      obtain ⟨hcursor, hoff, hreel, hother, hrouting, hgroups⟩ := soundInstant_outcome hrow1
      have hdelays := soundInstant_delays c.reel c.unit s1
      refine ⟨_, hexec, ?_⟩
      rw [hlsound, hltl, hktl, htl]
      refine ⟨hcursor.trans (hafter _), hdelays.live.trans (by rw [hsound]), hdelays.staged.trans (by rw [hsound]),
        hdelays.pending.trans (by rw [hsound]), hoff.trans hoffset, rfl, rfl, hlpic.trans (hkpic.trans hpic),
        hlmgmt.trans (hkmgmt.trans hmgmt), hlstore.trans (hkstore.trans hstore), hreel, fun i hi => ?_, fun hkept => ?_,
        fun hnodup g hg i hl => ?_⟩
      · obtain ⟨hplays, hjoins⟩ := hother i hi
        have hreached : joinsOnly (.snd i) s s1 := joinsOnly_of_eq (queue_congr (by rw [hbuffer]) _) (laneSlots_congr hslots _)
        exact ⟨hplays, (joinsOnly_trans (joinsOnly_trans hreached hjoins) (settleLeads_joinsOnly _ _ _)).1⟩
      · rw [hrouting (by rw [hsound]; exact hkept), hsound]
      · rw [← hsound]
        exact hgroups hnodup g hg i hl
    case shift =>
      have htake : takeSound c row s1 = shiftSound c.reel c.unit row s1 :=
        if_pos ⟨by rw [hsound]; exact hpending, hgap.trans hnotgap⟩
      rw [htake] at hexec
      obtain ⟨hltl, hlsound, -⟩ := settleLeads_leaves (shiftSound c.reel c.unit row s1) (shiftSound c.reel c.unit row s1)
      have hdelays := shiftSound_delays s1 c.reel c.unit row
      rw [shiftedLive_eq] at hdelays
      have hper : s1.sampleTicksAt c.reel = s.sampleTicksAt c.reel := sampleTicksAt_congr (by rw [htl]) (by rw [hsound]) _
      have hdelta : s1.shiftDelta c.reel = s.shiftDelta c.reel := by rw [State.shiftDelta, State.shiftDelta, hper, hsound]
      obtain ⟨hforward, hnone, hback⟩ := shiftSound_outcome hrow1 (by rw [hsound]; exact hc)
      rw [hdelta, hper, hsound] at hforward hback
      rw [hdelta, hafter] at hnone
      refine ⟨_, hexec, ?_⟩
      rw [hlsound, hltl]
      refine ⟨hdelays.live.trans (by rw [hsound]), hdelays.staged.trans (by rw [hsound]), hdelays.pending, ?_, ?_, hforward, hnone,
        fun n hneg hn hentry hdur hplaying hfirst hlast => ?_⟩
      · rw [hdelays.timeline, htl]
      · rw [hdelays.timeline, htl]
      · rw [← hafter]
        exact hback n hneg hn hentry hdur hplaying hfirst hlast
  case group =>
    intro due sounding t
    obtain ⟨hqueue, -, hplays⟩ := takeGroup_reads k u r s hlane
    obtain ⟨hr, hu, hch, hsilent, hcontent⟩ := soundPlay_facts k u r due.2 g due.1
    have hpolicy : due.2.mgmt = s.mgmt := by
      obtain ⟨-, -, -, -, -, -, -, -, -, -, -, -, hm, -⟩ := (contentFrom_of_stock (soundAsked_stock k u s i)).fields
      exact hm
    rw [hpolicy] at hsilent
    refine ⟨hqueue _, ⟨_, ?_, hr, hu, hch, hsilent, hcontent⟩, fun h => takeGroup_sounding k u r s hlane (hsilent.mpr h), fun h => ?_⟩
    · rw [hplays]
      simp only [Fin.getElem_fin, Vector.getElem_set_self]
      rfl
    · refine takeGroup_silent k u r s hlane ?_
      rw [← Bool.not_eq_false]
      exact fun h' => h (hsilent.mp h')
  case silent =>
    by_cases hplaying : s.timeline.state = .playing ∧ s.inGap = false
    · have hzero : ∀ i, s.laneFeed i output = 0 := fun i => by
        cases hp : s.sound.plays[i] with
        | none => exact laneFeed_of_none (.inl hp)
        | some p => exact laneFeed_of_silent hp (h i p hp)
      rw [soundOutput_of_playing hplaying.1 hplaying.2, hzero, hzero, hzero, hzero]
      decide
    · refine soundOutput_of_silent ?_
      by_cases hs : s.timeline.state = .playing
      · exact .inr (by simpa [hs] using hplaying)
      · exact .inl hs
  · rw [passLane, h]
  · rw [passLane, hu]

end Sys2Proof.Machine

/-! PROOF. The showing states PAUSED, STALLED and PLAYING: their entries, and what playing on from where P holds leaves (R80 to R87). -/

namespace Sys2Proof.Machine

/-! ## Entries -/

/-- Entry to a showing state changes the state and FRAME, beside what reaches the Event Table (R104, R154). -/
theorem enterState_reports (st : ShowState) (s : State) : ∃ frame, reportsFrom { s with
    timeline := { s.timeline with state := st }, sync := { s.sync with frame := frame } } (enterState st s) := by
  obtain ⟨frame, h⟩ := enterState_eq st s
  refine ⟨frame, ?_⟩
  rw [h]
  exact fireTrigger_reports _ _

/-- The resume lead rests on cursor, reel table, wanted set, queues, holds and limits alone (R40, R41). -/
theorem leadMet_congr {s t : State} (ht : t.timeline.table = s.timeline.table) (hc : t.timeline.cursor = s.timeline.cursor)
    (hs : t.sound.cursor = s.sound.cursor) (hw : t.wanted = s.wanted) (hb : t.buffer = s.buffer) (hh : t.holds = s.holds) (need : Nat) :
    t.leadMet need = s.leadMet need := by
  have hreaches : ∀ l k dur, t.runReaches l k dur = s.runReaches l k dur := fun l k dur => by
    rw [State.runReaches, run_congr ht hc hs hw (by rw [hb])]
    rfl
  simp only [State.leadMet, hc, row_congr ht, hold_congr hh, hreaches]

theorem resumeMet_congr {s t : State} (ht : t.timeline.table = s.timeline.table) (hc : t.timeline.cursor = s.timeline.cursor)
    (hs : t.sound.cursor = s.sound.cursor) (hw : t.wanted = s.wanted) (hb : t.buffer = s.buffer) (hh : t.holds = s.holds)
    (hm : t.mgmt = s.mgmt) : t.resumeMet = s.resumeMet := by
  rw [State.resumeMet, leadMet_congr ht hc hs hw hb hh, hm]
  rfl

theorem resumeMet_of_reports {s t : State} {tl : Timeline} {p : PictureOut} {y : Sync} {h : Schedule}
    (hr : reportsFrom { s with timeline := tl, picture := p, sync := y, schedule := h } t) (ht : tl.table = s.timeline.table)
    (hc : tl.cursor = s.timeline.cursor) : t.resumeMet = s.resumeMet := by
  unfold reportsFrom at hr
  refine resumeMet_congr ?_ ?_ ?_ ?_ ?_ ?_ ?_
  · rw [hr]; exact ht
  · rw [hr]; exact hc
  all_goals rw [hr]

theorem acceptCommand_resumeMet (s : State) : (acceptCommand s).resumeMet = s.resumeMet :=
  resumeMet_of_reports (acceptCommand_reports s) rfl rfl

section

variable (s : State)

/-- Entry to PAUSED (R84, R86). -/
theorem enterPaused_facts (why : PauseReason) (timer : Option Nat) :
    (enterPaused why timer s).timeline = { s.timeline with
      state := .paused, pausePending := false, pauseReason := some why, stallTimer := none, intermission := timer } ∧
    reportsFrom { s with
      timeline := (enterPaused why timer s).timeline, picture := (enterPaused why timer s).picture,
      sync := (enterPaused why timer s).sync } (enterPaused why timer s) ∧
    ∀ k, k ≠ .actionOverflow → (enterPaused why timer s).event k = s.event k := by
  refine ⟨enterState_timeline _ _, ?_, fun k hk => enterState_event _ _ hk⟩
  obtain ⟨frame, h⟩ := enterState_reports .paused ((s.mapTimeline (fun t => { t with
    pausePending := false, pauseReason := some why, stallTimer := none, intermission := timer })).mapPicture
      (fun p => { p with resend := some (p.resend.getD 0) }))
  have htl := h.timeline_eq
  have hpic := h.picture_eq
  have hsync := h.sync_eq
  unfold enterPaused
  rw [htl, hpic, hsync]
  exact h

/-- STALLED entered, before the resume lead is looked at (R82). -/
def stalledEntry : State :=
  enterState .stalled (assertEvent .stall ((s.mapTimeline (fun t => { t with
    stallTimer := some 0, stalls := satAdd 65535 1 t.stalls, intermission := none, pauseReason := none })).mapPicture
      (fun p => { p with resend := some (p.resend.getD 0) })))

theorem stalledEntry_facts : (stalledEntry s).timeline = { s.timeline with
      state := .stalled, stallTimer := some 0, stalls := min 65535 (s.timeline.stalls + 1), intermission := none, pauseReason := none } ∧
    reportsFrom { s with
      timeline := (stalledEntry s).timeline, picture := (stalledEntry s).picture, sync := (stalledEntry s).sync } (stalledEntry s) ∧
    (stalledEntry s).isAsserted .stall = true := by
  have hassert := assertEvent_reports .stall ((s.mapTimeline (fun t => { t with
    stallTimer := some 0, stalls := satAdd 65535 1 t.stalls, intermission := none, pauseReason := none })).mapPicture
      (fun p => { p with resend := some (p.resend.getD 0) }))
  have hlevel := isAsserted_assertEvent ((s.mapTimeline (fun t => { t with
    stallTimer := some 0, stalls := satAdd 65535 1 t.stalls, intermission := none, pauseReason := none })).mapPicture
      (fun p => { p with resend := some (p.resend.getD 0) })) .stall
  unfold stalledEntry
  generalize assertEvent .stall _ = v at hassert hlevel ⊢
  have htl := hassert.timeline_eq
  obtain ⟨frame, h⟩ := enterState_reports .stalled v
  have hetl := h.timeline_eq
  have hpic := h.picture_eq
  have hsync := h.sync_eq
  refine ⟨?_, ?_, ?_⟩
  · rw [enterState_timeline, htl]
    rfl
  · refine reportsFrom_trans ?_ h
    rw [hetl, hpic, hsync]
    unfold reportsFrom at hassert ⊢
    rw [hassert]
    rfl
  · rw [State.isAsserted, enterState_event _ _ (by decide)]
    exact hlevel

theorem stalledEntry_resumeMet : (stalledEntry s).resumeMet = s.resumeMet := by
  obtain ⟨htl, hreports, -⟩ := stalledEntry_facts s
  exact resumeMet_of_reports hreports (by rw [htl]) (by rw [htl])

theorem enterStalled_of_not_met (h : s.resumeMet = false) : enterStalled s = stalledEntry s := by
  have hnot := (stalledEntry_resumeMet s).trans h
  exact if_neg fun hmet => Bool.false_ne_true (hnot.symm.trans hmet)

theorem enterStalled_of_met (h : s.resumeMet = true) : enterStalled s = resumePlaying (stalledEntry s) :=
  if_pos ((stalledEntry_resumeMet s).trans h)

/-- PLAYING entered from PAUSED or STALLED, before the showing goes on (R83, R85). -/
def playingEntry : State :=
  enterState .playing (deassertEvent .stall ((s.mapTimeline (fun t => { t with
    missing := 0, stallTimer := none, intermission := none, pauseReason := none })).mapPicture (fun p => { p with resend := none })))

theorem resumePlaying_eq : resumePlaying s = continueAt (playingEntry s) := rfl

theorem playingEntry_facts : (playingEntry s).timeline = { s.timeline with
      state := .playing, missing := 0, stallTimer := none, intermission := none, pauseReason := none } ∧
    reportsFrom { s with
      timeline := (playingEntry s).timeline, picture := (playingEntry s).picture, sync := (playingEntry s).sync } (playingEntry s) ∧
    (playingEntry s).isAsserted .stall = false := by
  have hdeassert := deassertEvent_reports .stall ((s.mapTimeline (fun t => { t with
    missing := 0, stallTimer := none, intermission := none, pauseReason := none })).mapPicture (fun p => { p with resend := none }))
  have hlevel := isAsserted_deassertEvent ((s.mapTimeline (fun t => { t with
    missing := 0, stallTimer := none, intermission := none, pauseReason := none })).mapPicture (fun p => { p with resend := none }))
    .stall (by decide)
  unfold playingEntry
  generalize deassertEvent .stall _ = v at hdeassert hlevel ⊢
  have htl := hdeassert.timeline_eq
  obtain ⟨frame, h⟩ := enterState_reports .playing v
  have hetl := h.timeline_eq
  have hpic := h.picture_eq
  have hsync := h.sync_eq
  refine ⟨?_, ?_, ?_⟩
  · rw [enterState_timeline, htl]
    rfl
  · refine reportsFrom_trans ?_ h
    rw [hetl, hpic, hsync]
    unfold reportsFrom at hdeassert ⊢
    rw [hdeassert]
    rfl
  · rw [State.isAsserted, enterState_event _ _ (by decide)]
    exact hlevel

end

end Sys2Proof.Machine

/-! PROOF. Playing on over instants and boundaries, and the obligation on resuming (R80, R83, R85, R87). -/

namespace Sys2Proof.Machine

/-- The showing plays on: its state, P and timers are kept, and slots, clock, store, management and sound. -/
structure PlayKept (u t : State) : Prop where
  timeline : t.timeline = { u.timeline with
    cursor := t.timeline.cursor, interval := t.timeline.interval, missing := t.timeline.missing, cleanRun := t.timeline.cleanRun,
    repeated := t.timeline.repeated, presented := t.timeline.presented }
  comps : t.comps = u.comps
  clock : t.clock = u.clock
  store : t.store = u.store
  mgmt : t.mgmt = u.mgmt
  sound : t.sound = u.sound
  stall : t.event .stall = u.event .stall

theorem playKept_refl (s : State) : PlayKept s s := ⟨rfl, rfl, rfl, rfl, rfl, rfl, rfl⟩

theorem playKept_trans {s t u : State} (h : PlayKept s t) (h' : PlayKept t u) : PlayKept s u := by
  refine ⟨?_, h'.comps.trans h.comps, h'.clock.trans h.clock, h'.store.trans h.store, h'.mgmt.trans h.mgmt, h'.sound.trans h.sound,
    h'.stall.trans h.stall⟩
  have ht := h.timeline
  have ht' := h'.timeline
  rw [ht'] at *
  rw [ht]

theorem playKept_ite {s t u : State} {p : Prop} [Decidable p] (h : PlayKept s t) (h' : PlayKept s u) :
    PlayKept s (if p then t else u) := by
  split <;> assumption

/-- Counting a presented unit leaves STALL. -/
theorem countFeature_stall (s : State) : (countFeature s).event .stall = s.event .stall := by
  unfold countFeature
  dsimp only
  split
  · split
    · rw [takeCharge_eq, event_occur_of_ne _ (by decide) (by decide), evaluateChanged, event_evaluateWarnings _ (by decide) (by decide) (by decide)]
      rfl
    · rfl
  · rfl

theorem releaseUnit_stall (k u : Nat) (row : ReelRow) (s : State) : (releaseUnit k u row s).event .stall = s.event .stall := by
  obtain ⟨hevent, hmarked⟩ := releaseUnit_event k u row s (j := .stall) (by decide) (by decide) (by decide) (by decide) (by decide) (by decide)
  rw [hevent, ← hmarked]
  unfold pictureCounted
  split
  · exact countFeature_stall _
  · rfl

theorem releaseUnit_play (k u : Nat) (row : ReelRow) (s : State) : PlayKept s (releaseUnit k u row s) := by
  obtain ⟨hcomps, hclock, hstore, hmgmt, hsound, -⟩ := releaseUnit_kept k u row s
  refine ⟨?_, hcomps, hclock, hstore, hmgmt, hsound, releaseUnit_stall k u row s⟩
  rw [releaseUnit_timeline]

theorem takeInstant_play (s : State) : PlayKept s (takeInstant s) := by
  cases hc : s.timeline.cursor with
  | none =>
    have heq : takeInstant s = s := by simp only [takeInstant, hc]
    rw [heq]; exact playKept_refl s
  | some c =>
    cases hrow : s.row c.reel with
    | none =>
      have heq : takeInstant s = s := by simp only [takeInstant, hc, hrow]
      rw [heq]; exact playKept_refl s
    | some row =>
      rw [takeInstant_of_row hc hrow]
      exact releaseUnit_play _ _ _ s

theorem retuneFrame_play (s : State) : PlayKept s (retuneFrame s) :=
  playKept_ite (playKept_refl s) ⟨rfl, rfl, rfl, rfl, rfl, rfl, rfl⟩

/-- The gap begins: its cursor, and nothing of what plays on (R80, R81). -/
theorem enterGap_play (next : ReelRow) (s : State) : PlayKept s (enterGap next s) := by
  let w := retuneFrame (({ s.mapTimeline (fun t => { t with cursor := t.cursor.map (fun c => { c with inGap := true }) }) with
    cues := { s.cues with overlay := none } } : State).mapPicture (fun p => { p with shown := none, overlay := some [] }))
  have hretuned : PlayKept s w := playKept_trans
    (t := ({ s.mapTimeline (fun t => { t with cursor := t.cursor.map (fun c => { c with inGap := true }) }) with
      cues := { s.cues with overlay := none } } : State).mapPicture (fun p => { p with shown := none, overlay := some [] }))
    ⟨rfl, rfl, rfl, rfl, rfl, rfl, rfl⟩ (retuneFrame_play _)
  have heq : enterGap next s = firePositions (fun t => decide (t < next.start)) w := rfl
  obtain ⟨hfire, hevents⟩ := firePositions_facts (fun t => decide (t < next.start)) w
  rw [heq]
  refine playKept_trans hretuned ⟨?_, hfire.comps_eq, hfire.clock_eq, hfire.store_eq, hfire.mgmt_eq, hfire.sound_eq, hevents _ (by decide)⟩
  rw [hfire.timeline_eq]

theorem crossBoundary_play (row next : ReelRow) (s : State) : PlayKept s (crossBoundary row next s) := by
  have hblack : PlayKept s (if formatsDiffer row.reel next.reel then s.mapPicture (fun p => { p with last := none }) else s) :=
    playKept_ite ⟨rfl, rfl, rfl, rfl, rfl, rfl, rfl⟩ (playKept_refl s)
  unfold crossBoundary
  dsimp only
  refine playKept_trans hblack (playKept_ite (enterGap_play next _) ?_)
  refine playKept_trans ?_ (takeInstant_play _)
  exact playKept_ite (playKept_refl _) ⟨rfl, rfl, rfl, rfl, rfl, rfl, rfl⟩

theorem continueAt_play (s : State) : PlayKept s (continueAt s) := by
  unfold continueAt
  split
  · exact playKept_refl s
  split
  · exact playKept_ite (crossBoundary_play _ _ s) (playKept_ite (takeInstant_play s) (playKept_refl s))
  · exact playKept_refl s

/-- PLAYING resumed from where P holds (R83, R85). -/
theorem resumePlaying_facts (s : State) : (resumePlaying s).timeline.state = .playing ∧ (resumePlaying s).timeline.intermission = none ∧
    (resumePlaying s).timeline.pauseReason = none ∧ (resumePlaying s).timeline.p = s.timeline.p ∧
    (resumePlaying s).timeline.stallTimer = none ∧ (resumePlaying s).timeline.stalls = s.timeline.stalls ∧
    (resumePlaying s).comps = s.comps ∧ (resumePlaying s).clock = s.clock ∧ (resumePlaying s).store = s.store ∧
    (resumePlaying s).mgmt = s.mgmt ∧ (resumePlaying s).sound = s.sound ∧ (resumePlaying s).isAsserted .stall = false := by
  obtain ⟨htl, hreports, hstall⟩ := playingEntry_facts s
  have hplay := continueAt_play (playingEntry s)
  rw [resumePlaying_eq]
  refine ⟨by rw [hplay.timeline, htl], by rw [hplay.timeline, htl], by rw [hplay.timeline, htl], by rw [hplay.timeline, htl],
    by rw [hplay.timeline, htl], by rw [hplay.timeline, htl], hplay.comps.trans hreports.comps_eq, hplay.clock.trans hreports.clock_eq,
    hplay.store.trans hreports.store_eq, hplay.mgmt.trans hreports.mgmt_eq, hplay.sound.trans hreports.sound_eq, ?_⟩
  rw [State.isAsserted, hplay.stall]
  exact hstall

/-! ## RESUME and the intermission's expiry -/

section

variable {s : State}

theorem exec_resume_of_paused (tag : Nat) (hserves : s.serves = true) (h : s.timeline.state = .paused) :
    exec (.resume tag) s = .next (reply 23 tag .nothing (resumeShowing (acceptCommand s))) := by
  refine (next_manage hserves 23 tag _).trans (congrArg Host.Outcome.next ?_)
  simp only [acceptCommand_timeline, h]

theorem exec_resume_of_not_paused (tag : Nat) (hserves : s.serves = true) (h : s.timeline.state ≠ .paused) :
    exec (.resume tag) s = .next (refuse 23 tag .badState (acceptCommand s)) := by
  refine (next_manage hserves 23 tag _).trans (congrArg Host.Outcome.next ?_)
  rw [acceptCommand_timeline]
  split
  · next hp => exact absurd hp h
  · rfl

theorem exec_intermissionExpiry (hrun : s.running = true) (h : s.timeline.state = .paused) (hi : s.timeline.intermission.isSome = true) :
    exec .intermissionExpiry s = .next (resumeShowing s) :=
  (next_running hrun expireIntermission).trans (congrArg Host.Outcome.next (if_pos ⟨h, hi⟩))

theorem resumeShowing_of_not_met (h : s.resumeMet = false) : resumeShowing s = stalledEntry s := by
  rw [resumeShowing, h, if_neg nofun, enterStalled_of_not_met s h]

theorem resumeShowing_of_met (h : s.resumeMet = true) : resumeShowing s = resumePlaying s := if_pos h

end

/-- Settles O39, by the resume lead: the entry to STALLED without it, and to PLAYING with it. -/
theorem resumeFollowsLead : Obligations.ResumeFollowsLead := by
  refine fun tag s => ⟨exec_resume_of_not_paused tag, fun hpaused hlead => ⟨fun hserves => ?_, fun hrun hi => ?_⟩,
    fun hpaused hlead => ⟨fun hserves => ?_, fun hrun hi => ?_⟩⟩
  · have haccept := acceptCommand_reports s
    obtain ⟨htl, hreports, hstall⟩ := stalledEntry_facts (acceptCommand s)
    rw [acceptCommand_timeline] at htl
    refine ⟨stalledEntry (acceptCommand s), ?_, ?_⟩
    · rw [exec_resume_of_paused tag hserves hpaused, resumeShowing_of_not_met ((acceptCommand_resumeMet s).trans hlead)]
    refine ⟨by rw [htl], by rw [htl], by rw [htl], by rw [htl], by rw [htl], by rw [htl], hstall, ?_⟩
    refine reportsFrom_trans ?_ hreports
    unfold reportsFrom at haccept ⊢
    rw [haccept]
  · obtain ⟨htl, hreports, hstall⟩ := stalledEntry_facts s
    refine ⟨stalledEntry s, ?_, by rw [htl], by rw [htl], by rw [htl], by rw [htl], by rw [htl], hstall, hreports⟩
    rw [exec_intermissionExpiry hrun hpaused hi, resumeShowing_of_not_met hlead]
  · have haccept := acceptCommand_reports s
    obtain ⟨hstate, hinter, hwhy, hp, -, -, hcomps, hclock, hstore, hmgmt, hsound, -⟩ := resumePlaying_facts (acceptCommand s)
    refine ⟨resumePlaying (acceptCommand s), ?_, hstate, hinter, hwhy, hp.trans (by rw [acceptCommand_timeline]),
      hcomps.trans haccept.comps_eq, hclock.trans haccept.clock_eq, hstore.trans haccept.store_eq, hmgmt.trans haccept.mgmt_eq,
      hsound.trans haccept.sound_eq⟩
    rw [exec_resume_of_paused tag hserves hpaused, resumeShowing_of_met ((acceptCommand_resumeMet s).trans hlead)]
  · obtain ⟨hstate, hinter, hwhy, hp, -, -, hcomps, hclock, hstore, hmgmt, hsound, -⟩ := resumePlaying_facts s
    refine ⟨resumePlaying s, ?_, hstate, hinter, hwhy, hp, hcomps, hclock, hstore, hmgmt, hsound⟩
    rw [exec_intermissionExpiry hrun hpaused hi, resumeShowing_of_met hlead]

end Sys2Proof.Machine

/-! PROOF. The ends of intervals, reels and gaps, and the obligations on them (R80 to R86). -/

namespace Sys2Proof.Machine

section

variable {s : State} {row next : ReelRow} {c : Cursor}

/-! ## Ends as commands -/

theorem exec_unitIntervalEnd {u : UnitRef} (hrun : s.running = true) (hstate : s.timeline.state = .playing)
    (hu : s.timeline.interval = some u) (hrow : s.row u.reel = some row) :
    exec .unitIntervalEnd s = .next (afterInterval u.reel u.unit row (reachTick (row.instant u.unit + row.reel.ticks) s)) := by
  refine (next_running hrun reachIntervalEnd).trans (congrArg Host.Outcome.next ?_)
  exact (if_pos hstate).trans (endInterval_of_interval hu hrow)

theorem inGap_of_cursor (h : s.timeline.cursor = some c) : s.inGap = c.inGap := by rw [State.inGap, h]; rfl

theorem exec_gapEnd (hrun : s.running = true) (hstate : s.timeline.state = .playing) (hc : s.timeline.cursor = some c)
    (hgap : c.inGap = true) : exec .gapEnd s = .next (endGap s) :=
  (next_running hrun reachGapEnd).trans (congrArg Host.Outcome.next (if_pos ⟨hstate, (inGap_of_cursor hc).trans hgap⟩))

theorem intervalEnded_inside {k u : Nat} (h : u + 1 < row.reel.dur) : intervalEnded k u row s = { s with
    timeline := { s.timeline with interval := none } } := by
  unfold intervalEnded
  rw [if_neg (by omega)]
  rfl

/-! ## FRAME -/

theorem frameMode_of_playing (hstate : s.timeline.state = .playing) : s.frameMode = if s.inGap then .off else .period := by
  rw [State.frameMode, hstate]

/-- The end of a reel leaves FRAME. -/
theorem reelEnds_frame (k : Nat) (s : State) : (reelEnds k s).sync.frame = s.sync.frame := by
  obtain ⟨-, -, -, -, -, -, -, -, -, hsync, -⟩ := (cueReelEnd_content k s).fields
  unfold reelEnds
  generalize cueReelEnd k s = v at hsync ⊢
  rw [← hsync]
  unfold checkReelEnd
  split
  · split
    · rfl
    · rw [finishCheck_sync]; rfl
  · rfl

theorem intervalEnded_frame (k u : Nat) (row : ReelRow) (s : State) : (intervalEnded k u row s).sync.frame = s.sync.frame := by
  unfold intervalEnded State.mapTimeline
  split
  · exact reelEnds_frame k s
  · rfl

/-- The gap begins: black with an empty overlay list, and FRAME is OFF (R80, R81, R108). -/
theorem enterGap_facts (hstate : s.timeline.state = .playing) (hc : s.timeline.cursor = some c) :
    (enterGap next s).timeline = { s.timeline with cursor := some { c with inGap := true } } ∧ (enterGap next s).picture.shown = none ∧
    (enterGap next s).picture.overlay = some [] ∧ (enterGap next s).picture.last = s.picture.last ∧ (enterGap next s).cues.overlay = none ∧
    (enterGap next s).sync.frame.mode = .off := by
  let v := ({ s.mapTimeline (fun t => { t with cursor := t.cursor.map (fun c => { c with inGap := true }) }) with
    cues := { s.cues with overlay := none } } : State).mapPicture (fun p => { p with shown := none, overlay := some [] })
  have hv : v = ({ s.mapTimeline (fun t => { t with cursor := t.cursor.map (fun c => { c with inGap := true }) }) with
    cues := { s.cues with overlay := none } } : State).mapPicture (fun p => { p with shown := none, overlay := some [] }) := rfl
  have heq : enterGap next s = firePositions (fun t => decide (t < next.start)) (retuneFrame v) := rfl
  have hretuned : retuneFrame v = { v with sync := (retuneFrame v).sync } := by
    unfold retuneFrame
    split <;> rfl
  have hvtl : v.timeline = { s.timeline with cursor := some { c with inGap := true } } := by
    rw [hv]
    simp only [State.mapPicture, State.mapTimeline, hc, Option.map_some]
  have hmode : (retuneFrame v).sync.frame.mode = .off := by
    have hoff : v.frameMode = .off := by
      rw [frameMode_of_playing (by rw [hvtl]; exact hstate), inGap_of_cursor (c := { c with inGap := true }) (by rw [hvtl])]
      rfl
    unfold retuneFrame
    split
    next h => exact h.trans hoff
    next => rw [hoff]; rfl
  obtain ⟨hfire, -⟩ := firePositions_facts (fun t => decide (t < next.start)) (retuneFrame v)
  rw [heq, hfire.timeline_eq, hfire.picture_eq, hfire.cues_eq, hfire.sync_eq]
  refine ⟨?_, ?_, ?_, ?_, ?_, hmode⟩ <;> dsimp only <;> rw [hretuned]
  · exact hvtl
  all_goals rfl

/-! ## Boundaries -/

/-- The picture goes black where the formats of two reels differ (R80). -/
def blackened (row next : ReelRow) (s : State) : State :=
  if formatsDiffer row.reel next.reel then s.mapPicture (fun p => { p with last := none }) else s

theorem blackened_eq (row next : ReelRow) (s : State) : blackened row next s = { s with picture := (blackened row next s).picture } := by
  unfold blackened
  split <;> rfl

theorem crossBoundary_of_gap (h : 0 < next.gap) : crossBoundary row next s = enterGap next (blackened row next s) := if_pos h

theorem crossBoundary_of_no_gap (h : next.gap = 0) : crossBoundary row next s = takeInstant
    (if row.reel.framePeriod = next.reel.framePeriod then blackened row next s else restartFrame (blackened row next s)) :=
  if_neg (by omega)

/-- A boundary without a gap: the next reel's first instant at once, FRAME following the expected periods (R80, R108). -/
theorem crossBoundary_instant (hstate : s.timeline.state = .playing) (hc : s.timeline.cursor = some c) (hgap : c.inGap = false)
    (hrow : s.row c.reel = some next) (h : next.gap = 0) :
    (crossBoundary row next s).timeline.interval = some { reel := c.reel, unit := c.unit } ∧
    (crossBoundary row next s).timeline.cursor = (s.unitAfter c.reel c.unit).map UnitRef.cursor ∧
    (crossBoundary row next s).sync.frame = (if row.reel.framePeriod = next.reel.framePeriod ∧
        (crossBoundary row next s).expectedPeriod = next.reel.framePeriod then s.sync.frame
      else { mode := .period, state := .waitFirst, count := .ticks 0, judged := false }) := by
  let v := if row.reel.framePeriod = next.reel.framePeriod then blackened row next s else restartFrame (blackened row next s)
  have hv : v = if row.reel.framePeriod = next.reel.framePeriod then blackened row next s else restartFrame (blackened row next s) := rfl
  have htl : v.timeline = s.timeline := by
    rw [hv]
    split
    · rw [blackened_eq]
    · rw [restartFrame, blackened_eq]; rfl
  have hmode : (blackened row next s).frameMode = .period := by
    have hbtl : (blackened row next s).timeline = s.timeline := by rw [blackened_eq]
    rw [frameMode_of_playing (by rw [hbtl]; exact hstate), inGap_of_cursor (c := c) (by rw [hbtl]; exact hc), hgap]
    rfl
  have hframe : v.sync.frame = if row.reel.framePeriod = next.reel.framePeriod then s.sync.frame
      else { mode := .period, state := .waitFirst, count := .ticks 0, judged := false } := by
    rw [hv]
    split
    · rw [blackened_eq]
    · rw [restartFrame, hmode]; rfl
  have hvrow : v.row c.reel = some next := (row_congr (by rw [htl]) _).trans hrow
  have hcross : crossBoundary row next s = releaseUnit c.reel c.unit next v := by
    rw [crossBoundary_of_no_gap h, ← hv, takeInstant_of_row (by rw [htl]; exact hc) hvrow]
  have hrelease := releaseUnit_timeline c.reel c.unit next v
  have hafter : v.unitAfter c.reel c.unit = s.unitAfter c.reel c.unit := unitAfter_congr (by rw [htl]) _ _
  rw [hcross, releaseUnit_frame _ _ _ _ (by rw [htl]; exact hstate), hframe]
  refine ⟨by rw [hrelease], by rw [hrelease, hafter], ?_⟩
  by_cases hp : row.reel.framePeriod = next.reel.framePeriod <;>
    by_cases he : (releaseUnit c.reel c.unit next v).expectedPeriod = next.reel.framePeriod <;> simp [hp, he]

/-- The gap's end: a pending pause, or the next reel's first instant (R80, R81). -/
theorem endGap_of_row (hc : s.timeline.cursor = some c) (hrow : s.row c.reel = some row) : endGap s =
    if s.timeline.pausePending then
      enterPaused .operator none ((reachTick row.start s).mapTimeline (fun t => { t with cursor := some { c with inGap := false } }))
    else takeInstant (retuneFrame ((reachTick row.start s).mapTimeline (fun t => { t with cursor := some { c with inGap := false } }))) := by
  obtain ⟨htl, -⟩ := reachTick_leaves row.start s
  have hpending : ((reachTick row.start s).mapTimeline (fun t => { t with cursor := some { c with inGap := false } })).timeline.pausePending =
      s.timeline.pausePending := by
    change (reachTick row.start s).timeline.pausePending = _
    rw [htl]
  rw [← hpending]
  simp only [endGap, hc, hrow]

/-- The gap's end with no pause pending takes the first instant of the reel (R80). -/
theorem endGap_instant (hc : s.timeline.cursor = some c) (hrow : s.row c.reel = some row) (hp : s.timeline.p ≤ row.start)
    (hpending : s.timeline.pausePending = false) :
    (endGap s).timeline.state = s.timeline.state ∧ (endGap s).timeline.pausePending = false ∧
    (endGap s).timeline.interval = some { reel := c.reel, unit := c.unit } ∧
    (endGap s).timeline.cursor = (s.unitAfter c.reel c.unit).map UnitRef.cursor ∧ (endGap s).timeline.p = row.start := by
  obtain ⟨hreach, -⟩ := reachTick_facts hp
  let v := (reachTick row.start s).mapTimeline (fun t => { t with cursor := some { c with inGap := false } })
  have hv : v = (reachTick row.start s).mapTimeline (fun t => { t with cursor := some { c with inGap := false } }) := rfl
  have hvtl : v.timeline = { s.timeline with p := row.start, cursor := some { c with inGap := false } } := by
    rw [hv, State.mapTimeline, hreach]
  have hrtl : (retuneFrame v).timeline = v.timeline := retuneFrame_timeline v
  have hvrow : (retuneFrame v).row c.reel = some row := (row_congr (by rw [hrtl, hvtl]) _).trans hrow
  have hinstant : takeInstant (retuneFrame v) = releaseUnit c.reel c.unit row (retuneFrame v) :=
    takeInstant_of_row (c := { c with inGap := false }) (by rw [hrtl, hvtl]) hvrow
  have hafter : (retuneFrame v).unitAfter c.reel c.unit = s.unitAfter c.reel c.unit := unitAfter_congr (by rw [hrtl, hvtl]) _ _
  have hrelease := releaseUnit_timeline c.reel c.unit row (retuneFrame v)
  rw [hafter, hrtl, hvtl] at hrelease
  rw [endGap_of_row hc hrow, hpending, if_neg nofun, ← hv, hinstant, hrelease]
  exact ⟨rfl, hpending, rfl, rfl, rfl⟩

end

end Sys2Proof.Machine

/-! PROOF. The obligations on the ends of intervals, reels and gaps, and on PAUSE (R80 to R86). -/

namespace Sys2Proof.Machine

section

variable {s : State} {row : ReelRow} {c : Cursor} {u : UnitRef}

/-! ## The end of a unit's interval inside a reel -/

/-- Inside a reel, with a pause pending: PAUSED (R84). -/
theorem afterInterval_pauses (hc : s.timeline.cursor = some c) (hin : u.unit + 1 < row.reel.dur) (hp : s.timeline.pausePending = true) :
    afterInterval u.reel u.unit row s = enterPaused .operator none { s with timeline := { s.timeline with interval := none } } := by
  rw [afterInterval_of_cursor hc, if_neg (by omega), if_pos hp, intervalEnded_inside hin]

/-- Inside a reel, with twelve missing releases: STALLED (R82). -/
theorem afterInterval_stalls (hc : s.timeline.cursor = some c) (hin : u.unit + 1 < row.reel.dur) (hp : s.timeline.pausePending = false)
    (hm : 12 ≤ s.timeline.missing) :
    afterInterval u.reel u.unit row s = enterStalled { s with timeline := { s.timeline with interval := none } } := by
  rw [afterInterval_of_cursor hc, if_neg (by omega), if_neg (by simp [hp]), if_pos hm, intervalEnded_inside hin]

/-- Inside a reel the showing plays on otherwise (R75). -/
theorem afterInterval_plays (hc : s.timeline.cursor = some c) (hin : u.unit + 1 < row.reel.dur) (hp : s.timeline.pausePending = false)
    (hm : s.timeline.missing < 12) : afterInterval u.reel u.unit row s = { s with timeline := { s.timeline with interval := none } } := by
  rw [afterInterval_of_cursor hc, if_neg (by omega), if_neg (by simp [hp]), if_neg (by omega), if_neg (by omega), intervalEnded_inside hin]

theorem row_pred_of_row {k : Nat} (h : s.row k = some row) : ∃ before, s.row (k - 1) = some before := by
  obtain ⟨hlt, -⟩ := List.getElem?_eq_some_iff.mp h
  exact ⟨s.timeline.table[k - 1], List.getElem?_eq_getElem (by omega)⟩

/-- The showing goes on inside a reel with the instant that P stands at (R83). -/
theorem continueAt_inside (hrow : s.row u.reel = some row) (hentry : row.reel.entry ≤ u.unit)
    (hc : s.timeline.cursor = some { reel := u.reel, unit := u.unit + 1, inGap := false })
    (hp : s.timeline.p = row.instant u.unit + row.reel.ticks) : continueAt s = releaseUnit u.reel (u.unit + 1) row s := by
  obtain ⟨before, hbefore⟩ := row_pred_of_row hrow
  have hnot : ¬ (0 < u.reel ∧ u.unit + 1 = row.reel.entry ∧ before.endTick = s.timeline.p) := by
    rintro ⟨-, h, -⟩
    omega
  have hat : row.instant (u.unit + 1) = s.timeline.p := by rw [instant_succ hentry, hp]
  have hinstant : takeInstant s = releaseUnit u.reel (u.unit + 1) row s :=
    takeInstant_of_row (c := { reel := u.reel, unit := u.unit + 1, inGap := false }) hc hrow
  rw [← hinstant]
  unfold continueAt
  simp only [hc, hbefore, hrow]
  rw [if_neg hnot, if_pos hat]

end

/-- Settles O45, by what the end of an interval inside a reel turns on: pause, missing releases and resume lead. -/
theorem unitIntervalEnds : Obligations.UnitIntervalEnds := by
  intro s u c row hrun hstate hu hc hrow hin hp s'
  have hexec := exec_unitIntervalEnd hrun hstate hu hrow
  obtain ⟨htl, -⟩ := reachTick_facts hp
  have hc' : s'.timeline.cursor = some c := by rw [htl]; exact hc
  let w : State := { s' with timeline := { s'.timeline with interval := none } }
  have hw : w = { s' with timeline := { s'.timeline with interval := none } } := rfl
  rw [← hw]
  have hwtl : w.timeline = { s.timeline with p := row.instant u.unit + row.reel.ticks, interval := none } := by
    rw [hw]
    dsimp only
    rw [htl]
  have hfrom : ∀ {t : State}, reportsFrom { w with timeline := t.timeline, picture := t.picture, sync := t.sync } t →
      reportsFrom { s' with timeline := t.timeline, sync := t.sync, picture := t.picture } t := id
  have hmet : w.resumeMet = s'.resumeMet := resumeMet_congr rfl rfl rfl rfl rfl rfl rfl
  refine ⟨fun hpending => ?_, fun hpending hmissing hlead => ?_, fun hpending hmissing hlead hentry hcu => ?_, fun hpending hmissing => ?_⟩
  · obtain ⟨hptl, hreports, -⟩ := enterPaused_facts w .operator none
    rw [hwtl] at hptl
    refine ⟨enterPaused .operator none w, ?_, by rw [hptl], by rw [hptl], by rw [hptl], by rw [hptl], by rw [hptl]; exact hc,
      by rw [hptl], hfrom hreports⟩
    rw [hexec, afterInterval_pauses hc' hin (by rw [htl]; exact hpending)]
  · obtain ⟨hstl, hreports, hstall⟩ := stalledEntry_facts w
    rw [hwtl] at hstl
    refine ⟨stalledEntry w, ?_, by rw [hstl], by rw [hstl], by rw [hstl], hstall, by rw [hstl], by rw [hstl]; exact hc, by rw [hstl],
      hfrom hreports⟩
    rw [hexec, afterInterval_stalls hc' hin (by rw [htl]; exact hpending) (by rw [htl]; exact hmissing),
      enterStalled_of_not_met w (hmet.trans hlead)]
  · obtain ⟨hstl, -, -⟩ := stalledEntry_facts w
    rw [hwtl] at hstl
    obtain ⟨hplaying, -, -, hpp, htimer, hstalls, -, -, -, -, -, hstall⟩ := resumePlaying_facts (stalledEntry w)
    obtain ⟨hetl, -, -⟩ := playingEntry_facts (stalledEntry w)
    rw [hstl] at hetl
    have hresume : resumePlaying (stalledEntry w) = releaseUnit u.reel (u.unit + 1) row (playingEntry (stalledEntry w)) := by
      rw [resumePlaying_eq]
      refine continueAt_inside ((row_congr (by rw [hetl]) _).trans hrow) hentry ?_ (by rw [hetl])
      rw [hetl]
      exact hc.trans (congrArg some hcu)
    refine ⟨resumePlaying (stalledEntry w), ?_, hplaying, htimer, hstalls.trans (by rw [hstl]), hstall, ?_, hpp.trans (by rw [hstl])⟩
    · rw [hexec, afterInterval_stalls hc' hin (by rw [htl]; exact hpending) (by rw [htl]; exact hmissing),
        enterStalled_of_met w (hmet.trans hlead)]
    · rw [hresume, releaseUnit_timeline]
  · rw [hexec, afterInterval_plays hc' hin (by rw [htl]; exact hpending) (by rw [htl]; exact hmissing)]

/-- Settles O46, by what a reel's end turns on: the reel's kind, the next reel's gap, and a pause at the gap's end. -/
theorem reelBoundaries : Obligations.ReelBoundaries := by
  refine ⟨fun s u c row next hrun hstate hu hc hrow hnext hlast hp => ?boundary, fun s c row hrun hstate hc hgap hrow hp => ?gap⟩
  case boundary =>
    have hexec := exec_unitIntervalEnd hrun hstate hu hrow
    obtain ⟨htl, hcontent, -⟩ := reachTick_facts hp
    generalize reachTick (row.instant u.unit + row.reel.ticks) s = s' at hexec htl hcontent
    have hframe' : s'.sync.frame = s.sync.frame := by
      obtain ⟨-, -, -, -, -, -, -, -, -, hsync, -⟩ := hcontent.fields
      rw [hsync]
    let w := intervalEnded u.reel u.unit row s'
    have hw : w = intervalEnded u.reel u.unit row s' := rfl
    have hwtl : w.timeline = { s.timeline with p := row.instant u.unit + row.reel.ticks, interval := none } := by
      rw [hw, intervalEnded_timeline, htl]
    have hwframe : w.sync.frame = s.sync.frame := (intervalEnded_frame _ _ _ _).trans hframe'
    have hwc : w.timeline.cursor = some c := by rw [hwtl]; exact hc
    have hwstate : w.timeline.state = .playing := by rw [hwtl]; exact hstate
    have hafter := afterInterval_of_cursor (k := u.reel) (u := u.unit) (row := row) (s := s') (c := c) (by rw [htl]; exact hc)
    have hrow' : s'.row c.reel = some next := (row_congr (by rw [htl]) _).trans hnext
    have hwrow : w.row c.reel = some next := (row_congr (by rw [hwtl]) _).trans hnext
    have hpending : s'.timeline.pausePending = s.timeline.pausePending := by rw [htl]
    have hmissing : s'.timeline.missing = s.timeline.missing := by rw [htl]
    rw [hpending, hmissing, hrow', Option.map_some, Option.getD_some, ← hw] at hafter
    have hcross : row.reel.kind ≠ .intermission → s.timeline.pausePending = false → s.timeline.missing < 12 →
        exec .unitIntervalEnd s = .next (crossBoundary row next w) := fun hkind hpause hmiss => by
      rw [hexec, hafter, if_neg (fun h => hkind h.2), if_neg (by simp [hpause]), if_neg (by omega), if_pos hlast]
    refine ⟨fun hkind => ?_, fun hkind hpause hmiss hgap => ?_, fun hkind hpause hmiss hgap hin => ?_⟩
    · rw [hexec, hafter, if_pos ⟨hlast, hkind⟩]
      cases hpause : s.timeline.pausePending with
      | true =>
        obtain ⟨hptl, -⟩ := enterPaused_facts w .operator none
        rw [hwtl] at hptl
        rw [if_pos rfl]
        refine ⟨_, rfl, by rw [hptl], by rw [hptl]; exact hc, by rw [hptl], by rw [hptl], by rw [hptl]; rfl, ?_⟩
        rw [hptl, if_neg (fun h => (nomatch h.1))]
      | false =>
        obtain ⟨hptl, -⟩ := enterPaused_facts w .intermission (if row.reel.hold = 0 then none else some (row.reel.hold * 96000))
        rw [hwtl] at hptl
        rw [if_neg nofun]
        refine ⟨_, rfl, by rw [hptl], by rw [hptl]; exact hc, by rw [hptl], by rw [hptl], by rw [hptl]; rfl, ?_⟩
        rw [hptl]
        by_cases hhold : row.reel.hold = 0 <;> simp [hhold]
    · have hbtl : (blackened row next w).timeline = w.timeline := by rw [blackened_eq]
      obtain ⟨hgtl, hshown, hoverlay, hlastp, hcues, hmode⟩ := enterGap_facts (next := next) (s := blackened row next w) (c := c)
        (by rw [hbtl]; exact hwstate) (by rw [hbtl]; exact hwc)
      rw [hbtl, hwtl] at hgtl
      refine ⟨enterGap next (blackened row next w), ?_, by rw [hgtl]; exact hstate, by rw [hgtl], by rw [hgtl], hshown, hoverlay, hcues,
        hmode, fun hdiffer => ?_⟩
      · rw [hcross hkind hpause hmiss, crossBoundary_of_gap hgap]
      · rw [hlastp, blackened, if_pos hdiffer]
        rfl
    · have hplay := crossBoundary_play row next w
      obtain ⟨hinterval, hcursor, hframe⟩ := crossBoundary_instant (row := row) hwstate hwc hin hwrow hgap
      refine ⟨crossBoundary row next w, hcross hkind hpause hmiss, by rw [hplay.timeline, hwtl]; exact hstate, hinterval,
        hcursor.trans (congrArg _ (unitAfter_congr (by rw [hwtl]) _ _)), by rw [hplay.timeline, hwtl], ?_⟩
      rw [hframe, hwframe]
  case gap =>
    have hexec := exec_gapEnd hrun hstate hc hgap
    obtain ⟨htl, -⟩ := reachTick_facts hp
    refine ⟨fun hpending => ?_, fun hpending => ?_⟩
    · rw [hexec, endGap_of_row hc hrow, if_pos hpending]
      obtain ⟨hptl, -⟩ := enterPaused_facts
        ((reachTick row.start s).mapTimeline (fun t => { t with cursor := some { c with inGap := false } })) .operator none
      rw [State.mapTimeline, htl] at hptl
      exact ⟨_, rfl, by rw [State.mapTimeline, htl, hptl], by rw [State.mapTimeline, htl, hptl], by rw [State.mapTimeline, htl, hptl],
        by rw [State.mapTimeline, htl, hptl], by rw [State.mapTimeline, htl, hptl]⟩
    · obtain ⟨h1, -, h3, h4, h5⟩ := endGap_instant hc hrow hp hpending
      exact ⟨endGap s, hexec, h1.trans hstate, h3, h4, h5⟩

end Sys2Proof.Machine

/-! PROOF. PAUSE (R84). -/

namespace Sys2Proof.Machine

theorem event_reply (code tag : Nat) (r : Results) (s : State) (k : EventKind) : (reply code tag r s).event k = s.event k := rfl

section

variable {s : State} {row : ReelRow} {c : Cursor}

theorem exec_pause_of_playing (tag : Nat) (hserves : s.serves = true) (h : s.timeline.state = .playing) :
    exec (.pause tag) s = .next (reply 22 tag .nothing
      ((atInstant (acceptCommand s)).mapTimeline (fun t => { t with pausePending := true }))) := by
  refine (next_manage hserves 22 tag _).trans (congrArg Host.Outcome.next ?_)
  simp only [acceptCommand_timeline, h]

theorem exec_pause_of_stalled (tag : Nat) (hserves : s.serves = true) (h : s.timeline.state = .stalled) :
    exec (.pause tag) s = .next (reply 22 tag .nothing (enterPaused .operator none (deassertEvent .stall (acceptCommand s)))) := by
  refine (next_manage hserves 22 tag _).trans (congrArg Host.Outcome.next ?_)
  simp only [acceptCommand_timeline, h]

theorem exec_pause_of_other (tag : Nat) (hserves : s.serves = true) (h : s.timeline.state ≠ .playing) (h' : s.timeline.state ≠ .stalled) :
    exec (.pause tag) s = .next (refuse 22 tag .badState (acceptCommand s)) := by
  refine (next_manage hserves 22 tag _).trans (congrArg Host.Outcome.next ?_)
  rw [acceptCommand_timeline]
  split
  · next hp => exact absurd hp h
  · next hp => exact absurd hp h'
  · rfl

/-! ## The tick of a release instant -/

/-- Whether an instant is due rests on the timeline alone. -/
theorem instantDue_congr {t : State} (h : t.timeline = s.timeline) : t.instantDue = s.instantDue := by
  have hrow : ∀ k, t.row k = s.row k := row_congr (by rw [h])
  simp only [State.instantDue, State.instantReached, State.intervalOver, State.intervalEnd, State.inGap, h, hrow]

theorem instantReached_of_le (hc : s.timeline.cursor = some c) (hrow : s.row c.reel = some row) (h : row.instant c.unit ≤ s.timeline.p) :
    s.instantReached = true := by
  simp [State.instantReached, hc, hrow, h]

theorem intervalOver_of_le {u : UnitRef} (hu : s.timeline.interval = some u) (hrow : s.row u.reel = some row)
    (h : row.instant u.unit + row.reel.ticks ≤ s.timeline.p) : s.intervalOver = true := by
  simp [State.intervalOver, State.intervalEnd, hu, hrow, h]

theorem instantDue_of_interval {u : UnitRef} {r : ReelRow} (hu : s.timeline.interval = some u) (hr : s.row u.reel = some r)
    (hover : r.instant u.unit + r.reel.ticks ≤ s.timeline.p) (hc : s.timeline.cursor = some c) (hrow : s.row c.reel = some row)
    (h : row.instant c.unit ≤ s.timeline.p) (hp : s.timeline.pausePending = false) : s.instantDue = true := by
  rw [State.instantDue, instantReached_of_le hc hrow h, hp, intervalOver_of_le hu hr hover]
  simp

theorem atInstant_of_due (h : s.instantDue = true) (h' : (endBefore s).timeline.state = .playing) : atInstant s = endBefore s :=
  if_pos ⟨h, h'⟩

theorem endBefore_of_interval (h : s.inGap = false) : endBefore s = endInterval s := if_neg (by simp [h])

theorem endBefore_of_gap (h : s.inGap = true) : endBefore s = endGap s := if_pos h

end

/-- Settles O38, by the states, and in PLAYING by the end that a release instant at this tick waits for. -/
theorem pauseRules : Obligations.PauseRules := by
  intro tag s hserves
  have htl := acceptCommand_timeline s
  have hrows : ∀ k, (acceptCommand s).row k = s.row k := row_congr (by rw [htl])
  refine ⟨fun hstate hdue => ?_, fun u row hstate hu hrow hin hentry hc hp hpending hmissing => ?inside,
    fun u c row next hstate hu hrow hlast hkind hc hgap hnext hnogap hp hreached hpending hmissing => ?boundary,
    fun c row hstate hc hgap hrow hunit hp hpending => ?gap, fun hstate => ?stalled, exec_pause_of_other tag hserves⟩
  · have hat : atInstant (acceptCommand s) = acceptCommand s := by
      refine if_neg fun h => ?_
      rw [instantDue_congr htl, hdue] at h
      cases h.1
    rw [exec_pause_of_playing tag hserves hstate, hat, State.mapTimeline, htl]
  case inside =>
    have hend : endInterval (acceptCommand s) = { acceptCommand s with timeline := { (acceptCommand s).timeline with interval := none } } := by
      rw [endInterval_of_interval (by rw [htl]; exact hu) ((hrows _).trans hrow), reachTick_of_le (Nat.le_of_eq (by rw [htl, hp]))]
      exact afterInterval_plays (by rw [htl]; exact hc) hin (by rw [htl]; exact hpending) (by rw [htl]; exact hmissing)
    have hbefore : endBefore (acceptCommand s) = endInterval (acceptCommand s) :=
      endBefore_of_interval (inGap_of_cursor (c := { reel := u.reel, unit := u.unit + 1, inGap := false }) (by rw [htl]; exact hc))
    have hdue : (acceptCommand s).instantDue = true := (instantDue_congr htl).trans
      (instantDue_of_interval (c := { reel := u.reel, unit := u.unit + 1, inGap := false }) hu hrow (Nat.le_of_eq (by rw [hp])) hc hrow
        (by rw [hp]; exact Nat.le_of_eq (instant_succ hentry)) hpending)
    have hat : atInstant (acceptCommand s) = { acceptCommand s with timeline := { (acceptCommand s).timeline with interval := none } } := by
      rw [atInstant_of_due hdue (by rw [hbefore, hend, htl]; exact hstate), hbefore, hend]
    rw [exec_pause_of_playing tag hserves hstate, hat, State.mapTimeline, htl]
  case boundary =>
    let w := intervalEnded u.reel u.unit row (acceptCommand s)
    have hw : w = intervalEnded u.reel u.unit row (acceptCommand s) := rfl
    have hwtl : w.timeline = { s.timeline with interval := none } := by rw [hw, intervalEnded_timeline, htl]
    have hend : endInterval (acceptCommand s) = crossBoundary row next w := by
      rw [endInterval_of_interval (by rw [htl]; exact hu) ((hrows _).trans hrow), reachTick_of_le (Nat.le_of_eq (by rw [htl, hp])),
        afterInterval_of_cursor (c := c) (by rw [htl]; exact hc), if_neg (fun h => hkind h.2), htl, if_neg (by simp [hpending]),
        if_neg (by omega), if_pos hlast, hrows, hnext]
      rfl
    obtain ⟨hinterval, hcursor, -⟩ := crossBoundary_instant (row := row) (next := next) (s := w) (c := c) (by rw [hwtl]; exact hstate)
      (by rw [hwtl]; exact hc) hgap ((row_congr (by rw [hwtl]) _).trans hnext) hnogap
    have hplay := crossBoundary_play row next w
    have hbefore : endBefore (acceptCommand s) = crossBoundary row next w :=
      (endBefore_of_interval ((inGap_of_cursor (by rw [htl]; exact hc)).trans hgap)).trans hend
    have hplaying : (crossBoundary row next w).timeline.state = .playing := by rw [hplay.timeline, hwtl]; exact hstate
    have hdue : (acceptCommand s).instantDue = true := (instantDue_congr htl).trans
      (instantDue_of_interval hu hrow (Nat.le_of_eq (by rw [hp])) hc hnext hreached hpending)
    have hat : atInstant (acceptCommand s) = crossBoundary row next w := by
      rw [atInstant_of_due hdue (by rw [hbefore]; exact hplaying), hbefore]
    refine ⟨(crossBoundary row next w).mapTimeline (fun t => { t with pausePending := true }), ?_, hplaying, rfl, hinterval,
      hcursor.trans (congrArg _ (unitAfter_congr (by rw [hwtl]) _ _)), ?_⟩
    · rw [exec_pause_of_playing tag hserves hstate, hat]
    · change (crossBoundary row next w).timeline.p = _
      rw [hplay.timeline, hwtl]
  case gap =>
    obtain ⟨h1, -, h3, h4, h5⟩ := endGap_instant (s := acceptCommand s) (c := c) (row := row) (by rw [htl]; exact hc) ((hrows _).trans hrow)
      (Nat.le_of_eq (by rw [htl, hp])) (by rw [htl]; exact hpending)
    rw [htl] at h1
    have hbefore : endBefore (acceptCommand s) = endGap (acceptCommand s) :=
      endBefore_of_gap ((inGap_of_cursor (by rw [htl]; exact hc)).trans hgap)
    have hreached : row.instant c.unit ≤ s.timeline.p := by
      refine Nat.le_of_eq ?_
      rw [hunit, hp, ReelRow.instant, Nat.sub_self, Nat.zero_mul, Nat.add_zero]
    have hdue : (acceptCommand s).instantDue = true := by
      rw [instantDue_congr htl, State.instantDue, instantReached_of_le hc hrow hreached, hpending, inGap_of_cursor hc, hgap]
      rfl
    refine ⟨(endGap (acceptCommand s)).mapTimeline (fun t => { t with pausePending := true }), ?_, h1.trans hstate, rfl, h3,
      h4.trans (congrArg _ (unitAfter_congr (by rw [htl]) _ _)), h5.trans hp.symm⟩
    rw [exec_pause_of_playing tag hserves hstate, atInstant_of_due hdue (by rw [hbefore, h1]; exact hstate), hbefore]
  case stalled =>
    have haccept := acceptCommand_reports s
    let v := deassertEvent .stall (acceptCommand s)
    have hclear : reportsFrom (acceptCommand s) v := deassertEvent_reports .stall (acceptCommand s)
    have hlevel : v.isAsserted .stall = false := isAsserted_deassertEvent (acceptCommand s) .stall (by decide)
    have hvtl : v.timeline = s.timeline := hclear.timeline_eq.trans htl
    obtain ⟨hptl, hreports, hevents⟩ := enterPaused_facts v .operator none
    rw [hvtl] at hptl
    have hpaused : reportsFrom { s with
        schedule := { s.schedule with heartbeat := 0 }, timeline := (enterPaused .operator none v).timeline,
        picture := (enterPaused .operator none v).picture, sync := (enterPaused .operator none v).sync } (enterPaused .operator none v) := by
      refine reportsFrom_trans ?_ hreports
      have h := reportsFrom_trans haccept hclear
      unfold reportsFrom at h ⊢
      rw [h]
    have hreply := reply_reports 22 tag .nothing (enterPaused .operator none v)
    have hstall : (reply 22 tag .nothing (enterPaused .operator none v)).isAsserted .stall = false := by
      rw [State.isAsserted, event_reply, hevents .stall (by decide)]
      exact hlevel
    refine ⟨reply 22 tag .nothing (enterPaused .operator none v), exec_pause_of_stalled tag hserves hstate, ?_⟩
    rw [hreply.timeline_eq, hreply.picture_eq, hreply.sync_eq]
    exact ⟨by rw [hptl], by rw [hptl], by rw [hptl], by rw [hptl], by rw [hptl], hstall, reportsFrom_trans hpaused hreply⟩

end Sys2Proof.Machine

/-! PROOF. The tests of START, and the conditions on leads and start moments (R70, R41, R73). -/

namespace Sys2Proof.Machine

/-! ## The tests of START -/

section

variable {a : StartCall} {s : State}

theorem loadedSlot_eq_some {i : Fin 4} {c : Composition} : s.loadedSlot i = some c ↔ s.comps[i] = .loaded c := by
  unfold State.loadedSlot
  cases s.comps[i] <;> simp

/-- The tests behind those of argument, clock, fault and log: the slot, and the allowance of a FEATURE composition (R70). -/
def startSlotTests (a : StartCall) (s : State) : Except Reason (Fin 4 × Composition × Option (Fin 32)) :=
  match a.slot.bind slotIndex with
  | none => .error .notFound
  | some i =>
    match s.loadedSlot i with
    | none => .error .notFound
    | some c =>
      if c.feature then
        match s.matchAllowance c.ident a.allowance with
        | some n => .ok (i, c, some n)
        | none => .error .noAllowance
      else .ok (i, c, none)

theorem startTests_eq (a : StartCall) (s : State) : startTests a s =
    if s.counting.startup ≠ .complete then .error .starting
    else if s.timeline.state ≠ .idle then .error .busy
    else if a.inRange = false then .error .badArgument
    else if s.clock.isSet = false then .error .clockUnset
    else if s.isAsserted .storeFault then .error .storeFault
    else if s.logRoom = false then .error .logFull
    else startSlotTests a s := rfl

theorem startTests_of_not_started (h : s.counting.startup ≠ .complete) : startTests a s = .error .starting := if_pos h

theorem startTests_of_open (h : s.counting.startup = .complete) (h' : s.timeline.state ≠ .idle) : startTests a s = .error .busy := by
  rw [startTests_eq, if_neg (fun hn => hn h), if_pos h']

/-- Behind the tests of start-up and of an open showing (R70). -/
theorem startTests_of_idle (h : s.counting.startup = .complete) (h' : s.timeline.state = .idle) : startTests a s =
    if a.inRange = false then .error .badArgument
    else if s.clock.isSet = false then .error .clockUnset
    else if s.isAsserted .storeFault then .error .storeFault
    else if s.logRoom = false then .error .logFull
    else startSlotTests a s := by
  rw [startTests_eq, if_neg (fun hn => hn h), if_neg (fun hn => hn h')]

/-- No slot number names a loaded slot (R70). -/
theorem startSlotTests_of_no_slot (h : ∀ i : Fin 4, a.slot = some i.val → ∀ c, s.comps[i] ≠ .loaded c) :
    startSlotTests a s = .error .notFound := by
  unfold startSlotTests
  cases hslot : a.slot.bind slotIndex with
  | none => rfl
  | some i =>
    have hi : a.slot = some i.val := by
      obtain ⟨n, hn, hin⟩ := Option.bind_eq_some_iff.mp hslot
      unfold slotIndex at hin
      split at hin
      · cases hin
        exact hn
      · cases hin
    have hnone : s.loadedSlot i = none := by
      cases hl : s.loadedSlot i with
      | none => rfl
      | some c => exact absurd (loadedSlot_eq_some.mp hl) (h i hi c)
    simp only [hnone]

/-- A loaded slot: the allowance of a FEATURE composition decides (R70, R131). -/
theorem startSlotTests_of_loaded {i : Fin 4} {c : Composition} (hslot : a.slot = some i.val) (hc : s.comps[i] = .loaded c) :
    (c.feature = true → s.matchAllowance c.ident a.allowance = none → startSlotTests a s = .error .noAllowance) ∧
    (∀ n, c.feature = true → s.matchAllowance c.ident a.allowance = some n → startSlotTests a s = .ok (i, c, some n)) ∧
    (c.feature = false → startSlotTests a s = .ok (i, c, none)) := by
  have hbind : a.slot.bind slotIndex = some i := by rw [hslot]; exact slotIndex_val i
  have hloaded : s.loadedSlot i = some c := loadedSlot_eq_some.mpr hc
  unfold startSlotTests
  simp only [hbind, hloaded]
  exact ⟨fun hf hm => by rw [if_pos hf, hm], fun n hf hm => by rw [if_pos hf, hm], fun hf => if_neg (by simp [hf])⟩

theorem logRoom_iff (s : State) : s.logRoom = true ↔ s.isAsserted .storeFault = false ∧ s.counting.next ≤ 4294967295 ∧
    (s.counting.log.length < 512 ∨ ∃ r ∈ s.counting.log, r.exported = true) := by
  simp [State.logRoom, State.numbersGone, Config.lastRecordNumber, Config.logPlaces, and_assoc]

/-- START as a command: its tests, and the refusal or the opening (R70, R71). -/
theorem exec_start (tag : Nat) (args : StartArgs) (hserves : s.serves = true) :
    (∀ r, startTests (startCallOf args) (acceptCommand s) = .error r →
      exec (.start tag args) s = .next (refuse 21 tag r (acceptCommand s))) ∧
    (∀ i c b, startTests (startCallOf args) (acceptCommand s) = .ok (i, c, b) →
      exec (.start tag args) s = .next (reply 21 tag .nothing (acceptStart i c b (startCallOf args) (acceptCommand s)))) := by
  refine ⟨fun r h => (next_manage hserves 21 tag _).trans (congrArg Host.Outcome.next ?_),
    fun i c b h => (next_manage hserves 21 tag _).trans (congrArg Host.Outcome.next ?_)⟩ <;> rw [h]

end

/-! ## Leads and start moments -/

section

variable (s : State)

theorem mem_reel_avLanes (r : Reel) (l : AvLane) : l ∈ r.avLanes ↔ avToLane l ∈ r.lanes := by
  simp [Reel.avLanes, mem_avLanes]

/-- The condition of a lead, lane by lane (R41). -/
theorem leadMet_iff (need : Nat) : s.leadMet need = true ↔ ∃ (c : Cursor) (row : ReelRow), s.timeline.cursor = some c ∧
    s.row c.reel = some row ∧
      ∀ l, avToLane l ∈ row.reel.lanes → need ≤ (s.hold l).lead ∨ s.runReaches l c.reel row.reel.dur = true := by
  cases hc : s.timeline.cursor with
  | none => simp [State.leadMet, hc]
  | some c =>
    cases hrow : s.row c.reel with
    | none => simp [State.leadMet, hc, hrow]
    | some row => simp [State.leadMet, hc, hrow, mem_reel_avLanes]

/-- The start moment has not come (R73). -/
theorem startReached_eq_false_iff : s.startReached = false ↔
    ∃ time, s.timeline.mode = some (.atTime time) ∧ s.nowSecs < secsOf time := by
  unfold State.startReached
  split
  next t h =>
    rw [decide_eq_false_iff_not, Nat.not_le]
    constructor
    · intro hlt
      exact ⟨t, h, hlt⟩
    · rintro ⟨t', ht', hlt⟩
      rw [h] at ht'
      cases ht'
      exact hlt
  next h =>
    constructor
    · nofun
    · rintro ⟨t', ht', -⟩
      exact absurd ht' (h t')

theorem startReached_congr {t : State} (hm : t.timeline.mode = s.timeline.mode) (hc : t.clock = s.clock) :
    t.startReached = s.startReached := by
  rw [State.startReached, hm, State.nowSecs, hc]
  rfl

end

end Sys2Proof.Machine

/-! PROOF. Entry to PLAYING from READY, what settled leads make of the showing, and the obligation on START (R41, R72, R73, R83). -/

namespace Sys2Proof.Machine

/-! ## An instant's picture -/

section

variable (k u : Nat) (row : ReelRow) (s : State)

/-- The runs of releases behind an instant: it went out, or it is missing (R79). -/
theorem releaseUnit_runs :
    (releaseUnit k u row s).timeline.missing = 0 ∧ (releaseUnit k u row s).timeline.repeated = s.timeline.repeated ∨
    (releaseUnit k u row s).timeline.missing = min 12 (s.timeline.missing + 1) ∧
      (releaseUnit k u row s).timeline.repeated = min 4294967295 (s.timeline.repeated + 1) := by
  rw [releaseUnit_timeline]
  cases h : s.goesOut k u row.reel.stereo with
  | true =>
    obtain ⟨hleft, -⟩ := (goesOut_iff k u s row.reel.stereo).mp h
    cases hq : leftUnit k u s with
    | none => rw [hq] at hleft; cases hleft
    | some q =>
      obtain ⟨-, hm, -, hr, -⟩ := decidePicture_out k u s h hq
      exact .inl ⟨hm, hr⟩
  | false =>
    obtain ⟨-, hm, -, hr, -⟩ := decidePicture_missing k u s h
    exact .inr ⟨hm, hr⟩

theorem releaseUnit_missing_le : (releaseUnit k u row s).timeline.missing ≤ s.timeline.missing + 1 := by
  obtain ⟨h, -⟩ | ⟨h, -⟩ := releaseUnit_runs k u row s <;> omega

end

theorem takeInstant_missing_le (s : State) : (takeInstant s).timeline.missing ≤ s.timeline.missing + 1 := by
  unfold takeInstant
  split
  · omega
  split
  · omega
  · exact releaseUnit_missing_le _ _ _ s

theorem enterGap_missing (next : ReelRow) (s : State) : (enterGap next s).timeline.missing = s.timeline.missing := by
  unfold enterGap
  dsimp only
  rw [(firePositions_facts _ _).1.timeline_eq]
  dsimp only
  rw [retuneFrame_timeline]
  rfl

theorem crossBoundary_missing_le (row next : ReelRow) (s : State) :
    (crossBoundary row next s).timeline.missing ≤ s.timeline.missing + 1 := by
  have hblack : (blackened row next s).timeline = s.timeline := by rw [blackened_eq]
  by_cases h : 0 < next.gap
  · rw [crossBoundary_of_gap h, enterGap_missing, hblack]
    omega
  · rw [crossBoundary_of_no_gap (by omega)]
    have htl : (if row.reel.framePeriod = next.reel.framePeriod then blackened row next s
        else restartFrame (blackened row next s)).timeline = s.timeline := by
      split <;> exact hblack
    exact Nat.le_trans (takeInstant_missing_le _) (Nat.le_of_eq (by rw [htl]))

theorem continueAt_missing_le (s : State) : (continueAt s).timeline.missing ≤ s.timeline.missing + 1 := by
  unfold continueAt
  split
  · omega
  split
  · split
    · exact crossBoundary_missing_le _ _ s
    split
    · exact takeInstant_missing_le s
    · omega
  · omega

/-! ## Playing on from a cursor -/

section

variable {s : State} {c : Cursor} {row next : ReelRow}

/-- Past a reel's first unit the showing goes on with the instant that P stands at, or waits for the next (R83). -/
theorem continueAt_past_entry (hc : s.timeline.cursor = some c) (hrow : s.row c.reel = some row) (hentry : row.reel.entry < c.unit) :
    (row.instant c.unit = s.timeline.p → continueAt s = releaseUnit c.reel c.unit row s) ∧
    (row.instant c.unit ≠ s.timeline.p → continueAt s = s) := by
  obtain ⟨before, hbefore⟩ := row_pred_of_row hrow
  have hnot : ¬ (0 < c.reel ∧ c.unit = row.reel.entry ∧ before.endTick = s.timeline.p) := by
    rintro ⟨-, h, -⟩
    omega
  have hcontinue : continueAt s = if row.instant c.unit = s.timeline.p then takeInstant s else s := by
    unfold continueAt
    simp only [hc, hbefore, hrow]
    exact if_neg hnot
  rw [hcontinue]
  exact ⟨fun h => (if_pos h).trans (takeInstant_of_row hc hrow), fun h => if_neg h⟩

/-- At a reel's end tick the showing goes on over the boundary (R83). -/
theorem continueAt_boundary (hc : s.timeline.cursor = some c) (hreel : 0 < c.reel) (hrow : s.row (c.reel - 1) = some row)
    (hnext : s.row c.reel = some next) (hunit : c.unit = next.reel.entry) (hend : row.endTick = s.timeline.p) :
    continueAt s = crossBoundary row next s := by
  unfold continueAt
  simp only [hc, hrow, hnext]
  exact if_pos ⟨hreel, hunit, hend⟩

end

/-! ## Entry to PLAYING from READY -/

/-- The offset of the first reel at a delay (R93). -/
def State.startOffset (s : State) : Int :=
  appliedOffset (if s.sound.pending then s.sound.staged else s.sound.live) (((s.row 0).map (fun r => r.reel.sampleTicks)).getD 2)

/-- The delays and the offset of a start of sound, before X is placed (R96, R101). -/
def startedSound (s : State) : State :=
  (if s.sound.pending then makeLive s else s).mapSound (fun d => { d with offset := s.startOffset })

theorem startedSound_facts (s : State) : (startedSound s).timeline = s.timeline ∧ (startedSound s).picture = s.picture ∧
    (startedSound s).sound = { s.sound with
      live := if s.sound.pending then s.sound.staged else s.sound.live, pending := false, offset := s.startOffset } := by
  unfold startedSound
  cases hp : s.sound.pending with
  | true =>
    rw [if_pos rfl, makeLive_eq]
    exact ⟨rfl, rfl, rfl⟩
  | false =>
    refine ⟨rfl, rfl, ?_⟩
    simp only [State.mapSound, Bool.false_eq_true, if_false, hp]

theorem startSound_eq (s : State) : startSound s =
    if s.startOffset < 0 then skipSound (-s.startOffset) (startedSound s) else startedSound s := by
  unfold startSound startedSound State.startOffset
  cases hp : s.sound.pending with
  | true =>
    have hlive := makeLive_eq s
    have hrow : (makeLive s).row 0 = s.row 0 := row_congr (by rw [hlive]) 0
    have hd : (makeLive s).sound.live = s.sound.staged := by rw [hlive]
    simp only [if_true, hrow, State.mapSound, hd]
  | false => rfl

theorem startSound_delays (s : State) : DelaysKept (startedSound s) (startSound s) := by
  rw [startSound_eq]
  split
  · exact skipSound_delays _ _
  · exact delaysKept_refl _

end Sys2Proof.Machine

/-! PROOF. What entry to PLAYING leaves, and the obligation on START and on settled leads (R41, R70, R72, R73, R83, R96). -/

namespace Sys2Proof.Machine

/-- `t` plays from the start that `s` stands at: a staged delay is live, X stands at −A, and the first picture instant is taken (R73, R96,
R101). -/
def PlaysFrom (s t : State) : Prop :=
  let live := if s.sound.pending then s.sound.staged else s.sound.live
  t.timeline.state = .playing ∧ t.timeline.p = s.timeline.p ∧ t.sound.live = live ∧ t.sound.pending = false ∧
  t.sound.staged = s.sound.staged ∧
  (∀ (c : Cursor) (row : ReelRow), s.timeline.cursor = some c → s.row c.reel = some row →
    t.timeline.interval = some { reel := c.reel, unit := c.unit } ∧
    t.timeline.cursor = (s.unitAfter c.reel c.unit).map UnitRef.cursor ∧ t.picture.shown = t.picture.last ∧
    (t.timeline.missing = 0 ∧ t.timeline.repeated = s.timeline.repeated ∨
      t.timeline.missing = min 12 (s.timeline.missing + 1) ∧
        t.timeline.repeated = min 4294967295 (s.timeline.repeated + 1))) ∧
  (∀ first : ReelRow, s.row 0 = some first →
    let A : Int := shiftSamples live first.reel.sampleTicks * first.reel.sampleTicks
    (0 ≤ A → t.sound.offset = A ∧ t.sound.cursor = s.sound.cursor ∧ t.sound.plays = s.sound.plays) ∧
    (∀ u n : Nat, A < 0 → n < 64 → s.sound.cursor = some { reel := 0, unit := u } → first.reel.entry ≤ u →
      u + n < first.reel.dur → (first.instant (u + n) : Int) ≤ -A →
      -A < (first.instant (u + n) : Int) + first.reel.ticks →
        t.sound.offset = A ∧ t.sound.cursor = s.unitAfter 0 (u + n)))

section

variable {s : State}

/-- What a start reads is unchanged by a change of state alone. -/
theorem playsFrom_congr {v t : State} {st : ShowState} (htl : v.timeline = { s.timeline with state := st }) (hsound : v.sound = s.sound)
    (h : PlaysFrom v t) : PlaysFrom s t := by
  have hrow : ∀ k, v.row k = s.row k := row_congr (by rw [htl])
  have hafter : ∀ k u, v.unitAfter k u = s.unitAfter k u := unitAfter_congr (by rw [htl])
  unfold PlaysFrom at h ⊢
  rw [hsound, htl] at h
  simp only [hrow, hafter] at h ⊢
  exact h

theorem startOffset_of_row {first : ReelRow} (h : s.row 0 = some first) : s.startOffset =
    shiftSamples (if s.sound.pending then s.sound.staged else s.sound.live) first.reel.sampleTicks * first.reel.sampleTicks := by
  rw [State.startOffset, h]
  rfl

/-- Sound starts: X at −A ahead of the first unit, or the units before it passed and the one that contains it begun (R96). -/
theorem startSound_outcome {first : ReelRow} (h : s.row 0 = some first) :
    (0 ≤ s.startOffset → (startSound s).sound.offset = s.startOffset ∧ (startSound s).sound.cursor = s.sound.cursor ∧
      (startSound s).sound.plays = s.sound.plays) ∧
    (∀ u n : Nat, s.startOffset < 0 → n < 64 → s.sound.cursor = some { reel := 0, unit := u } → first.reel.entry ≤ u →
      u + n < first.reel.dur → (first.instant (u + n) : Int) ≤ -s.startOffset →
      -s.startOffset < (first.instant (u + n) : Int) + first.reel.ticks →
        (startSound s).sound.offset = s.startOffset ∧ (startSound s).sound.cursor = s.unitAfter 0 (u + n)) := by
  obtain ⟨htl, -, hsound⟩ := startedSound_facts s
  rw [startSound_eq]
  refine ⟨fun hpos => ?_, fun u n hneg hn hc hentry hdur hfirst hlast => ?_⟩
  · rw [if_neg (by omega), hsound]
    exact ⟨rfl, rfl, rfl⟩
  · rw [if_pos hneg]
    have hrow : (startedSound s).row 0 = some first := (row_congr (by rw [htl]) 0).trans h
    have hcursor : ((startedSound s).passedBefore (-s.startOffset) skipFuel (startedSound s).sound.cursor).2 =
        some { reel := 0, unit := u + n } := by
      have hcw : (startedSound s).sound.cursor = some { reel := 0, unit := u } := by rw [hsound]; exact hc
      rw [hcw]
      exact passedBefore_inside hrow n u skipFuel hn hentry hdur hfirst hlast
    rw [skipSound_of_cursor (startedSound s) hcursor hrow hfirst]
    obtain ⟨hptl, hpsound⟩ := passSound_facts (startedSound s) (-s.startOffset)
    have hprow : (passSound (-s.startOffset) (startedSound s)).row 0 = some first := (row_congr (by rw [hptl]) 0).trans hrow
    obtain ⟨h1, h2, -⟩ := soundInstant_outcome (c := { reel := 0, unit := u + n }) hprow
    refine ⟨h2.trans ?_, h1.trans (unitAfter_congr (by rw [hptl, htl]) _ _)⟩
    rw [offsetFor_eq hprow, hpsound, hsound]
    dsimp only
    split
    · rfl
    · exact (startOffset_of_row h).symm

/-- The first picture instant behind the start of sound (R73). -/
theorem takeInstant_playsFrom {w y : State} (hstate : w.timeline.state = .playing) (hytl : y.timeline = (startSound w).timeline)
    (hysound : y.sound = (startSound w).sound) : PlaysFrom w (takeInstant y) := by
  obtain ⟨hstl, -, hssound⟩ := startedSound_facts w
  have hdelays := startSound_delays w
  have hytimeline : y.timeline = w.timeline := hytl.trans (hdelays.timeline.trans hstl)
  have hplay := takeInstant_play y
  have hsound : (takeInstant y).sound = (startSound w).sound := hplay.sound.trans hysound
  refine ⟨?_, ?_, ?_, ?_, ?_, fun c row hc hrow => ?_, fun first hfirst => ?_⟩
  · rw [hplay.timeline, hytimeline]
    exact hstate
  · rw [hplay.timeline, hytimeline]
  · rw [hsound, hdelays.live, hssound]
  · rw [hsound, hdelays.pending, hssound]
  · rw [hsound, hdelays.staged, hssound]
  · have hyrow : y.row c.reel = some row := (row_congr (by rw [hytimeline]) _).trans hrow
    have hafter : y.unitAfter c.reel c.unit = w.unitAfter c.reel c.unit := unitAfter_congr (by rw [hytimeline]) _ _
    have hruns := releaseUnit_runs c.reel c.unit row y
    rw [hytimeline] at hruns
    rw [takeInstant_of_row (by rw [hytimeline]; exact hc) hyrow]
    exact ⟨by rw [releaseUnit_timeline], by rw [releaseUnit_timeline, hafter], (releaseUnit_picture c.reel c.unit row y).1, hruns⟩
  · obtain ⟨hpos, hneg⟩ := startSound_outcome hfirst
    rw [hsound]
    rw [startOffset_of_row hfirst] at hpos hneg
    exact ⟨hpos, hneg⟩

theorem enterPlaying_plays (s : State) : PlaysFrom s (enterPlaying s) := by
  obtain ⟨frame, hentered⟩ := enterState_reports .playing s
  have hwtl := hentered.timeline_eq
  have hwsound := hentered.sound_eq
  unfold enterPlaying
  generalize enterState .playing s = w at hwtl hwsound
  dsimp only at hwtl hwsound ⊢
  have hleaves := settleLeads_leaves (startSound w) (startSound w)
  generalize settleLeads (startSound w) (startSound w) = y at hleaves ⊢
  obtain ⟨hytl, hysound, -⟩ := hleaves
  exact playsFrom_congr hwtl hwsound (takeInstant_playsFrom (by rw [hwtl]) hytl hysound)

end

/-! ## Settled leads -/

/-- What the Timeline makes of settled leads (R72, R73, R83). -/
def actOnLeads (u : State) : State :=
  match u.timeline.state with
  | .cueing => if u.startMet then enterReady u else u
  | .ready => if u.startMet then u else enterState .cueing u
  | .stalled => if u.resumeMet then resumePlaying u else u
  | _ => u

theorem settleFrom_eq (before s : State) : settleFrom before s = actOnLeads (settleLeads before s) := by
  unfold settleFrom actOnLeads
  generalize settleLeads before s = u
  rfl

section

variable {u : State}

theorem actOnLeads_of_cueing (h : u.timeline.state = .cueing) : actOnLeads u = if u.startMet then enterReady u else u := by
  rw [actOnLeads, h]

theorem actOnLeads_of_ready (h : u.timeline.state = .ready) : actOnLeads u = if u.startMet then u else enterState .cueing u := by
  rw [actOnLeads, h]

theorem actOnLeads_of_stalled (h : u.timeline.state = .stalled) : actOnLeads u = if u.resumeMet then resumePlaying u else u := by
  rw [actOnLeads, h]

theorem actOnLeads_of_other (h : u.timeline.state ≠ .cueing) (h' : u.timeline.state ≠ .ready) (h'' : u.timeline.state ≠ .stalled) :
    actOnLeads u = u := by
  unfold actOnLeads
  split
  · next hs => exact absurd hs h
  · next hs => exact absurd hs h'
  · next hs => exact absurd hs h''
  · rfl

/-- An entry without timers or runs: the state and FRAME (R104). -/
theorem enterState_settled (st : ShowState) (v : State) : (enterState st v).timeline = { v.timeline with state := st } ∧
    reportsFrom { v with timeline := (enterState st v).timeline, sync := (enterState st v).sync } (enterState st v) := by
  obtain ⟨frame, h⟩ := enterState_reports st v
  refine ⟨enterState_timeline st v, ?_⟩
  rw [h.timeline_eq, h.sync_eq]
  exact h

theorem enterReady_eq (v : State) : enterReady v =
    if v.startReached then enterPlaying (enterState .ready v) else enterState .ready v := by
  have hreached : (enterState .ready v).startReached = v.startReached := by
    obtain ⟨frame, h⟩ := enterState_reports .ready v
    exact startReached_congr v (by rw [h.timeline_eq]) h.clock_eq
  rw [← hreached]
  rfl

/-- Settled leads leave P. -/
theorem actOnLeads_p : (actOnLeads u).timeline.p = u.timeline.p := by
  have hready : (enterReady u).timeline.p = u.timeline.p := by
    rw [enterReady_eq]
    split
    · obtain ⟨-, hp, -⟩ := enterPlaying_plays (enterState .ready u)
      rw [hp, enterState_timeline]
    · rw [enterState_timeline]
  unfold actOnLeads
  split
  · split
    · exact hready
    · rfl
  · split
    · rfl
    · rw [enterState_timeline]
  · split
    · obtain ⟨-, -, -, hp, -⟩ := resumePlaying_facts u
      exact hp
    · rfl
  · rfl

end

end Sys2Proof.Machine

/-! PROOF. The opening of a showing: what its five effects leave (R71, R136, R17, R151). -/

namespace Sys2Proof.Machine

section

variable (i : Fin 4) (c : Composition) (b : Option (Fin 32)) (a : StartCall) (s : State)

/-! ## The context and the slot -/

/-- The showing context as an opening fixes it, at a limit on gaps (R71, R74). -/
def openedTimeline (gap : Nat) : Timeline :=
  { Timeline.reset with
    slot := some i, mode := a.mode, sched := a.sched, table := reelTable gap c.reels,
    cursor := (c.reels.head?).map (fun r => { reel := 0, unit := r.entry, inGap := false }) }

/-- The context fixed, the slot IN_USE and the allowance bound (R71). -/
def boundShowing : State := bindShowing i c b (fixContext i c a (evaluateAll s))

theorem evaluateAll_atMost : appendsAtMost 4 s (evaluateAll s) := by
  unfold evaluateAll evaluateWarnings
  exact appendsAtMost_trans (m := 2) (setLevel_atMost (s := { s with counting := { s.counting with
    places := mapVec (fun p => { p with state := deriveState s p.record }) s.counting.places } }) _ _) (setLevel_atMost _ _ _)

theorem boundShowing_atMost : appendsAtMost 4 s (boundShowing i c b a s) := evaluateAll_atMost s

theorem boundShowing_facts :
    (boundShowing i c b a s).timeline = openedTimeline i c a s.mgmt.limits.gap ∧
    (boundShowing i c b a s).sound.cursor = (c.reels.head?).map (fun r => { reel := 0, unit := r.entry }) ∧
    (boundShowing i c b a s).comps = s.comps.set i (.inUse c) ∧
    (boundShowing i c b a s).counting = { s.counting with
      places := (boundShowing i c b a s).counting.places, bound := b, charged := false,
      point := b.map (fun _ => countPoint s.mgmt.limits.coverage c.span) } ∧
    (boundShowing i c b a s).clock = s.clock ∧ (boundShowing i c b a s).wanted = s.wanted ∧
    (boundShowing i c b a s).link.state = s.link.state ∧ (boundShowing i c b a s).actions.table = s.actions.table := by
  obtain ⟨q, ev, aq, al, at_, dropped, h⟩ := (evaluateAll_reports s).exists_eq
  unfold boundShowing
  rw [h]
  exact ⟨rfl, rfl, rfl, rfl, rfl, rfl, rfl, rfl⟩

/-! ## The record -/

/-- The OPEN record of an opening showing, before its place and number (R136). -/
def openedRecord (sched : Option Nat) (w : State) : LogRecord :=
  { place := 0, number := 0, comp := c.ident, slot := some i.val, allowance := w.counting.bound.map Fin.val,
    serialAtOpen := w.counting.bound.map (fun i => (w.place i).serial),
    usedAtOpen := w.counting.bound.map (fun i => (((w.place i).record.map Allowance.used).getD 0)),
    sched, start := w.clock.now, ended := none, endUnset := false, presented := 0, repeated := 0, stalls := 0,
    outcome := .opened, miss := none, charged := false, exported := false }

theorem evaluateLog_atMost (s : State) : appendsAtMost 4 s (evaluateLog s) := by
  unfold evaluateLog
  exact appendsAtMost_trans (m := 2) (setLevel_atMost (s := s) _ _) (setLevel_atMost _ _ _)

theorem createRecord_atMost (r : LogRecord) (s : State) : appendsAtMost 4 s (createRecord r s) := evaluateLog_atMost (s.withRecord r)

/-- The slot, the allowance and the record of an opening showing in place (R71, R136). -/
def recordedShowing : State := createOpen i c a.sched (boundShowing i c b a s)

theorem recordedShowing_reports : ∃ header, reportsFrom { boundShowing i c b a s with
    counting := { (boundShowing i c b a s).counting with
      log := (boundShowing i c b a s).roomFor.2 ++
        [(boundShowing i c b a s).placed (openedRecord i c a.sched (boundShowing i c b a s))],
      next := s.counting.next + 1, header := header,
      queue := s.counting.queue ++ [{
        kind := .creation, record := some ((boundShowing i c b a s).placed (openedRecord i c a.sched (boundShowing i c b a s))),
        place := none, marks := [], owed := none }] } } (recordedShowing i c b a s) := by
  obtain ⟨-, -, -, hcounting, -⟩ := boundShowing_facts i c b a s
  have h := createRecord_reports (openedRecord i c a.sched (boundShowing i c b a s)) (boundShowing i c b a s)
  have hnext : (boundShowing i c b a s).counting.next = s.counting.next := by rw [hcounting]
  have hqueue : (boundShowing i c b a s).counting.queue = s.counting.queue := by rw [hcounting]
  rw [hnext, hqueue] at h
  exact ⟨_, h⟩

/-! ## The wanted reel and the triggers -/

/-- Reel 0 wanted, and the tests of the wanted set (R17). -/
def wantedShowing : State := updateWanted (addReel 0 (recordedShowing i c b a s))

theorem openShowing_eq : openShowing i c b a s = enterState .cueing (resolveActions (wantedShowing i c b a s)) := rfl

theorem wantedShowing_stock : StockFrom (recordedShowing i c b a s) (wantedShowing i c b a s) :=
  stockFrom_trans (addReel_stock 0 _) (updateWanted_stock _)

theorem openShowing_reports : ∃ frame, reportsFrom { wantedShowing i c b a s with
    timeline := { (wantedShowing i c b a s).timeline with state := .cueing },
    sync := { (wantedShowing i c b a s).sync with frame := frame },
    actions := { (wantedShowing i c b a s).actions with
      table := mapVec (ActionEntry.resolve (wantedShowing i c b a s).timeline.table) (wantedShowing i c b a s).actions.table } }
    (openShowing i c b a s) := by
  rw [openShowing_eq]
  generalize wantedShowing i c b a s = v
  exact enterState_reports .cueing (resolveActions v)

/-- What an opening showing leaves, beside the wanted set (R71). -/
theorem openShowing_facts :
    (openShowing i c b a s).timeline = { openedTimeline i c a s.mgmt.limits.gap with state := .cueing } ∧
    (openShowing i c b a s).comps = s.comps.set i (.inUse c) ∧
    (openShowing i c b a s).counting = (recordedShowing i c b a s).counting ∧
    (openShowing i c b a s).wanted = (wantedShowing i c b a s).wanted ∧
    (openShowing i c b a s).actions.table =
      mapVec (ActionEntry.resolve (reelTable s.mgmt.limits.gap c.reels)) s.actions.table := by
  obtain ⟨htl, -, hcomps, -, -, -, -, htable⟩ := boundShowing_facts i c b a s
  obtain ⟨header, hrecorded⟩ := recordedShowing_reports i c b a s
  obtain ⟨-, -, -, hwcomps, -, -, hwtl, -, -, -, hwcounting, -, -, -, hwtable, -⟩ :=
    (contentFrom_of_stock (wantedShowing_stock i c b a s)).fields
  obtain ⟨frame, hopened⟩ := openShowing_reports i c b a s
  have hrtl : (recordedShowing i c b a s).timeline = openedTimeline i c a s.mgmt.limits.gap := hrecorded.timeline_eq.trans htl
  have hratable : (recordedShowing i c b a s).actions.table = s.actions.table := by
    unfold reportsFrom at hrecorded
    rw [hrecorded]
    exact htable
  have hotable : (openShowing i c b a s).actions.table =
      mapVec (ActionEntry.resolve (wantedShowing i c b a s).timeline.table) (wantedShowing i c b a s).actions.table := by
    unfold reportsFrom at hopened
    rw [hopened]
  refine ⟨?_, ?_, hopened.counting_eq.trans hwcounting, hopened.wanted_eq, ?_⟩
  · rw [hopened.timeline_eq]
    dsimp only
    rw [hwtl, hrtl]
  · exact hopened.comps_eq.trans (hwcomps.trans (hrecorded.comps_eq.trans hcomps))
  · rw [hotable, hwtl, hwtable, hratable, hrtl]
    rfl

end

end Sys2Proof.Machine

/-! PROOF. The first wanted reel of an opening showing, and the obligation on it (R17, R71, R136, R151). -/

namespace Sys2Proof.Machine

section

variable (i : Fin 4) (c : Composition) (b : Option (Fin 32)) (a : StartCall) (s : State)

/-- What the recorded showing holds for its first reel (R71, R17). -/
theorem recordedShowing_facts :
    (recordedShowing i c b a s).timeline = openedTimeline i c a s.mgmt.limits.gap ∧
    (recordedShowing i c b a s).sound.cursor = (c.reels.head?).map (fun r => { reel := 0, unit := r.entry }) ∧
    (recordedShowing i c b a s).wanted = s.wanted ∧ (recordedShowing i c b a s).boundIdent = c.ident ∧
    (recordedShowing i c b a s).link.state = s.link.state ∧ appendsAtMost 8 s (recordedShowing i c b a s) := by
  obtain ⟨htl, hcursor, hcomps, -, -, hwanted, hlink, -⟩ := boundShowing_facts i c b a s
  have hatMost := appendsAtMost_trans (boundShowing_atMost i c b a s)
    (createRecord_atMost (openedRecord i c a.sched (boundShowing i c b a s)) (boundShowing i c b a s))
  obtain ⟨header, h⟩ := recordedShowing_reports i c b a s
  have hrtl : (recordedShowing i c b a s).timeline = openedTimeline i c a s.mgmt.limits.gap := h.timeline_eq.trans htl
  have hrcomps : (recordedShowing i c b a s).comps = s.comps.set i (.inUse c) := h.comps_eq.trans hcomps
  refine ⟨hrtl, (congrArg Sound.cursor h.sound_eq).trans hcursor, h.wanted_eq.trans hwanted, ?_, h.link_state_eq.trans hlink, hatMost⟩
  simp [State.boundIdent, hrtl, hrcomps, openedTimeline, Slot.comp]

end

/-! ## The first reel wanted -/

theorem reelTable_head (gap : Nat) (first : Reel) (rest : List Reel) :
    ∃ row, (reelTable gap (first :: rest))[0]? = some row ∧ row.reel = first := by
  cases rest <;> exact ⟨_, rfl, rfl⟩

/-- The first base of reel 0, the cursors standing at its entry point (R17). -/
theorem firstBase_of_start {r : Reel} {s : State} (hc : s.timeline.cursor = some { reel := 0, unit := r.entry, inGap := false })
    (hs : s.sound.cursor = some { reel := 0, unit := r.entry }) (l : Lane) : s.firstBase 0 r l = r.entry := by
  cases l <;> simp [State.firstBase, hc, hs]

/-- Reel 0 as the only member of the wanted set, at its entry point and with pictures to come (R17, R18, R19). -/
theorem updateWanted_addReel_first {s : State} {row : ReelRow} (hw : s.wanted = []) (hrow : s.row 0 = some row)
    (hc : s.timeline.cursor = some { reel := 0, unit := row.reel.entry, inGap := false })
    (hs : s.sound.cursor = some { reel := 0, unit := row.reel.entry }) (hentry : row.reel.entry < row.reel.dur)
    (hpics : row.reel.pics ≠ []) :
    updateWanted (addReel 0 s) = noteFinished (addReel 0 s) ∧
    (noteFinished (addReel 0 s)).wanted = [s.newMember 0 row.reel] ∧
    (addReel 0 s).link = s.link.offer (.want s.boundIdent 0 row.reel.ident row.reel.entry false) := by
  have hadd := addReel_of_row hrow
  have hadded : (addReel 0 s).wanted = [s.newMember 0 row.reel] := by
    rw [hadd, (queueReport_reports _ _).wanted_eq, hw]
    rfl
  have hundone : (s.newMember 0 row.reel).picturesDone = false := by
    obtain ⟨p, ps, hp⟩ := List.exists_cons_of_ne_nil hpics
    have hmem : p.lane ∈ row.reel.lanes := by simp [Reel.lanes, hp]
    have hbase : (s.newMember 0 row.reel).bases.get p.lane = some row.reel.entry := by
      rw [State.newMember, newBases_get, if_pos hmem, firstBase_of_start hc hs]
    have hreel : (s.newMember 0 row.reel).reel = row.reel := rfl
    rw [Wanted.picturesDone, hreel, hp, List.all_cons, hbase, Option.map_some, Option.getD_some,
      decide_eq_false (Nat.not_le.mpr hentry), Bool.false_and]
  have hnoted : (noteFinished (addReel 0 s)).wanted = [s.newMember 0 row.reel] := by
    rw [noteFinished_eq, hadded]
    simp only [List.map_cons, List.map_nil, hundone]
    rfl
  have htl : (noteFinished (addReel 0 s)).timeline = s.timeline := by
    obtain ⟨-, -, -, -, -, -, h, -⟩ := (contentFrom_of_stock (addReel_stock 0 s)).fields
    exact h
  have hnext : (noteFinished (addReel 0 s)).nextWanted = none := by
    obtain ⟨hnone, hsome⟩ := nextWanted_of_one hnoted
    cases hr : (noteFinished (addReel 0 s)).row ((s.newMember 0 row.reel).index + 1) with
    | none => exact hnone hr
    | some next => exact (hsome next hr).trans (if_neg fun h => nomatch h.1)
  have htaken : (noteFinished (addReel 0 s)).wanted.find? (noteFinished (addReel 0 s)).instantsTaken = none := by
    rw [hnoted, List.find?_singleton]
    refine if_neg ?_
    simp [State.instantsTaken, State.reelTaken, htl, hc, State.newMember]
  refine ⟨sortWanted_of_settled hnext htaken, hnoted, ?_⟩
  rw [hadd]
  rfl

section

variable {i : Fin 4} {c : Composition} {a : StartCall} {s : State} (b : Option (Fin 32)) {first : Reel} {rest : List Reel}

/-- The first reel of an opening showing is wanted, and its WANT is queued (R17, R71). -/
theorem openShowing_wanted (hw : s.wanted = []) (hreels : c.reels = first :: rest) (hentry : first.entry < first.dur)
    (hpics : first.pics ≠ []) :
    (∃ w, (openShowing i c b a s).wanted = [w] ∧ w.comp = c.ident ∧ w.index = 0 ∧ w.reel = first ∧ w.finished = false ∧
      ∀ l, w.bases.get l = if l ∈ first.lanes then some first.entry else none) ∧
    (s.link.state = .up → s.link.queue.length ≤ 40 →
      .want c.ident 0 first.ident first.entry false ∈ (openShowing i c b a s).link.queue) := by
  obtain ⟨htl, hsound, hwanted, hident, hlink, hatMost⟩ := recordedShowing_facts i c b a s
  rw [hreels] at hsound
  obtain ⟨row, hhead, hreel⟩ := reelTable_head s.mgmt.limits.gap first rest
  have hrow : (recordedShowing i c b a s).row 0 = some row := by
    rw [State.row, htl, openedTimeline, hreels]
    exact hhead
  have hcursor : (recordedShowing i c b a s).timeline.cursor = some { reel := 0, unit := row.reel.entry, inGap := false } := by
    rw [htl, openedTimeline, hreels, hreel]
    rfl
  obtain ⟨hupdate, hmember, hoffer⟩ := updateWanted_addReel_first (hwanted.trans hw) hrow hcursor
    (hsound.trans (by rw [hreel]; rfl)) (by rw [hreel]; exact hentry) (by rw [hreel]; exact hpics)
  have hshowing : wantedShowing i c b a s = noteFinished (addReel 0 (recordedShowing i c b a s)) := hupdate
  obtain ⟨-, -, -, hopened, -⟩ := openShowing_facts i c b a s
  refine ⟨⟨(recordedShowing i c b a s).newMember 0 row.reel, ?_, hident, rfl, hreel, rfl, fun l => ?_⟩, fun hup hroom => ?_⟩
  · rw [hopened, hshowing]
    exact hmember
  · rw [State.newMember, newBases_get, hreel, firstBase_of_start (r := first) (by rw [hcursor, hreel]) hsound]
  · have hin : .want c.ident 0 first.ident first.entry false ∈ (wantedShowing i c b a s).link.queue := by
      have hlinked : (wantedShowing i c b a s).link = (addReel 0 (recordedShowing i c b a s)).link := by
        rw [hshowing, noteFinished_eq]
      have hlen := hatMost.length_le
      rw [hlinked, hoffer, hident, hreel]
      exact LinkPort.mem_offer_self (hlink.trans hup) (by omega)
    rw [openShowing_eq]
    generalize wantedShowing i c b a s = v at hin
    exact (enterState_appendsEvents .cueing (resolveActions v)).mem hin

end

/-- Settles O36, by the effects of an accepted START one after another. -/
theorem showingOpens : Obligations.ShowingOpens := by
  intro i c b a s
  obtain ⟨htl, hcomps, hcounting, -, htable⟩ := openShowing_facts i c b a s
  obtain ⟨-, -, -, hbound, hclock, -⟩ := boundShowing_facts i c b a s
  obtain ⟨header, hrecorded⟩ := recordedShowing_reports i c b a s
  rw [hrecorded.counting_eq, hbound] at hcounting
  refine ⟨openShowing i c b a s, (boundShowing i c b a s).placed (openedRecord i c a.sched (boundShowing i c b a s)), rfl,
    by rw [htl], by rw [htl]; rfl, by rw [htl]; rfl, by rw [htl]; rfl, by rw [htl]; rfl, by rw [htl]; rfl, by rw [htl]; rfl, by rw [htl]; rfl,
    by rw [hcomps]; simp, by rw [hcounting], by rw [hcounting], fun hb => by rw [hcounting, hb]; rfl, fun n hb => by rw [hcounting, hb]; rfl,
    ?_, rfl, ?_, rfl, rfl, ?_, rfl, ?_, rfl, by rw [hcounting], ⟨_, rfl, rfl, by rw [hcounting]⟩,
    fun first rest hw hreels hentry hpics => ⟨?_, openShowing_wanted b hw hreels hentry hpics⟩, fun j hj => ?_⟩
  · rw [hcounting]
    exact List.mem_append_right _ (List.mem_singleton_self _)
  · change (boundShowing i c b a s).counting.next = _
    rw [hbound]
  · change (boundShowing i c b a s).counting.bound.map Fin.val = _
    rw [hbound]
  · change (boundShowing i c b a s).clock.now = _
    rw [hclock]
  · rw [htl, openedTimeline, hreels]
    rfl
  · have hentry : (openShowing i c b a s).actions.table[j] =
        ActionEntry.resolve (reelTable s.mgmt.limits.gap c.reels) s.actions.table[j] := by
      simp only [htable, getElem_mapVec]
    have htimeline : (openShowing i c b a s).timeline.table = reelTable s.mgmt.limits.gap c.reels := by rw [htl]; rfl
    rw [hentry, htimeline]
    refine ⟨_, rfl, fun sel atEnd offset he ht => ?_, fun h => ?_⟩
    · simp only [he, ht]
      rfl
    · obtain he | ht := h
      · simp only [he]
      · split
        · next ht' => exact absurd ht' (ht _ _ _)
        · rfl

end Sys2Proof.Machine

/-! PROOF. The obligation on START and on what the Timeline makes of settled leads (R41, R70 to R73, R83). -/

namespace Sys2Proof.Machine

/-! ## What the Timeline makes of leads -/

section

variable {u : State}

/-- A CUEING showing (R72, R73). -/
theorem actOnLeads_cueing (h : u.timeline.state = .cueing) :
    (u.startMet = false → actOnLeads u = u) ∧
    (u.startMet = true → u.startReached = false → (actOnLeads u).timeline = { u.timeline with state := .ready } ∧
      reportsFrom { u with timeline := (actOnLeads u).timeline, sync := (actOnLeads u).sync } (actOnLeads u)) ∧
    (u.startMet = true → u.startReached = true → PlaysFrom u (actOnLeads u)) := by
  rw [actOnLeads_of_cueing h]
  refine ⟨fun hm => if_neg (by simp [hm]), fun hm hr => ?_, fun hm hr => ?_⟩
  · rw [if_pos hm, enterReady_eq, hr, if_neg nofun]
    exact enterState_settled .ready u
  · rw [if_pos hm, enterReady_eq, if_pos hr]
    obtain ⟨frame, hentered⟩ := enterState_reports .ready u
    exact playsFrom_congr hentered.timeline_eq hentered.sound_eq (enterPlaying_plays _)

/-- A READY showing (R72). -/
theorem actOnLeads_ready (h : u.timeline.state = .ready) :
    (u.startMet = true → actOnLeads u = u) ∧
    (u.startMet = false → (actOnLeads u).timeline = { u.timeline with state := .cueing } ∧
      reportsFrom { u with timeline := (actOnLeads u).timeline, sync := (actOnLeads u).sync } (actOnLeads u)) := by
  rw [actOnLeads_of_ready h]
  refine ⟨fun hm => if_pos hm, fun hm => ?_⟩
  rw [hm, if_neg nofun]
  exact enterState_settled .cueing u

/-- A STALLED showing whose resume lead is met plays on from where P holds (R83). -/
theorem resumePlaying_stalled : (resumePlaying u).timeline.state = .playing ∧ (resumePlaying u).timeline.stallTimer = none ∧
    (resumePlaying u).timeline.missing ≤ 1 ∧ (resumePlaying u).isAsserted .stall = false ∧
    (∀ (c : Cursor) (row : ReelRow), u.timeline.cursor = some c → u.row c.reel = some row → row.reel.entry < c.unit →
      (row.instant c.unit = u.timeline.p → (resumePlaying u).timeline.interval = some { reel := c.reel, unit := c.unit } ∧
        (resumePlaying u).timeline.cursor = (u.unitAfter c.reel c.unit).map UnitRef.cursor) ∧
      (row.instant c.unit ≠ u.timeline.p → (resumePlaying u).timeline = { u.timeline with
        state := .playing, missing := 0, stallTimer := none, intermission := none, pauseReason := none })) ∧
    (∀ (c : Cursor) (row next : ReelRow), u.timeline.cursor = some c → 0 < c.reel → u.row (c.reel - 1) = some row →
      u.row c.reel = some next → c.unit = next.reel.entry → row.endTick = u.timeline.p → 0 < next.gap →
      (resumePlaying u).timeline.cursor = some { c with inGap := true } ∧ (resumePlaying u).picture.shown = none) := by
  obtain ⟨hstate, -, -, -, htimer, -, -, -, -, -, -, hstall⟩ := resumePlaying_facts u
  obtain ⟨htl, -, -⟩ := playingEntry_facts u
  rw [resumePlaying_eq] at hstate htimer hstall ⊢
  generalize playingEntry u = v at htl hstate htimer hstall ⊢
  have hrow : ∀ k, v.row k = u.row k := row_congr (by rw [htl])
  have hmissing := continueAt_missing_le v
  rw [htl] at hmissing
  refine ⟨hstate, htimer, hmissing, hstall, fun c row hc hr hentry => ?_, fun c row next hc hreel hr hn hunit hend hgap => ?_⟩
  · obtain ⟨hat, hwaits⟩ := continueAt_past_entry (s := v) (c := c) (by rw [htl]; exact hc) ((hrow _).trans hr) hentry
    have hp : v.timeline.p = u.timeline.p := by rw [htl]
    rw [hp] at hat hwaits
    refine ⟨fun h => ?_, fun h => ?_⟩
    · have hafter : v.unitAfter c.reel c.unit = u.unitAfter c.reel c.unit := unitAfter_congr (by rw [htl]) _ _
      rw [hat h, releaseUnit_timeline, hafter]
      exact ⟨rfl, rfl⟩
    · rw [hwaits h, htl]
  · rw [continueAt_boundary (s := v) (c := c) (row := row) (next := next) (by rw [htl]; exact hc) hreel ((hrow _).trans hr)
      ((hrow _).trans hn) hunit (by rw [htl]; exact hend), crossBoundary_of_gap hgap]
    have hbtl : (blackened row next v).timeline = v.timeline := by rw [blackened_eq]
    obtain ⟨hgtl, hshown, -⟩ := enterGap_facts (next := next) (s := blackened row next v) (c := c) (by rw [hbtl, htl])
      (by rw [hbtl, htl]; exact hc)
    rw [hgtl]
    exact ⟨rfl, hshown⟩

end

/-- What follows settled leads, state by state (R72, R73, R83). -/
theorem leads_outcome {s u t : State} (ht : t = actOnLeads u) (hutl : u.timeline = s.timeline) (husound : u.sound = s.sound)
    (huclock : u.clock = s.clock) :
    t.timeline.p = s.timeline.p ∧
    (s.timeline.state = .cueing →
      (u.startMet = false → t = u) ∧
      (u.startMet = true → s.startReached = false → t.timeline = { s.timeline with state := .ready } ∧
        reportsFrom { u with timeline := t.timeline, sync := t.sync } t) ∧
      (u.startMet = true → s.startReached = true → PlaysFrom s t)) ∧
    (s.timeline.state = .ready →
      (u.startMet = true → t = u) ∧
      (u.startMet = false → t.timeline = { s.timeline with state := .cueing } ∧
        reportsFrom { u with timeline := t.timeline, sync := t.sync } t) ∧
      (s.startReached = true → PlaysFrom s (checkStart s)) ∧ (s.startReached = false → checkStart s = s)) ∧
    (s.timeline.state ≠ .ready → checkStart s = s) ∧
    (s.timeline.state = .stalled →
      (u.resumeMet = false → t = u) ∧
      (u.resumeMet = true → t.timeline.state = .playing ∧ t.timeline.stallTimer = none ∧ t.timeline.missing ≤ 1 ∧
        t.isAsserted .stall = false ∧
        (∀ (c : Cursor) (row : ReelRow), s.timeline.cursor = some c → s.row c.reel = some row → row.reel.entry < c.unit →
          (row.instant c.unit = s.timeline.p → t.timeline.interval = some { reel := c.reel, unit := c.unit } ∧
            t.timeline.cursor = (s.unitAfter c.reel c.unit).map UnitRef.cursor) ∧
          (row.instant c.unit ≠ s.timeline.p → t.timeline = { s.timeline with
            state := .playing, missing := 0, stallTimer := none, intermission := none, pauseReason := none })) ∧
        (∀ (c : Cursor) (row next : ReelRow), s.timeline.cursor = some c → 0 < c.reel → s.row (c.reel - 1) = some row →
          s.row c.reel = some next → c.unit = next.reel.entry → row.endTick = s.timeline.p → 0 < next.gap →
          t.timeline.cursor = some { c with inGap := true } ∧ t.picture.shown = none))) ∧
    (s.timeline.state ≠ .cueing → s.timeline.state ≠ .ready → s.timeline.state ≠ .stalled → t = u) := by
  have hreached : u.startReached = s.startReached := startReached_congr s (by rw [hutl]) huclock
  have hrow : ∀ k, u.row k = s.row k := row_congr (by rw [hutl])
  have hafter : ∀ k v, u.unitAfter k v = s.unitAfter k v := unitAfter_congr (by rw [hutl])
  rw [ht]
  refine ⟨actOnLeads_p.trans (by rw [hutl]), fun hs => ?_, fun hs => ?_, fun hs => if_neg fun h => hs h.1, fun hs => ?_,
    fun hc hr hst => actOnLeads_of_other (by rw [hutl]; exact hc) (by rw [hutl]; exact hr) (by rw [hutl]; exact hst)⟩
  · obtain ⟨h1, h2, h3⟩ := actOnLeads_cueing (u := u) (by rw [hutl]; exact hs)
    rw [hutl, hreached] at h2
    rw [hreached] at h3
    exact ⟨h1, h2, fun hm hr => playsFrom_congr (st := .cueing) (by rw [hutl, ← hs]) husound (h3 hm hr)⟩
  · obtain ⟨h1, h2⟩ := actOnLeads_ready (u := u) (by rw [hutl]; exact hs)
    rw [hutl] at h2
    refine ⟨h1, h2, fun hr => ?_, fun hr => if_neg fun h => by rw [hr] at h; cases h.2⟩
    rw [checkStart, if_pos ⟨hs, hr⟩]
    exact enterPlaying_plays s
  · have hstalled := actOnLeads_of_stalled (u := u) (by rw [hutl]; exact hs)
    rw [hstalled]
    refine ⟨fun hm => if_neg (by simp [hm]), fun hm => ?_⟩
    rw [if_pos hm]
    have hresume := resumePlaying_stalled (u := u)
    simp only [hutl, hrow, hafter] at hresume
    exact hresume

/-- Settles O35, by START's tests in order, and by what the Timeline makes of settled leads in each state. -/
theorem startTestedInOrder : Obligations.StartTestedInOrder := by
  refine ⟨fun a s => ⟨startTests_of_not_started, startTests_of_open, fun h h' hr => ?_, fun h h' hr hc => ?_, fun i c b h => ?_,
      fun h h' hr hc => ⟨fun hf => ?_, fun hf hl => ?_, fun hf hl => ?_⟩, logRoom_iff s⟩,
    fun tag a s hserves => exec_start tag a hserves, fun i c b a s => ⟨rfl, ?opened⟩,
    fun s need => ⟨leadMet_iff s need, rfl, rfl, startReached_eq_false_iff s⟩, fun before s => ?leads⟩
  · rw [startTests_of_idle h h', if_pos hr]
  · rw [startTests_of_idle h h', if_neg (by simp [hr]), if_pos hc]
  · obtain ⟨-, -, -, hfault, hroom, hcomp, hfeature, hhouse⟩ := startTests_ok h
    exact ⟨hcomp, hroom, hfault, hfeature, hhouse⟩
  · rw [startTests_of_idle h h', if_neg (by simp [hr]), if_neg (by simp [hc]), if_pos hf]
  · rw [startTests_of_idle h h', if_neg (by simp [hr]), if_neg (by simp [hc]), if_neg (by simp [hf]), if_pos hl]
  · have htests : startTests a s = startSlotTests a s := by
      rw [startTests_of_idle h h', if_neg (by simp [hr]), if_neg (by simp [hc]), if_neg (by simp [hf]), if_neg (by simp [hl])]
    rw [htests]
    exact ⟨startSlotTests_of_no_slot, fun i c hslot hc => startSlotTests_of_loaded hslot hc⟩
  case opened =>
    obtain ⟨htl, -⟩ := openShowing_facts i c b a s
    have hzero : (openShowing i c b a s).timeline.p = 0 := by rw [htl]; rfl
    have haccept : acceptStart i c b a s = settleFrom (openShowing i c b a s) (openShowing i c b a s) := rfl
    rw [haccept]
    generalize openShowing i c b a s = o at hzero
    obtain ⟨hotl, -⟩ := settleLeads_leaves o o
    rw [settleFrom_eq, actOnLeads_p, hotl]
    exact hzero
  case leads =>
    obtain ⟨hutl, husound, -⟩ := settleLeads_leaves before s
    obtain ⟨-, -, -, -, huclock, -⟩ := (settleLeads_content before s).fields
    exact leads_outcome (settleFrom_eq before s) hutl husound huclock

end Sys2Proof.Machine

/-! PROOF. Entry to UP: the two deassertions, the re-announcement and the slots of another stride (R3, R15, R33). -/

namespace Sys2Proof.Machine

/-! ## Reports offered in a row -/

/-- Reports that find room, no two of them HOLDs of one lane, join the tail in their order (R12, R13). -/
theorem LinkPort.offer_all : ∀ (rs : List Report) (l : LinkPort), l.state = .up → (l.queue ++ rs).length ≤ 64 →
    ((l.queue ++ rs).filterMap Report.holdLane).Nodup → rs.foldl LinkPort.offer l = { l with queue := l.queue ++ rs }
  | [], l, _, _, _ => by simp
  | r :: rs, l, hup, hroom, hnodup => by
    have hstep : l.offer r = { l with queue := l.queue ++ [r] } := by
      rw [LinkPort.offer_of_not_replaced hup, if_pos (by simp at hroom; omega)]
      intro lane hlane
      refine replaceHold_of_none fun x hx hxl => ?_
      rw [List.filterMap_append, List.filterMap_cons, hlane] at hnodup
      obtain ⟨-, -, hdisjoint⟩ := List.nodup_append.mp hnodup
      exact hdisjoint lane (List.mem_filterMap.mpr ⟨x, List.mem_of_mem_drop hx, hxl⟩) lane (List.mem_cons_self ..) rfl
    have happend : l.queue ++ r :: rs = l.queue ++ [r] ++ rs := by simp
    rw [happend] at hroom hnodup ⊢
    rw [List.foldl_cons, hstep, LinkPort.offer_all rs { l with queue := l.queue ++ [r] } hup hroom hnodup]

theorem foldl_queueReport {α : Type} (f : α → Report) : ∀ (ls : List α) (s : State),
    ls.foldl (fun s a => queueReport (f a) s) s = { s with link := (ls.map f).foldl LinkPort.offer s.link }
  | [], _ => rfl
  | a :: ls, s => by
    rw [List.foldl_cons, foldl_queueReport f ls]
    rfl

/-- The HOLDs of some lanes carry the tags and the hold time of the state that they begin with. -/
theorem foldl_queueHold (s : State) : ∀ (ls : List AvLane) (t : State), t.wanted = s.wanted → t.mgmt = s.mgmt →
    ls.foldl (fun s l => queueHold l s.mgmt.limits.holdMs s) t =
      { t with link := (ls.map (fun l => .hold l (s.holdTags l) s.mgmt.limits.holdMs)).foldl LinkPort.offer t.link }
  | [], _, _, _ => rfl
  | a :: ls, t, hw, hm => by
    have hstep : queueHold a t.mgmt.limits.holdMs t = queueReport (.hold a (s.holdTags a) s.mgmt.limits.holdMs) t := by
      rw [queueHold, holdTags_congr hw, hm]
    rw [List.foldl_cons, hstep, foldl_queueHold s ls (queueReport (.hold a (s.holdTags a) s.mgmt.limits.holdMs) t) hw hm]
    rfl

/-- The re-announcement offers its reports in a row (R15). -/
theorem reannounce_eq (s : State) : reannounce s = { s with link := s.announcement.foldl LinkPort.offer s.link } := by
  unfold reannounce
  rw [foldl_queueReport (fun w : Wanted => w.report false),
    foldl_queueHold s _ { s with link := (s.wanted.map (fun w => w.report false)).foldl LinkPort.offer s.link } rfl rfl,
    State.announcement, List.foldl_append]
  rfl

/-- The lanes of the HOLDs of a re-announcement. -/
theorem announcement_lanes (s : State) : s.announcement.filterMap Report.holdLane = avLanes.filter (fun l => (s.hold l).held) := by
  have hwants : ∀ ws : List Wanted, (ws.map (fun w => Report.want w.comp w.index w.reel.ident w.reel.entry false)).filterMap
      Report.holdLane = [] := fun ws => by
    rw [List.filterMap_map]
    exact List.filterMap_eq_nil_iff.mpr fun _ _ => rfl
  rw [State.announcement, List.filterMap_append, hwants, List.filterMap_map, List.nil_append]
  exact List.filterMap_some

theorem announcement_length (s : State) : s.announcement.length ≤ s.wanted.length + 6 := by
  have hlen : (avLanes.filter (fun l => (s.hold l).held)).length ≤ 6 := List.length_filter_le _ avLanes
  rw [State.announcement, List.length_append, List.length_map, List.length_map]
  omega

/-! ## Deassertions recorded -/

theorem clearReport_length (s : State) (k : EventKind) : (s.clearReport k).length ≤ 1 := by
  unfold State.clearReport
  split <;> simp

theorem clearReport_lanes (s : State) (k : EventKind) : (s.clearReport k).filterMap Report.holdLane = [] := by
  unfold State.clearReport
  split <;> simp [Report.holdLane]

/-- A deassertion recorded with room in the queue: the record, and the report where the mask calls for one (R146, R148). -/
theorem recordClear_of_room {k : EventKind} {s : State} (hup : s.link.state = .up) (hroom : s.link.queue.length < 64) :
    reportsFrom s (recordClear k s) ∧ (recordClear k s).link.queue = s.link.queue ++ s.clearReport k ∧
    (recordClear k s).isAsserted k = false ∧ ∀ j, j ≠ k → (recordClear k s).event j = s.event j := by
  unfold recordClear
  split
  next h =>
    refine ⟨recordDeassert_reports k s, ?_, by rw [State.isAsserted, event_recordDeassert, if_pos rfl],
      fun j hj => by rw [event_recordDeassert, if_neg hj]⟩
    unfold recordDeassert reportEvent State.clearReport
    rw [event_setEvent, if_pos rfl]
    by_cases hmask : (s.event k).onDeassert = true
    · have hoffer := LinkPort.offer_of_room (r := .event k.num .clear (s.event k).count (some s.stamp)) hup rfl hroom
      rw [if_pos hmask, if_pos ⟨h, hmask⟩]
      exact congrArg LinkPort.queue hoffer
    · rw [if_neg hmask, if_neg (fun h' => hmask h'.2), List.append_nil]
      rfl
  next h =>
    rw [State.clearReport, if_neg (fun h' => h h'.1), List.append_nil]
    exact ⟨reportsFrom_refl s, rfl, by simpa using h, fun _ _ => rfl⟩

theorem fireClear_reports (k : EventKind) (was : Bool) (s : State) : reportsFrom s (fireClear k was s) := by
  unfold fireClear
  split
  · exact fireTrigger_reports _ s
  · exact reportsFrom_refl s

theorem fireClear_appendsEvents (k : EventKind) (was : Bool) (s : State) : appendsEvents s (fireClear k was s) := by
  unfold fireClear
  split
  · exact fireTrigger_appendsEvents _ s
  · exact appendsEvents_refl s

theorem fireClear_event (k : EventKind) (was : Bool) (s : State) {j : EventKind} (h : j ≠ .actionOverflow) :
    (fireClear k was s).event j = s.event j := by
  unfold fireClear
  split
  · exact event_fireTrigger s j _ h
  · rfl

/-! ## Slots of another stride -/

/-- A slot of another stride than the limit that is still FILLING (R33). -/
def misfit (limit : Nat) (x : AsmSlot) : Bool := !x.complete && decide (x.content.stride ≠ limit)

/-- The slots of another stride leave some lanes (R33). -/
def dropMisfits (limit : Nat) (ls : List Lane) (s : State) : State :=
  ls.foldl (fun s l => emptySlots l (misfit limit) noteAbandoned s) s

theorem dropMisfits_cons (limit : Nat) (a : Lane) (ls : List Lane) (s : State) :
    dropMisfits limit (a :: ls) s = dropMisfits limit ls (emptySlots a (misfit limit) noteAbandoned s) := rfl

/-- The slots of another stride leave some lanes: their blocks return and they are counted (R33, R34). -/
theorem dropMisfits_lanes (limit : Nat) (s : State) : ∀ (ls : List Lane) (t : State), ls.Nodup →
    (∀ l ∈ ls, t.laneSlots l = s.laneSlots l) →
      (∀ m, (dropMisfits limit ls t).laneSlots m =
        if m ∈ ls then (t.laneSlots m).filter (fun x => !misfit limit x) else t.laneSlots m) ∧
      (dropMisfits limit ls t).buffer.pool = t.buffer.pool + (ls.map (fun l => slotBlocks (s.misfits limit l))).sum ∧
      (∀ n, t.counters.abandoned = min 4294967295 n →
        (dropMisfits limit ls t).counters.abandoned = min 4294967295 (n + (ls.map (fun l => (s.misfits limit l).length)).sum))
  | [], t, _, _ => ⟨fun m => by simp [dropMisfits], by simp [dropMisfits], fun n hn => by simpa [dropMisfits] using hn⟩
  | a :: ls, t, hnodup, hsame => by
    obtain ⟨ha, hls⟩ := List.nodup_cons.mp hnodup
    have hslots : ∀ m, (emptySlots a (misfit limit) noteAbandoned t).laneSlots m =
        if m = a then (t.laneSlots a).filter (fun x => !misfit limit x) else t.laneSlots m := fun m =>
      emptySlots_laneSlots a m (misfit limit) noteAbandoned t
    have hmisfits : (t.laneSlots a).filter (misfit limit) = s.misfits limit a := by
      rw [hsame a (List.mem_cons_self ..)]; rfl
    obtain ⟨hlanes, hpool, hcount⟩ := dropMisfits_lanes limit s ls (emptySlots a (misfit limit) noteAbandoned t) hls
      (fun l hl => by rw [hslots, if_neg (fun h : l = a => ha (h ▸ hl)), hsame l (List.mem_cons_of_mem _ hl)])
    rw [dropMisfits_cons]
    refine ⟨fun m => ?_, ?_, fun n hn => ?_⟩
    · rw [hlanes, hslots]
      by_cases hm : m = a
      · subst hm; simp [ha]
      · simp [hm]
    · rw [hpool, emptySlots_pool, hmisfits, List.map_cons, List.sum_cons]
      omega
    · have hfirst : (emptySlots a (misfit limit) noteAbandoned t).counters.abandoned =
          min 4294967295 (t.counters.abandoned + (s.misfits limit a).length) := by
        rw [(emptySlots_reports a (misfit limit) noteAbandoned t).counters_eq, hmisfits]
        rfl
      rw [hcount (n + (s.misfits limit a).length) (by rw [hfirst, hn]; omega), List.map_cons, List.sum_cons]
      congr 1
      omega

theorem compareStrides_eq (limit : Nat) (s : State) :
    compareStrides limit s = dropMisfits limit allLanes s := rfl

/-- The slots of another stride leave one lane or more, and each of them is counted once (R33, R34). -/
theorem dropMisfits_abandoned (limit : Nat) (s : State) {ls : List Lane} (hnodup : ls.Nodup) (hne : ls ≠ []) :
    (dropMisfits limit ls s).counters.abandoned =
      min 4294967295 (s.counters.abandoned + (ls.map (fun l => (s.misfits limit l).length)).sum) := by
  cases ls with
  | nil => exact absurd rfl hne
  | cons a as =>
    obtain ⟨ha, has⟩ := List.nodup_cons.mp hnodup
    have hcounted : (emptySlots a (misfit limit) noteAbandoned s).counters.abandoned =
        min 4294967295 (s.counters.abandoned + (s.misfits limit a).length) := by
      rw [(emptySlots_reports a (misfit limit) noteAbandoned s).counters_eq]
      rfl
    obtain ⟨-, -, hcount⟩ := dropMisfits_lanes limit s as (emptySlots a (misfit limit) noteAbandoned s) has
      (fun l hl => by rw [emptySlots_laneSlots, if_neg (fun h : l = a => ha (h ▸ hl))])
    rw [dropMisfits_cons, hcount _ hcounted, List.map_cons, List.sum_cons, Nat.add_assoc]

theorem allLanes_ne_nil : allLanes ≠ [] := List.ne_nil_of_mem (mem_allLanes (.pic 0))

/-- The comparison of strides, lane by lane (R33). -/
theorem compareStrides_lanes (limit : Nat) (s : State) :
    (∀ l, (compareStrides limit s).laneSlots l = (s.laneSlots l).filter (fun x => !misfit limit x)) ∧
    (compareStrides limit s).buffer.pool = s.buffer.pool + sumLanes (fun l => slotBlocks (s.misfits limit l)) ∧
    (compareStrides limit s).counters.abandoned =
      min 4294967295 (s.counters.abandoned + sumLanes (fun l => (s.misfits limit l).length)) := by
  obtain ⟨hslots, hpool, -⟩ := dropMisfits_lanes limit s allLanes s nodup_allLanes (fun _ _ => rfl)
  have habandoned := dropMisfits_abandoned limit s nodup_allLanes allLanes_ne_nil
  rw [compareStrides_eq, sumLanes_eq_sum, sumLanes_eq_sum]
  exact ⟨fun l => (hslots l).trans (if_pos (mem_allLanes l)), hpool, habandoned⟩

theorem compareStrides_frame (limit : Nat) (s : State) : appendsEvents s (compareStrides limit s) ∧
    (compareStrides limit s).wanted = s.wanted ∧ (compareStrides limit s).holds = s.holds ∧
    (compareStrides limit s).cues = s.cues ∧ (∀ l, (compareStrides limit s).queue l = s.queue l) ∧
    ∀ k, k ≠ .bufferFull → k ≠ .actionOverflow → (compareStrides limit s).event k = s.event k := by
  have hstep : ∀ (l : Lane) (t : State), (emptySlots l (misfit limit) noteAbandoned t).wanted = t.wanted ∧
      (emptySlots l (misfit limit) noteAbandoned t).holds = t.holds ∧ (emptySlots l (misfit limit) noteAbandoned t).cues = t.cues :=
    fun l t => by
      have h := emptySlots_reports l (misfit limit) noteAbandoned t
      exact ⟨h.wanted_eq, h.holds_eq, h.cues_eq⟩
  have hfold : ∀ (ls : List Lane) (t : State), appendsEvents t (dropMisfits limit ls t) ∧
      (dropMisfits limit ls t).wanted = t.wanted ∧ (dropMisfits limit ls t).holds = t.holds ∧
      (dropMisfits limit ls t).cues = t.cues ∧ (∀ l, (dropMisfits limit ls t).queue l = t.queue l) ∧
      ∀ k, k ≠ .bufferFull → k ≠ .actionOverflow → (dropMisfits limit ls t).event k = t.event k := by
    intro ls
    induction ls with
    | nil => exact fun t => ⟨appendsEvents_refl _, rfl, rfl, rfl, fun _ => rfl, fun _ _ _ => rfl⟩
    | cons a as ih =>
      intro t
      obtain ⟨he, hw, hh, hc, hq, hv⟩ := ih (emptySlots a (misfit limit) noteAbandoned t)
      obtain ⟨hw', hh', hc'⟩ := hstep a t
      rw [dropMisfits_cons]
      exact ⟨appendsEvents_trans (emptySlots_appendsEvents a _ _ t) he, hw.trans hw', hh.trans hh', hc.trans hc',
        fun l => (hq l).trans (emptySlots_queue a l _ _ t),
        fun k h1 h2 => (hv k h1 h2).trans (event_emptySlots a _ _ t h1 h2)⟩
  rw [compareStrides_eq]
  exact hfold allLanes s

/-! ## Entry to UP -/

/-- The state on entry to UP with its first reports queued, before the actions fire and the slots are compared (R3, R15). -/
def announcedUp (limit lanes : Nat) (s : State) : State :=
  reannounce (recordClear .linkDown (recordClear .linkFault { s with link := s.link.enterUp limit lanes }))

/-- The actions of the two deassertions have fired and the slots of another stride have left (R3, R33). -/
def settledUp (limit lanes : Nat) (s : State) : State :=
  compareStrides limit (fireClear .linkDown (s.isAsserted .linkDown) (fireClear .linkFault (s.isAsserted .linkFault)
    (announcedUp limit lanes s)))

theorem enterUp_eq (limit lanes : Nat) (s : State) :
    enterUp limit lanes s = { settledUp limit lanes s with link := (settledUp limit lanes s).link.firstCell } := rfl

section

variable (limit lanes : Nat) (s : State)

theorem announcement_congr {t : State} (hw : t.wanted = s.wanted) (hh : t.holds = s.holds) (hm : t.mgmt = s.mgmt) :
    t.announcement = s.announcement := by
  have htags : ∀ l, t.holdTags l = s.holdTags l := holdTags_congr hw
  have hhold : ∀ l, t.hold l = s.hold l := hold_congr hh
  simp only [State.announcement, hw, hm, htags, hhold]

/-- The records of the two link events and the frame of the announcement (R3, R15). -/
theorem announcedUp_frame :
    reportsFrom { s with link := s.link.enterUp limit lanes } (announcedUp limit lanes s) ∧
    (announcedUp limit lanes s).isAsserted .linkFault = false ∧ (announcedUp limit lanes s).isAsserted .linkDown = false ∧
    (s.wanted.length ≤ 2 → (announcedUp limit lanes s).link.queue =
      s.clearReport .linkFault ++ s.clearReport .linkDown ++ s.announcement) := by
  let s0 : State := { s with link := s.link.enterUp limit lanes }
  have hs0 : s0 = { s with link := s.link.enterUp limit lanes } := rfl
  rw [← hs0]
  obtain ⟨hfrom1, hq1, ha1, hv1⟩ := recordClear_of_room (k := .linkFault) (s := s0) rfl (by simp [hs0, LinkPort.enterUp])
  let s1 := recordClear .linkFault s0
  have hq1' : s1.link.queue = s.clearReport .linkFault := hq1.trans (List.nil_append _)
  have hlen1 := clearReport_length s .linkFault
  obtain ⟨hfrom2, hq2, ha2, hv2⟩ := recordClear_of_room (k := .linkDown) (s := s1) (hfrom1.link_state_eq.trans rfl)
    (by rw [hq1']; omega)
  let s2 := recordClear .linkDown s1
  have hs2 : s2 = recordClear .linkDown s1 := rfl
  have hfrom : reportsFrom s0 s2 := reportsFrom_trans hfrom1 hfrom2
  have hclear : s1.clearReport .linkDown = s.clearReport .linkDown := by
    have hevent : s1.event .linkDown = s.event .linkDown := hv1 .linkDown (by decide)
    rw [State.clearReport, State.clearReport, State.isAsserted, State.isAsserted, hevent, State.stamp, hfrom1.clock_eq]
    rfl
  have hannounced : announcedUp limit lanes s = { s2 with link := s2.announcement.foldl LinkPort.offer s2.link } :=
    reannounce_eq s2
  have hannounce : s2.announcement = s.announcement := announcement_congr s hfrom.wanted_eq hfrom.holds_eq hfrom.mgmt_eq
  have hlink : (s2.announcement.foldl LinkPort.offer s2.link) =
      { s2.link with queue := (s2.announcement.foldl LinkPort.offer s2.link).queue } := LinkPort.foldl_offer_eq _ _
  refine ⟨?_, ?_, ?_, fun hwanted => ?_⟩
  · rw [hannounced]
    obtain ⟨q, ev, aq, al, at_, dropped, hs2eq⟩ := hfrom.exists_eq
    unfold reportsFrom
    rw [hlink, hs2eq]
  · rw [hannounced]
    change (s2.event .linkFault).asserted = false
    rw [hv2 .linkFault (by decide)]
    exact ha1
  · rw [hannounced]
    exact ha2
  · have hup : s2.link.state = .up := hfrom.link_state_eq.trans rfl
    have hqueue : s2.link.queue = s.clearReport .linkFault ++ s.clearReport .linkDown := by rw [hq2, hq1', hclear]
    have hlen2 := clearReport_length s .linkDown
    have hlen3 := announcement_length s
    rw [hannounced, hannounce, LinkPort.offer_all s.announcement s2.link hup, hqueue]
    · rw [hqueue, List.length_append, List.length_append]
      omega
    · rw [hqueue, List.filterMap_append, List.filterMap_append, clearReport_lanes, clearReport_lanes, announcement_lanes,
        List.nil_append, List.nil_append]
      exact nodup_avLanes.filter _

/-- The actions of the two deassertions have fired (R3, notes/assumptions/23.md). -/
def firedUp (limit lanes : Nat) (s : State) : State :=
  fireClear .linkDown (s.isAsserted .linkDown) (fireClear .linkFault (s.isAsserted .linkFault) (announcedUp limit lanes s))

theorem settledUp_eq : settledUp limit lanes s = compareStrides limit (firedUp limit lanes s) := rfl

/-- The actions leave the records of the link events and add booth messages alone (R152). -/
theorem firedUp_frame :
    reportsFrom { s with link := s.link.enterUp limit lanes } (firedUp limit lanes s) ∧
    (firedUp limit lanes s).isAsserted .linkFault = false ∧ (firedUp limit lanes s).isAsserted .linkDown = false ∧
    appendsEvents (announcedUp limit lanes s) (firedUp limit lanes s) := by
  obtain ⟨hfrom, hfault, hdown, -⟩ := announcedUp_frame limit lanes s
  unfold firedUp
  generalize announcedUp limit lanes s = a at *
  have hkeep : ∀ k, k ≠ .actionOverflow → (fireClear .linkDown (s.isAsserted .linkDown)
      (fireClear .linkFault (s.isAsserted .linkFault) a)).isAsserted k = a.isAsserted k := fun k hk =>
    congrArg EventRec.asserted ((fireClear_event _ _ _ hk).trans (fireClear_event _ _ _ hk))
  exact ⟨reportsFrom_trans hfrom (reportsFrom_trans (fireClear_reports _ _ _) (fireClear_reports _ _ _)),
    (hkeep _ (by decide)).trans hfault, (hkeep _ (by decide)).trans hdown,
    appendsEvents_trans (fireClear_appendsEvents _ _ _) (fireClear_appendsEvents _ _ _)⟩

/-- The comparison of strides, seen from a state with the same slots (R33). -/
theorem compareStrides_after {s0 b : State} (h : reportsFrom s0 b) :
    contentFrom s0 (compareStrides limit b) ∧
    (compareStrides limit b).wanted = s0.wanted ∧ (compareStrides limit b).holds = s0.holds ∧
    (compareStrides limit b).cues = s0.cues ∧ (∀ l, (compareStrides limit b).queue l = s0.queue l) ∧
    (∀ l, (compareStrides limit b).laneSlots l = (s0.laneSlots l).filter (fun x => !misfit limit x)) ∧
    (compareStrides limit b).buffer.pool = s0.buffer.pool + sumLanes (fun l => slotBlocks (s0.misfits limit l)) ∧
    (compareStrides limit b).counters.abandoned =
      min 4294967295 (s0.counters.abandoned + sumLanes (fun l => (s0.misfits limit l).length)) := by
  have hcontent := compareStrides_content limit b
  obtain ⟨hslots, hpool, habandoned⟩ := compareStrides_lanes limit b
  obtain ⟨-, hwanted, hholds, hcues, hqueue, -⟩ := compareStrides_frame limit b
  generalize compareStrides limit b = t at *
  have hlanes : ∀ l, b.laneSlots l = s0.laneSlots l := laneSlots_congr h.slots_eq
  have hmisfits : ∀ l, b.misfits limit l = s0.misfits limit l := fun l => congrArg _ (hlanes l)
  refine ⟨contentFrom_trans (contentFrom_of_reports h) hcontent, hwanted.trans h.wanted_eq, hholds.trans h.holds_eq,
    hcues.trans h.cues_eq, fun l => (hqueue l).trans (queue_congr (congrArg _ h.buffer_eq) l),
    fun l => (hslots l).trans (by rw [hlanes]), ?_, ?_⟩
  · rw [hpool, h.buffer_eq]
    simp only [hmisfits]
  · rw [habandoned, h.counters_eq]
    simp only [hmisfits]

/-- The frame of an entry to UP (R3, R15, R33). -/
theorem settledUp_frame :
    contentFrom { s with link := s.link.enterUp limit lanes } (settledUp limit lanes s) ∧
    (settledUp limit lanes s).wanted = s.wanted ∧ (settledUp limit lanes s).holds = s.holds ∧ (settledUp limit lanes s).cues = s.cues ∧
    (∀ l, (settledUp limit lanes s).queue l = s.queue l) ∧
    (settledUp limit lanes s).isAsserted .linkFault = false ∧ (settledUp limit lanes s).isAsserted .linkDown = false ∧
    appendsEvents (announcedUp limit lanes s) (settledUp limit lanes s) ∧
    (∀ l, (settledUp limit lanes s).laneSlots l = (s.laneSlots l).filter (fun x => !misfit limit x)) ∧
    (settledUp limit lanes s).buffer.pool = s.buffer.pool + sumLanes (fun l => slotBlocks (s.misfits limit l)) ∧
    (settledUp limit lanes s).counters.abandoned =
      min 4294967295 (s.counters.abandoned + sumLanes (fun l => (s.misfits limit l).length)) := by
  obtain ⟨hfrom, hfault, hdown, happends⟩ := firedUp_frame limit lanes s
  rw [settledUp_eq]
  generalize firedUp limit lanes s = b at *
  obtain ⟨hcontent, hwanted, hholds, hcues, hqueue, hslots, hpool, habandoned⟩ := compareStrides_after limit hfrom
  obtain ⟨hevents, -, -, -, -, hkeep⟩ := compareStrides_frame limit b
  generalize compareStrides limit b = t at *
  exact ⟨hcontent, hwanted, hholds, hcues, hqueue, (congrArg EventRec.asserted (hkeep _ (by decide) (by decide))).trans hfault,
    (congrArg EventRec.asserted (hkeep _ (by decide) (by decide))).trans hdown, appendsEvents_trans happends hevents, hslots, hpool, habandoned⟩

end

end Sys2Proof.Machine

/-! PROOF. The ability word: the test of an attempt and the two outcomes (R1 to R3). -/

namespace Sys2Proof.Machine

/-! ## The ability word -/

theorem foldl_max_le : ∀ (l : List Nat) (a : Nat),
    a ≤ l.foldl max a ∧ (∀ x ∈ l, x ≤ l.foldl max a) ∧ (l.foldl max a = a ∨ l.foldl max a ∈ l)
  | [], a => ⟨Nat.le_refl a, by simp, .inl rfl⟩
  | b :: l, a => by
    obtain ⟨hle, hall, hmem⟩ := foldl_max_le l (max a b)
    rw [List.foldl_cons]
    refine ⟨by omega, fun x hx => ?_, ?_⟩
    · rcases List.mem_cons.mp hx with rfl | hx
      · omega
      · exact hall x hx
    · rcases hmem with h | h
      · rcases Nat.le_total a b with hab | hab
        · exact .inr (by rw [h, Nat.max_eq_right hab]; exact List.mem_cons_self ..)
        · exact .inl (h.trans (Nat.max_eq_left hab))
      · exact .inr (List.mem_cons_of_mem _ h)

theorem mem_ownLanes {counts : List Nat} {n : Nat} :
    n ∈ counts.filter (fun n => Config.ownLaneCounts.contains n) ↔ n ∈ counts ∧ n ∈ [1, 2, 4] := by
  simp [List.mem_filter, Config.ownLaneCounts]

/-- The largest valid lane count of a word that offers one (R2). -/
theorem bestLanes_of_offered {counts : List Nat} (h : ∃ n ∈ counts, n ∈ [1, 2, 4]) :
    bestLanes counts ≠ 0 ∧ bestLanes counts ∈ counts ∧ bestLanes counts ∈ [1, 2, 4] ∧
    ∀ m ∈ counts, m ∈ [1, 2, 4] → m ≤ bestLanes counts := by
  obtain ⟨-, hall, hmem⟩ := foldl_max_le (counts.filter (fun n => Config.ownLaneCounts.contains n)) 0
  have hle : ∀ m ∈ counts, m ∈ [1, 2, 4] → m ≤ bestLanes counts := fun m hm hv => hall m (mem_ownLanes.mpr ⟨hm, hv⟩)
  obtain ⟨n, hn, hv⟩ := h
  have hpos : bestLanes counts ≠ 0 := by
    have := hle n hn hv
    simp only [List.mem_cons, List.not_mem_nil, or_false] at hv
    omega
  obtain ⟨hc, hvalid⟩ := mem_ownLanes.mp (hmem.resolve_left hpos)
  exact ⟨hpos, hc, hvalid, hle⟩

theorem bestLanes_of_none {counts : List Nat} (h : ∀ n ∈ counts, n ∉ [1, 2, 4]) : bestLanes counts = 0 := by
  have hnil : counts.filter (fun n => Config.ownLaneCounts.contains n) = [] :=
    List.filter_eq_nil_iff.mpr fun n hn hc => h n hn (by simpa [Config.ownLaneCounts] using hc)
  rw [bestLanes, hnil]
  rfl

theorem validClasses_iff {n : Nat} : validClasses.contains n = true ↔ n ∈ [1024, 2048, 4096] := by
  simp [validClasses]

section

variable {s : State} {payloadClass : Nat} {counts : List Nat}

theorem takeAbility_of_valid (ht : s.link.state = .training) (hd : s.link.decided = false) (hc : payloadClass ∈ [1024, 2048, 4096])
    (hn : ∃ n ∈ counts, n ∈ [1, 2, 4]) : takeAbility payloadClass counts s = enterUp payloadClass (bestLanes counts) s := by
  have hmin : min Config.ownPayloadClass payloadClass = payloadClass := by
    simp only [List.mem_cons, List.not_mem_nil, or_false] at hc
    simp only [Config.ownPayloadClass]
    omega
  rw [takeAbility, if_neg (by simp [ht, hd]), if_pos ⟨validClasses_iff.mpr hc, (bestLanes_of_offered hn).1⟩, hmin]

theorem takeAbility_of_invalid (ht : s.link.state = .training) (hd : s.link.decided = false)
    (h : payloadClass ∉ [1024, 2048, 4096] ∨ ∀ n ∈ counts, n ∉ [1, 2, 4]) :
    takeAbility payloadClass counts s = assertEvent .linkFault { s with link := { s.link with decided := true } } := by
  have hnot : ¬ (validClasses.contains payloadClass = true ∧ bestLanes counts ≠ 0) := by
    rintro ⟨hc, hn⟩
    rcases h with h | h
    · exact h (validClasses_iff.mp hc)
    · exact hn (bestLanes_of_none h)
  rw [takeAbility, if_neg (by simp [ht, hd]), if_neg hnot]

theorem receiveAbility_of_training (ht : s.link.state = .training) :
    receiveAbility payloadClass counts s = takeAbility payloadClass counts s := by
  rw [receiveAbility, ht]

end

theorem leaveUp_training_state (own : Bool) (s : State) : (leaveUp .training own s).link.state = .training := by
  unfold leaveUp
  rw [if_pos rfl]
  rfl

/-- What an entry to UP leaves in the link and on the other blocks (R3). -/
theorem enterUp_facts (limit lanes : Nat) (s : State) :
    let t := enterUp limit lanes s
    t.link.state = .up ∧ t.link.limit = some limit ∧ t.link.laneCount = some lanes ∧ t.link.retrainRun = 0 ∧
    t.isAsserted .linkFault = false ∧ t.isAsserted .linkDown = false ∧ t.wanted = s.wanted ∧ t.timeline = s.timeline ∧
    t.holds = s.holds ∧ t.comps = s.comps ∧ t.clock = s.clock ∧ t.schedule = s.schedule ∧ t.counting = s.counting ∧
    t.store = s.store ∧ t.mgmt = s.mgmt ∧ t.sound = s.sound ∧ t.sync = s.sync ∧ t.cues = s.cues ∧ t.picture = s.picture ∧
    ∀ l, t.queue l = s.queue l := by
  obtain ⟨hcontent, hwanted, hholds, hcues, hqueue, hfault, hdown, -⟩ := settledUp_frame limit lanes s
  obtain ⟨-, -, -, hcomps, hclock, hsched, htl, hpic, hsound, hsync, hcounting, hstore, hmgmt, -, -, hlink⟩ := hcontent.fields
  rw [enterUp_eq]
  generalize settledUp limit lanes s = u at *
  have hfirst : u.link.firstCell.state = u.link.state ∧ u.link.firstCell.limit = u.link.limit ∧
      u.link.firstCell.laneCount = u.link.laneCount ∧ u.link.firstCell.retrainRun = u.link.retrainRun := by
    unfold LinkPort.firstCell LinkPort.nextCell
    split <;> exact ⟨rfl, rfl, rfl, rfl⟩
  obtain ⟨hstate, hlimit, hcount, hretrain⟩ := hfirst
  refine ⟨hstate.trans ?_, hlimit.trans ?_, hcount.trans ?_, hretrain.trans ?_, hfault, hdown, hwanted, htl,
    hholds, hcomps, hclock, hsched, hcounting, hstore, hmgmt, hsound, hsync, hcues, hpic, hqueue⟩
  all_goals rw [hlink]; rfl

/-- What an entry to UP queues and sends, and the slots that it leaves (R3, R15, R33). -/
theorem enterUp_sends {limit : Nat} (lanes : Nat) {s : State} (hw : s.wanted.length ≤ 2) :
    let t := enterUp limit lanes s
    ∃ rest, t.link.queue = s.clearReport .linkFault ++ s.clearReport .linkDown ++ s.announcement ++ rest ∧
      (∀ r ∈ rest, r.isEvent = true) ∧ t.link.sending = (if t.link.queue = [] then .fill else .report) ∧
      (∀ ws, s.link.out = .words ws → t.link.out = .opening ws ((t.link.queue.head?.map reportCell).getD fillCell)) ∧
      (∀ l, t.laneSlots l = (s.laneSlots l).filter (fun x => x.complete || decide (x.content.stride = limit))) ∧
      t.buffer.pool = s.buffer.pool + sumLanes (fun l => slotBlocks (s.misfits limit l)) ∧
      t.counters.abandoned = min 4294967295 (s.counters.abandoned + sumLanes (fun l => (s.misfits limit l).length)) := by
  obtain ⟨-, -, -, hannounced⟩ := announcedUp_frame limit lanes s
  obtain ⟨hcontent, -, -, -, -, -, -, ⟨rest, hevents, hqueue⟩, hslots, hpool, habandoned⟩ := settledUp_frame limit lanes s
  rw [hannounced hw] at hqueue
  have hout : (settledUp limit lanes s).link.out = s.link.out := by
    obtain ⟨-, -, -, -, -, -, -, -, -, -, -, -, -, -, -, hlink⟩ := hcontent.fields
    rw [hlink]
    rfl
  rw [enterUp_eq]
  generalize settledUp limit lanes s = u at *
  have hq : u.link.firstCell.queue = u.link.queue := LinkPort.nextCell_queue u.link
  refine ⟨rest, hq.trans hqueue, hevents, ?_, fun ws hws => ?_, fun l => (hslots l).trans ?_, hpool, habandoned⟩
  · refine (LinkPort.nextCell_sending u.link).trans ?_
    simp only [hq]
  · change u.link.out.then u.link.nextCell.out = _
    rw [hout, hws, LinkPort.nextCell_out, ← hq]
    rfl
  · refine List.filter_congr fun x _ => ?_
    simp [misfit]

/-- In UP an ability word is a retrain word followed by the first attempt's ability word (R1). -/
theorem receiveAbility_of_up {s : State} {payloadClass : Nat} {counts : List Nat} (hup : s.link.state = .up)
    (hnone : s.link.holdsRestart = false) :
    receiveAbility payloadClass counts s = receiveAbility payloadClass counts (leaveUp .training false s) := by
  rw [receiveAbility_of_training (leaveUp_training_state false s), receiveAbility, hup]
  simp only [hnone, restartIf, Bool.false_eq_true, if_false]

/-- Settles O7, by the test of the word in each state of the link and the facts of an entry to UP. -/
theorem abilityWordDecides : Obligations.AbilityWordDecides := by
  intro s payloadClass counts hrun
  have hexec : exec (.abilityWordReceived payloadClass counts) s = .next (receiveAbility payloadClass counts s) :=
    next_running hrun _
  have henters : s.link.state = .training → s.link.decided = false → payloadClass ∈ [1024, 2048, 4096] →
      (∃ n ∈ counts, n ∈ [1, 2, 4]) →
      exec (.abilityWordReceived payloadClass counts) s = .next (enterUp payloadClass (bestLanes counts) s) :=
    fun ht hd hc hn => by rw [hexec, receiveAbility_of_training ht, takeAbility_of_valid ht hd hc hn]
  refine ⟨fun ht hd hc hn => ?_, fun ht hd h => ?_, fun h => ?_, fun hup hnone => ?_, fun ht hd hc hn hw => ?_⟩
  · obtain ⟨-, hmem, hvalid, hmax⟩ := bestLanes_of_offered hn
    obtain ⟨hstate, hlimit, hcount, hrest⟩ := enterUp_facts payloadClass (bestLanes counts) s
    exact ⟨_, bestLanes counts, henters ht hd hc hn, hstate, hlimit, hcount, hmem, hvalid, hmax, hrest⟩
  · refine ⟨_, ?_, isAsserted_assertEvent _ _, assertEvent_reports _ _⟩
    rw [hexec, receiveAbility_of_training ht, takeAbility_of_invalid ht hd h]
  · rw [hexec, receiveAbility]
    rcases h with h | ⟨h, hd⟩
    · rw [h]
    · rw [h, takeAbility, if_pos (.inr hd)]
  · have hretrain : exec .retrainWordReceived s = .next (leaveUp .training false s) := by
      refine (next_running hrun _).trans ?_
      rw [takeRetrain_of_up hup, dropLink_of_no_restart hnone]
    obtain ⟨hreports, -⟩ := leaveUp_training false s
    have hrun' : (leaveUp .training false s).running = true := by
      rw [State.running, hreports.powered_eq, hreports.resetPin_eq]
      exact hrun
    exact ⟨_, hretrain, (hexec.trans (congrArg _ (receiveAbility_of_up hup hnone))).trans (next_running hrun' _).symm⟩
  · obtain ⟨rest, hsends⟩ := enterUp_sends (limit := payloadClass) (bestLanes counts) hw
    exact ⟨_, rest, henters ht hd hc hn, hsends⟩

end Sys2Proof.Machine

/-! PROOF. The limits that SET_LIMITS leaves and its reply: values, ranges and clamped marks (R160). -/

namespace Sys2Proof.Machine

/-! ## One setting -/

theorem clampedLimit_of_ne {number : Nat} (h3 : number ≠ 3) (h5 : number ≠ 5) (p q p' q' value : Nat) :
    clampedLimit p q number value = clampedLimit p' q' number value := by
  unfold clampedLimit
  split <;> first | rfl | contradiction

/-- What one setting puts in its limit before the high marks are clamped (R160). -/
def putValue (a : LimitArgs) : Nat := if a.number = 3 ∨ a.number = 5 then a.value else clampedLimit 0 0 a.number a.value

theorem values_length (l : Limits) : l.values.length = 18 := rfl

/-- One setting puts its value in the place of its number. -/
theorem values_put (l : Limits) {a : LimitArgs} (h : a.number ≤ 17) :
    (l.put a).values = l.values.set a.number (putValue a) := by
  obtain ⟨number, value⟩ := a
  change number ≤ 17 at h
  match number, h with
  | 0, _ | 1, _ | 2, _ | 3, _ | 4, _ | 5, _ | 6, _ | 7, _ | 8, _ | 9, _ | 10, _ | 11, _ | 12, _ | 13, _ | 14, _ | 15, _ | 16, _
  | 17, _ => simp [Limits.put, Limits.values, putValue, clampedLimit, clampNat, clampPeriod]
  | n + 18, h => omega

/-- The values after some settings, before the high marks are clamped. -/
theorem values_foldl_put : ∀ (settings : List LimitArgs) (l : Limits), (∀ a ∈ settings, a.number ≤ 17) →
    (settings.map LimitArgs.number).Nodup →
    (∀ a ∈ settings, (settings.foldl Limits.put l).values[a.number]? = some (putValue a)) ∧
    ∀ n, (∀ a ∈ settings, a.number ≠ n) → (settings.foldl Limits.put l).values[n]? = l.values[n]?
  | [], _, _, _ => ⟨nofun, fun _ _ => rfl⟩
  | a :: as, l, hall, hnodup => by
    obtain ⟨ha, has⟩ := List.forall_mem_cons.mp hall
    obtain ⟨hfresh, hrest⟩ := List.nodup_cons.mp hnodup
    obtain ⟨hnamed, hother⟩ := values_foldl_put as (l.put a) has hrest
    have hafter : ∀ b ∈ as, b.number ≠ a.number := fun b hb h => hfresh (h ▸ List.mem_map_of_mem hb)
    refine ⟨List.forall_mem_cons.mpr ⟨?_, hnamed⟩, fun n hn => ?_⟩
    · rw [List.foldl_cons, hother _ hafter, values_put l ha,
        List.getElem?_set_self (by rw [values_length]; omega)]
    · obtain ⟨hna, hnas⟩ := List.forall_mem_cons.mp hn
      rw [List.foldl_cons, hother n hnas, values_put l ha, List.getElem?_set_ne hna]

/-- The high marks are clamped against the low marks of their classes. -/
theorem values_clampHigh (l : Limits) : l.clampHigh.values =
    (l.values.set 3 (clampedLimit l.lowPic l.lowSnd 3 l.highPic)).set 5 (clampedLimit l.lowPic l.lowSnd 5 l.highSnd) := rfl

theorem values_clampHigh_of_ne (l : Limits) {n : Nat} (h3 : n ≠ 3) (h5 : n ≠ 5) : l.clampHigh.values[n]? = l.values[n]? := by
  rw [values_clampHigh, List.getElem?_set_ne h5.symm, List.getElem?_set_ne h3.symm]

/-! ## All the settings -/

section

variable {settings : List LimitArgs} (l : Limits) (hall : ∀ a ∈ settings, a.number ≤ 17)
  (hnodup : (settings.map LimitArgs.number).Nodup)

include hall hnodup

/-- A named limit takes its value clamped into its range (R160). -/
theorem apply_named {a : LimitArgs} (ha : a ∈ settings) : (l.apply settings).values[a.number]? =
    some (clampedLimit (l.apply settings).lowPic (l.apply settings).lowSnd a.number a.value) := by
  obtain ⟨hnamed, -⟩ := values_foldl_put settings l hall hnodup
  have hput := hnamed a ha
  unfold Limits.apply
  generalize settings.foldl Limits.put l = m at hput
  by_cases h3 : a.number = 3
  · rw [putValue, h3, if_pos (.inl rfl)] at hput
    have hhigh : m.highPic = a.value := Option.some.inj hput
    rw [h3, ← hhigh]
    rfl
  by_cases h5 : a.number = 5
  · rw [putValue, h5, if_pos (.inr rfl)] at hput
    have hhigh : m.highSnd = a.value := Option.some.inj hput
    rw [h5, ← hhigh]
    rfl
  · rw [values_clampHigh_of_ne m h3 h5, hput, putValue, if_neg (by omega)]
    exact congrArg some (clampedLimit_of_ne h3 h5 _ _ _ _ _)

/-- An unnamed limit stays, but for the high marks (R160). -/
theorem apply_unnamed {n : Nat} (hn : ∀ a ∈ settings, a.number ≠ n) (h3 : n ≠ 3) (h5 : n ≠ 5) :
    (l.apply settings).values[n]? = l.values[n]? := by
  obtain ⟨-, hother⟩ := values_foldl_put settings l hall hnodup
  rw [Limits.apply, values_clampHigh_of_ne _ h3 h5, hother n hn]

theorem apply_highPic (hn : ∀ a ∈ settings, a.number ≠ 3) :
    (l.apply settings).highPic = clampedLimit (l.apply settings).lowPic (l.apply settings).lowSnd 3 l.highPic := by
  obtain ⟨-, hother⟩ := values_foldl_put settings l hall hnodup
  have hkept : (settings.foldl Limits.put l).highPic = l.highPic := Option.some.inj (hother 3 hn)
  unfold Limits.apply
  rw [← hkept]
  rfl

theorem apply_highSnd (hn : ∀ a ∈ settings, a.number ≠ 5) :
    (l.apply settings).highSnd = clampedLimit (l.apply settings).lowPic (l.apply settings).lowSnd 5 l.highSnd := by
  obtain ⟨-, hother⟩ := values_foldl_put settings l hall hnodup
  have hkept : (settings.foldl Limits.put l).highSnd = l.highSnd := Option.some.inj (hother 5 hn)
  unfold Limits.apply
  rw [← hkept]
  rfl

end

/-! ## The reply -/

theorem limitReply_length (old new : Limits) (settings : List LimitArgs) : (limitReply old new settings).length = 18 := by
  rw [limitReply, List.length_mapIdx, List.length_zip, values_length, values_length]
  rfl

/-- One limit of the reply, by the setting that names it. -/
theorem limitReply_get (old new : Limits) (settings : List LimitArgs) {n v w : Nat} (hv : new.values[n]? = some v)
    (hw : old.values[n]? = some w) : (limitReply old new settings)[n]? =
      some (match settings.find? (fun a => decide (a.number = n)) with
        | some a => (v, decide (v ≠ a.value))
        | none => (v, decide (v ≠ w))) := by
  have hzip : (new.values.zip old.values)[n]? = some (v, w) := List.getElem?_zip_eq_some.mpr ⟨hv, hw⟩
  rw [limitReply, List.getElem?_mapIdx, hzip]
  rfl

/-- The setting of a number, where no number is named twice. -/
theorem find?_setting {settings : List LimitArgs} (hnodup : (settings.map LimitArgs.number).Nodup) {a : LimitArgs}
    (ha : a ∈ settings) : settings.find? (fun b => decide (b.number = a.number)) = some a := by
  obtain ⟨b, hb⟩ : ∃ b, settings.find? (fun b => decide (b.number = a.number)) = some b :=
    Option.isSome_iff_exists.mp (List.find?_isSome.mpr ⟨a, ha, by simp⟩)
  have hsame : b.number = a.number := by simpa using List.find?_some hb
  rw [hb, eq_of_nodup_map hnodup (List.mem_of_find?_eq_some hb) ha hsame]

theorem limitReply_named (old new : Limits) {settings : List LimitArgs} (hall : ∀ a ∈ settings, a.number ≤ 17)
    (hnodup : (settings.map LimitArgs.number).Nodup) {a : LimitArgs} (ha : a ∈ settings) {v : Nat}
    (hv : new.values[a.number]? = some v) : (limitReply old new settings)[a.number]? = some (v, decide (v ≠ a.value)) := by
  have hbound : a.number < old.values.length := by
    have := hall a ha
    rw [values_length]
    omega
  rw [limitReply_get old new settings hv (List.getElem?_eq_getElem hbound), find?_setting hnodup ha]

theorem limitReply_unnamed (old new : Limits) {settings : List LimitArgs} {n v w : Nat} (hn : ∀ a ∈ settings, a.number ≠ n)
    (hv : new.values[n]? = some v) (hw : old.values[n]? = some w) :
    (limitReply old new settings)[n]? = some (v, decide (v ≠ w)) := by
  have hnone : settings.find? (fun a => decide (a.number = n)) = none :=
    List.find?_eq_none.mpr fun a ha => by simpa using hn a ha
  rw [limitReply_get old new settings hv hw, hnone]

/-! ## Ranges -/

theorem Limits.inRange_clampHigh {l : Limits} (h : l.inRange) : l.clampHigh.inRange := by
  simp only [Limits.inRange, Limits.clampHigh, clampNat] at h ⊢
  omega

/-- A setting keeps the limits such that clamped high marks bring them into range (R160). -/
theorem inRange_put {l : Limits} (a : LimitArgs) (h : l.clampHigh.inRange) : (l.put a).clampHigh.inRange := by
  unfold Limits.put
  split <;> simp only [Limits.inRange, Limits.clampHigh, clampNat, clampPeriod] at h ⊢ <;> first | omega | (split <;> omega)

/-- Limits in their ranges stay in them, whatever SET_LIMITS names (R160). -/
theorem inRange_apply {l : Limits} (settings : List LimitArgs) (h : l.inRange) : (l.apply settings).inRange := by
  have hfold : ∀ (settings : List LimitArgs) (m : Limits), m.clampHigh.inRange →
      (settings.foldl Limits.put m).clampHigh.inRange := by
    intro settings
    induction settings with
    | nil => exact fun _ h => h
    | cons a as ih => exact fun m h => ih (m.put a) (inRange_put a h)
  exact hfold settings l (Limits.inRange_clampHigh h)

theorem inRange_reset : Limits.reset.inRange := by
  unfold Limits.inRange
  decide

end Sys2Proof.Machine

/-! PROOF. What the owning blocks make of new limits: leads, timers and warnings (R42, R72, R83, R145, R160). -/

namespace Sys2Proof.Machine

/-! ## The warnings -/

theorem any_place_iff (f : Place → Bool) (s : State) :
    s.counting.places.toList.any f = true ↔ ∃ i : Fin 32, f (s.place i) = true := by
  rw [List.any_eq_true]
  constructor
  · rintro ⟨p, hp, hf⟩
    obtain ⟨j, hj, rfl⟩ := Vector.mem_iff_getElem.mp (Vector.mem_toList_iff.mp hp)
    exact ⟨⟨j, hj⟩, hf⟩
  · rintro ⟨i, hf⟩
    exact ⟨s.place i, Vector.mem_toList_iff.mpr (Vector.mem_iff_getElem.mpr ⟨i, i.isLt, rfl⟩), hf⟩

theorem Place.openRecord_eq_some_iff {p : Place} {a : Allowance} :
    p.openRecord = some a ↔ p.state = .opened ∧ p.record = some a := by
  unfold Place.openRecord
  split <;> simp_all

/-- ALLOWANCE_LOW stands where an OPEN allowance with a limit has no more than the threshold left (R145). -/
theorem allowanceLow_iff (s : State) : s.allowanceLow = true ↔ ∃ (i : Fin 32) (a : Allowance) (n : Nat),
    (s.place i).state = .opened ∧ (s.place i).record = some a ∧ a.allowed = some n ∧ n ≤ a.used + s.mgmt.limits.warn := by
  rw [State.allowanceLow, any_place_iff]
  refine exists_congr fun i => ?_
  generalize s.place i = p
  constructor
  · intro h
    obtain ⟨a, ha⟩ : ∃ a, p.openRecord = some a := by
      cases hp : p.openRecord with
      | none => rw [hp] at h; cases h
      | some a => exact ⟨a, rfl⟩
    obtain ⟨n, hn⟩ : ∃ n, a.allowed = some n := by
      cases hallowed : a.allowed with
      | none => rw [ha, Option.bind_some, hallowed] at h; cases h
      | some n => exact ⟨n, rfl⟩
    obtain ⟨hopen, hrecord⟩ := Place.openRecord_eq_some_iff.mp ha
    rw [ha, Option.bind_some, hn, Option.map_some, Option.getD_some, decide_eq_true_iff] at h
    exact ⟨a, n, hopen, hrecord, hn, by omega⟩
  · rintro ⟨a, n, hopen, hrecord, hn, hle⟩
    rw [Place.openRecord_eq_some_iff.mpr ⟨hopen, hrecord⟩, Option.bind_some, hn, Option.map_some, Option.getD_some,
      decide_eq_true_iff]
    omega

/-- ALLOWANCE_EXPIRING stands where an OPEN allowance ends within a day (R145). -/
theorem allowanceExpiring_iff (s : State) : s.allowanceExpiring = true ↔ ∃ (i : Fin 32) (a : Allowance),
    (s.place i).state = .opened ∧ (s.place i).record = some a ∧ minuteSecs a.untilDay a.untilMinute ≤ s.nowSecs + 86400 := by
  rw [State.allowanceExpiring, any_place_iff]
  refine exists_congr fun i => ?_
  generalize s.place i = p
  constructor
  · intro h
    cases hp : p.openRecord with
    | none => rw [hp] at h; cases h
    | some a =>
      obtain ⟨hopen, hrecord⟩ := Place.openRecord_eq_some_iff.mp hp
      rw [hp] at h
      exact ⟨a, hopen, hrecord, of_decide_eq_true h⟩
  · rintro ⟨a, hopen, hrecord, hle⟩
    rw [Place.openRecord_eq_some_iff.mpr ⟨hopen, hrecord⟩]
    exact decide_eq_true hle

/-- The warnings are their conditions once they have been evaluated (R145). -/
theorem evaluateWarnings_levels (s : State) : (evaluateWarnings s).isAsserted .allowanceLow = s.allowanceLow ∧
    (evaluateWarnings s).isAsserted .allowanceExpiring = s.allowanceExpiring := by
  refine ⟨?_, isAsserted_setLevel _ (by decide) _⟩
  rw [← isAsserted_setLevel s (k := .allowanceLow) (by decide) s.allowanceLow]
  exact congrArg EventRec.asserted (event_setLevel_of_ne _ (by decide) (by decide) _)

/-! ## The timers -/

/-- `t` has been closed as ABANDONED over the allowance places of `s` (R72, R83, R90). -/
def AbandonedFrom (s t : State) : Prop :=
  t.timeline.state = .closing ∧ t.timeline.outcome = some .abandoned ∧ t.wanted = [] ∧ t.counting.places = s.counting.places

theorem enterClosing_abandoned (v : State) : AbandonedFrom v (enterClosing .abandoned v) := by
  obtain ⟨t, ht, hstate, houtcome, -, -, -, -, -, -, -, -, -, -, -, hwanted, -, -, -, -, -, -, -, -, -, -, hplaces, -⟩ :=
    closingLeaves .abandoned v
  rw [ht]
  exact ⟨hstate, houtcome, hwanted, hplaces⟩

theorem enterClosing_p (o : ShowOutcome) (v : State) : (enterClosing o v).timeline.p = v.timeline.p := by
  obtain ⟨t, ht, -, -, -, -, -, -, -, -, hp, -⟩ := closingLeaves o v
  rw [ht, hp]

section

variable {v : State}

theorem checkTimers_of_cueing (h : v.timeline.state = .cueing) : checkTimers v =
    if v.mgmt.limits.cueSeconds * 96000 < v.timeline.cueTimer then enterClosing .abandoned v else v := by
  simp [checkTimers, h, Config.ticksPerSecond]

theorem checkTimers_of_stalled (h : v.timeline.state = .stalled) :
    ((∃ n, v.timeline.stallTimer = some n ∧ v.mgmt.limits.stallSeconds * 96000 < n) →
      checkTimers v = enterClosing .abandoned v) ∧
    ((¬ ∃ n, v.timeline.stallTimer = some n ∧ v.mgmt.limits.stallSeconds * 96000 < n) → checkTimers v = v) := by
  cases ht : v.timeline.stallTimer with
  | none => simp [checkTimers, h, ht]
  | some n =>
    have hstalled : checkTimers v = if v.mgmt.limits.stallSeconds * 96000 < n then enterClosing .abandoned v else v := by
      simp [checkTimers, h, ht, Config.ticksPerSecond]
    exact ⟨fun ⟨m, hm, hlt⟩ => hstalled.trans (if_pos (Option.some.inj hm ▸ hlt)),
      fun hno => hstalled.trans (if_neg fun hlt => hno ⟨n, rfl, hlt⟩)⟩

theorem checkTimers_of_other (h : v.timeline.state ≠ .cueing) (h' : v.timeline.state ≠ .stalled) : checkTimers v = v := by
  simp [checkTimers, h, h']

theorem checkTimers_p : (checkTimers v).timeline.p = v.timeline.p := by
  unfold checkTimers
  dsimp only
  split
  · exact enterClosing_p _ v
  · rfl

theorem checkTimers_show : showFrom v (checkTimers v) := showFrom_ite (enterClosing_show v _) (showFrom_refl v)

end

end Sys2Proof.Machine

/-! PROOF. The obligation on SET_LIMITS (R42, R72, R83, R145, R160). -/

namespace Sys2Proof.Machine

/-! ## Leads, then timers -/

section

variable {s u : State} {new : Limits}

/-- The showing after settled leads and the test of its timers, state by state (R72, R83, R160). -/
theorem timers_outcome (hutl : u.timeline = s.timeline) (husound : u.sound = s.sound) (huclock : u.clock = s.clock)
    (hucounting : u.counting = s.counting) (hlimits : (actOnLeads u).mgmt.limits = new) :
    let x := checkTimers (actOnLeads u)
    let cueOver := new.cueSeconds * 96000 < s.timeline.cueTimer
    let stallOver := ∃ n, s.timeline.stallTimer = some n ∧ new.stallSeconds * 96000 < n
    x.timeline.p = s.timeline.p ∧
    (s.timeline.state ≠ .cueing → s.timeline.state ≠ .ready → s.timeline.state ≠ .stalled → x = u) ∧
    (s.timeline.state = .cueing →
      (u.startMet = true → s.startReached = false → x.timeline = { s.timeline with state := .ready }) ∧
      (u.startMet = true → s.startReached = true → x.timeline.state = .playing) ∧
      (u.startMet = false → ¬ cueOver → x = u) ∧ (u.startMet = false → cueOver → AbandonedFrom s x)) ∧
    (s.timeline.state = .ready →
      (u.startMet = true → x = u) ∧
      (u.startMet = false → ¬ cueOver → x.timeline = { s.timeline with state := .cueing } ∧
        reportsFrom { u with timeline := x.timeline, sync := x.sync } x) ∧
      (u.startMet = false → cueOver → AbandonedFrom s x)) ∧
    (s.timeline.state = .stalled →
      (u.resumeMet = true → x.timeline.state = .playing ∧ x.timeline.stallTimer = none) ∧
      (u.resumeMet = false → ¬ stallOver → x = u) ∧ (u.resumeMet = false → stallOver → AbandonedFrom s x)) := by
  obtain ⟨hp, hcueing, hready, -, hstalled, hother⟩ := leads_outcome (s := s) (u := u) rfl hutl husound huclock
  have hclosed : ∀ v : State, v.counting = s.counting → AbandonedFrom s (enterClosing .abandoned v) := fun v hv => by
    obtain ⟨h1, h2, h3, h4⟩ := enterClosing_abandoned v
    exact ⟨h1, h2, h3, h4.trans (congrArg Counting.places hv)⟩
  intro x cueOver stallOver
  refine ⟨checkTimers_p.trans hp, fun h1 h2 h3 => ?_, fun hs => ?_, fun hs => ?_, fun hs => ?_⟩
  · obtain hkept := hother h1 h2 h3
    change checkTimers (actOnLeads u) = u
    rw [hkept]
    exact checkTimers_of_other (by rw [hutl]; exact h1) (by rw [hutl]; exact h3)
  · obtain ⟨hwaits, hreadied, hplays⟩ := hcueing hs
    have htimers : u.startMet = false → x = if cueOver then enterClosing .abandoned u else u := fun hm => by
      have hkept := hwaits hm
      rw [hkept] at hlimits
      change checkTimers (actOnLeads u) = _
      rw [hkept, checkTimers_of_cueing (by rw [hutl]; exact hs), hlimits, hutl]
    refine ⟨fun hm hr => ?_, fun hm hr => ?_, fun hm ho => (htimers hm).trans (if_neg ho), fun hm ho => ?_⟩
    · obtain ⟨htl, -⟩ := hreadied hm hr
      change (checkTimers (actOnLeads u)).timeline = _
      rw [checkTimers_of_other (by rw [htl]; exact nofun) (by rw [htl]; exact nofun), htl]
    · obtain ⟨hstate, -⟩ := hplays hm hr
      change (checkTimers (actOnLeads u)).timeline.state = _
      rw [checkTimers_of_other (by rw [hstate]; exact nofun) (by rw [hstate]; exact nofun), hstate]
    · rw [(htimers hm).trans (if_pos ho)]
      exact hclosed u hucounting
  · obtain ⟨hkeeps, hfalls, -⟩ := hready hs
    have hfallen : u.startMet = false → (actOnLeads u).timeline.state = .cueing ∧
        x = if cueOver then enterClosing .abandoned (actOnLeads u) else actOnLeads u := fun hm => by
      obtain ⟨htl, -⟩ := hfalls hm
      have hstate : (actOnLeads u).timeline.state = .cueing := by rw [htl]
      refine ⟨hstate, (checkTimers_of_cueing hstate).trans ?_⟩
      rw [hlimits, htl]
    refine ⟨fun hm => ?_, fun hm ho => ?_, fun hm ho => ?_⟩
    · change checkTimers (actOnLeads u) = u
      rw [hkeeps hm]
      exact checkTimers_of_other (by rw [hutl, hs]; exact nofun) (by rw [hutl, hs]; exact nofun)
    · obtain ⟨-, hx⟩ := hfallen hm
      rw [hx.trans (if_neg ho)]
      exact hfalls hm
    · obtain ⟨-, hx⟩ := hfallen hm
      obtain ⟨-, hfrom⟩ := hfalls hm
      rw [hx.trans (if_pos ho)]
      exact hclosed _ (hfrom.counting_eq.trans hucounting)
  · obtain ⟨hwaits, hresumes⟩ := hstalled hs
    refine ⟨fun hm => ?_, fun hm ho => ?_, fun hm ho => ?_⟩
    · obtain ⟨hstate, htimer, -⟩ := hresumes hm
      change (checkTimers (actOnLeads u)).timeline.state = _ ∧ (checkTimers (actOnLeads u)).timeline.stallTimer = _
      rw [checkTimers_of_other (by rw [hstate]; exact nofun) (by rw [hstate]; exact nofun)]
      exact ⟨hstate, htimer⟩
    all_goals
      have hkept := hwaits hm
      rw [hkept] at hlimits
      obtain ⟨hover, hnot⟩ := checkTimers_of_stalled (v := u) (by rw [hutl]; exact hs)
      rw [hlimits, hutl] at hover hnot
    · change checkTimers (actOnLeads u) = u
      rw [hkept, hnot ho]
    · change AbandonedFrom s (checkTimers (actOnLeads u))
      rw [hkept, hover ho]
      exact hclosed u hucounting

end

/-! ## New limits taken -/

/-- The state with its leads settled against new limits (R42). -/
def limitLeads (new : Limits) (s : State) : State := settleLeads s (s.setLimits new)

theorem applyLimits_eq (new : Limits) (s : State) : applyLimits new s =
    if s.mgmt.limits.warn = new.warn then checkTimers (actOnLeads (limitLeads new s))
    else evaluateWarnings (checkTimers (actOnLeads (limitLeads new s))) := by
  rw [limitLeads, ← settleFrom_eq]
  rfl

theorem limitLeads_eq (new : Limits) (s : State) : limitLeads new s =
    { s with
      mgmt := { s.mgmt with limits := new }, holds := (limitLeads new s).holds,
      link := { s.link with queue := (limitLeads new s).link.queue } } := by
  have h := (settleLeads_holdsFrom s (s.setLimits new)).eq
  unfold limitLeads
  generalize settleLeads s (s.setLimits new) = u at h ⊢
  exact h

theorem actOnLeads_limits (new : Limits) (s : State) : (actOnLeads (limitLeads new s)).mgmt.limits = new := by
  obtain ⟨-, -, -, -, -, -, -, hmgmt, -⟩ := (settleFrom_show (s.setLimits new) s).fields
  rw [limitLeads, ← settleFrom_eq, hmgmt]
  rfl

theorem applyLimits_show (new : Limits) (s : State) : showFrom (s.setLimits new) (applyLimits new s) := by
  have h : showFrom (s.setLimits new) (checkTimers (settleFrom s (s.setLimits new))) :=
    showFrom_trans (settleFrom_show _ s) checkTimers_show
  unfold applyLimits
  generalize checkTimers (settleFrom s (s.setLimits new)) = x at h ⊢
  exact showFrom_ite h (showFrom_trans h (evaluateWarnings_show x))

theorem applyLimits_mgmt (new : Limits) (s : State) : (applyLimits new s).mgmt = { s.mgmt with limits := new } := by
  obtain ⟨-, -, -, -, -, -, -, hmgmt, -⟩ := (applyLimits_show new s).fields
  exact hmgmt

theorem badSettings_iff (settings : List LimitArgs) : badSettings settings = true ↔
    settings = [] ∨ 18 < settings.length ∨ (∃ a ∈ settings, 17 < a.number) ∨ ¬ (settings.map LimitArgs.number).Nodup := by
  simp only [badSettings, Bool.or_eq_true, List.isEmpty_iff, decide_eq_true_iff, List.any_eq_true, hasRepeat_eq_true_iff, or_assoc]

/-- The command itself (R160). -/
theorem exec_setLimits (tag : Nat) (settings : List LimitArgs) {s : State} (h : s.serves = true) :
    exec (.setLimits tag settings) s = .next (if badSettings settings then refuse 3 tag .badArgument (acceptCommand s)
      else reply 3 tag (.limits (limitReply s.mgmt.limits (s.mgmt.limits.apply settings) settings))
        (applyLimits (s.mgmt.limits.apply settings) (acceptCommand s))) := by
  have hmgmt := acceptCommand_mgmt s
  have hbody := next_manage h 3 tag (fun s => if badSettings settings then refuse 3 tag .badArgument s
    else reply 3 tag (.limits (limitReply s.mgmt.limits (s.mgmt.limits.apply settings) settings))
      (applyLimits (s.mgmt.limits.apply settings) s))
  generalize acceptCommand s = a at hmgmt hbody ⊢
  rw [← hmgmt]
  exact hbody

/-- What the evaluation of the warnings adds where the threshold changes (R145, R160). -/
theorem warnings_outcome {s x t : State} {new : Limits}
    (ht : t = if s.mgmt.limits.warn = new.warn then x else evaluateWarnings x) (hmgmt : t.mgmt = { s.mgmt with limits := new })
    (hclock : t.clock = s.clock) :
    reportsFrom x t ∧ (new.warn = s.mgmt.limits.warn → t = x) ∧
    (new.warn ≠ s.mgmt.limits.warn →
      (t.isAsserted .allowanceLow = true ↔ ∃ (i : Fin 32) (a : Allowance) (n : Nat), (t.place i).state = .opened ∧
        (t.place i).record = some a ∧ a.allowed = some n ∧ n ≤ a.used + new.warn) ∧
      (t.isAsserted .allowanceExpiring = true ↔ ∃ (i : Fin 32) (a : Allowance), (t.place i).state = .opened ∧
        (t.place i).record = some a ∧ minuteSecs a.untilDay a.untilMinute ≤ s.nowSecs + 86400)) := by
  refine ⟨?_, fun hw => ht.trans (if_pos hw.symm), fun hw => ?_⟩
  · rw [ht]
    split
    · exact reportsFrom_refl x
    · exact evaluateWarnings_reports x
  · obtain rfl := ht.trans (if_neg (Ne.symm hw))
    have hreports := evaluateWarnings_reports x
    have hplace : ∀ i, (evaluateWarnings x).place i = x.place i := fun i => by rw [State.place, hreports.counting_eq]; rfl
    have hwarn : x.mgmt.limits.warn = new.warn := by rw [← hreports.mgmt_eq, hmgmt]
    have hnow : x.nowSecs = s.nowSecs := by
      rw [State.nowSecs, ← hreports.clock_eq, hclock]
      rfl
    obtain ⟨hlow, hexpiring⟩ := evaluateWarnings_levels x
    rw [hlow, hexpiring, allowanceLow_iff, allowanceExpiring_iff, hwarn, hnow]
    simp only [hplace, and_self]

/-- Settles O27, by the values that the settings leave, and by the leads, the timers and the warnings against new limits. -/
theorem setLimitsInstalls : Obligations.SetLimitsInstalls := by
  refine ⟨fun tag settings s hserves => ⟨fun hbad => ?_, fun hne hlen hall hnodup => ⟨?_, ?_⟩⟩, fun new s => ?owners,
    fun l settings hall hnodup => ⟨fun a ha => apply_named l hall hnodup ha, fun n h3 h5 hn => apply_unnamed l hall hnodup hn h3 h5,
      apply_highPic l hall hnodup, apply_highSnd l hall hnodup, limitReply_length _ _ _,
      fun a ha v hv => limitReply_named _ _ hall hnodup ha hv, fun n v w hn hv hw => limitReply_unnamed _ _ hn hv hw⟩,
    inRange_reset, fun l settings => inRange_apply settings⟩
  · rw [exec_setLimits tag settings hserves, if_pos ((badSettings_iff settings).mpr hbad)]
  · rw [exec_setLimits tag settings hserves, if_neg fun h => ?_]
    rcases (badSettings_iff settings).mp h with h | h | ⟨a, ha, hbig⟩ | h
    · exact hne h
    · omega
    · have := hall a ha
      omega
    · exact h hnodup
  · rw [applyLimits_mgmt, acceptCommand_mgmt]
  case owners =>
    have hu := limitLeads_eq new s
    have hshow := applyLimits_show new s
    have hlimits := actOnLeads_limits new s
    have ht := applyLimits_eq new s
    intro u t cueOver stallOver abandoned
    have hsettled : limitLeads new s = u := rfl
    have happlied : applyLimits new s = t := rfl
    rw [hsettled] at hu ht hlimits
    rw [happlied] at ht hshow
    clear_value u t
    obtain ⟨hpowered, hpin, hsignal, hcomps, hclock, hschedule, hstore, hmgmt, hpending, hlink⟩ := hshow.fields
    obtain ⟨hp, hother, hcueing, hready, hstalled⟩ := timers_outcome (congrArg State.timeline hu) (congrArg State.sound hu)
      (congrArg State.clock hu) (congrArg State.counting hu) hlimits
    generalize checkTimers (actOnLeads u) = x at ht hp hother hcueing hready hstalled
    obtain ⟨hreports, hsame, hwarnings⟩ := warnings_outcome ht hmgmt hclock
    have htl := hreports.timeline_eq
    have habandoned : AbandonedFrom s x → abandoned := fun ⟨h1, h2, h3, h4⟩ =>
      ⟨by rw [htl]; exact h1, by rw [htl]; exact h2, hreports.wanted_eq.trans h3, by rw [hreports.counting_eq]; exact h4⟩
    have hquiet : x = u → reportsFrom u t := fun h => h ▸ hreports
    refine ⟨hu, hmgmt, hlink, hpowered, hpin, hsignal, hcomps, hclock, hschedule, hstore, hpending, by rw [htl]; exact hp,
      fun h1 h2 h3 => ⟨hquiet (hother h1 h2 h3), fun hw => (hsame hw).trans (hother h1 h2 h3)⟩, fun hs => ?_, fun hs => ?_,
      fun hs => ?_, hwarnings⟩
    · obtain ⟨h1, h2, h3, h4⟩ := hcueing hs
      rw [htl]
      exact ⟨h1, h2, fun hm ho => hquiet (h3 hm ho), fun hm ho => habandoned (h4 hm ho)⟩
    · obtain ⟨h1, h2, h3⟩ := hready hs
      rw [htl, hreports.sync_eq]
      exact ⟨fun hm => hquiet (h1 hm), fun hm ho => ⟨(h2 hm ho).1, reportsFrom_trans (h2 hm ho).2 hreports⟩,
        fun hm ho => habandoned (h3 hm ho)⟩
    · obtain ⟨h1, h2, h3⟩ := hstalled hs
      rw [htl]
      exact ⟨h1, fun hm ho => hquiet (h2 hm ho), fun hm ho => habandoned (h3 hm ho)⟩

end Sys2Proof.Machine
